-- ==== Sys2Proof/Word.lean ====
section
/-!
DEFINITION. The number types the manual uses and the plain constants of Table 0-4.
Bits stay bit vectors only where the manual numbers them: the 32-bit slots of a TDM port frame.
-/

namespace Sys2Proof

/-- An audio sample or any exact intermediate of one (00_scope.md 0.6.2): a 24-bit signed integer wherever a
rule clamps it, an unbounded integer while it is computed. -/
abbrev Sample := Int

/-- One 32-bit slot of a TDM port frame (R15). -/
abbrev Slot32 := BitVec 32

/-- One byte of a host message or a lane record, 0 to 255. -/
abbrev OctetN := Nat

/-- The coefficient unity, in units of 1/65536 (Table 0-3). -/
def unity : Int := 65536

/-- The largest audio sample (0.6.2). -/
def sampleMax : Int := 8388607

/-- The smallest audio sample (0.6.2). -/
def sampleMin : Int := -8388608

end Sys2Proof
end

