-- ==== Sys2Proof/Syntax.lean ====
section
/-!
DEFINITION. The commands of the block: one constructor of `Instr` per row of spec/opcode_table.json, in the table's
order, with the operands the rules give the row. The table itself gives no operand fields.
-/

namespace Sys2Proof

/-- The two ends of a link (R1). -/
inductive Role where
  | desk
  | stage
  deriving DecidableEq, Repr, Inhabited

/-- The two paths of a link (chapter 2). -/
inductive Path where
  | a
  | b
  deriving DecidableEq, Repr, Inhabited

/-- The bank of a source reference (R65). -/
inductive Bank where
  | input
  | ret
  deriving DecidableEq, Repr, Inhabited

/-- A contribution's source reference: a relative channel 0 to 63 of bank INPUT or a return 0 to 7 (R65). -/
structure SrcRef where
  bank : Bank
  idx : Nat
  deriving DecidableEq, Repr, Inhabited

/-- The three talk sources (7.1). -/
inductive Source where
  | foh
  | mon
  | stg
  deriving DecidableEq, Repr, Inhabited

/-- The strap levels read at power-on and at the release of the reset pin (R1, R3, Table 9-2). The role strap is
given as the role its level selects. -/
structure Straps where
  role : Role
  speed1 : Bool
  speed0 : Bool
  deriving DecidableEq, Repr, Inhabited

/-- What the outside gives one sample event (R15): the input port frames just completed, as slots of 32 bits, and
the two choices the manual leaves free within the event.
`ports` are the 8 microphone ports at STAGE and the return port at DESK; `talk` is the talk port of either end.
`emitFirst` takes the meter emission before the samples of the event (R155).
`expiryFirst` takes the resend timer's expiry before an ack of the event (R71). -/
structure SampleInput where
  ports : List (List Slot32)
  talk : List Slot32
  emitFirst : Bool
  expiryFirst : Bool
  deriving DecidableEq, Repr, Inhabited

/-- One character on the receive line as the receiver samples it (R160): three samples of the start bit, of each
data bit (least significant first) and of the stop bit. -/
structure LineChar where
  start : Bool × Bool × Bool
  data : List (Bool × Bool × Bool)
  stop : Bool × Bool × Bool
  deriving DecidableEq, Repr, Inhabited

/-- The optional fields of SET_PATH in presence-bit order (Table 10-2). -/
structure PathSet where
  enabled : Option Nat
  threshold : Option Nat
  silenceSel : Option Nat
  autoBurst : Option Nat
  preferred : Option Nat
  revertive : Option Nat
  deriving DecidableEq, Repr, Inhabited

/-- The optional fields of SET_CHANNEL in presence-bit order (Table 10-2). -/
structure ChanSet where
  gain : Option Nat
  pad : Option Nat
  polarity : Option Nat
  mute : Option Nat
  phantom : Option Nat
  deriving DecidableEq, Repr, Inhabited

/-- The optional fields of SET_MIX in presence-bit order (Table 10-2). -/
structure MixSet where
  master : Option Nat
  offset : Option Nat
  dim : Option Nat
  talkLevel : Option Nat
  talkMask : Option Nat
  deriving DecidableEq, Repr, Inhabited

/-- The optional fields of SET_TALKCFG in presence-bit order (Table 10-2). -/
structure TalkCfgSet where
  cueMask : Option Nat
  cueLevel : Option Nat
  limit : Option Nat
  deriving DecidableEq, Repr, Inhabited

/-- The optional fields of SET_LOCK in presence-bit order (Table 10-2). -/
structure LockSet where
  preamp : Option Nat
  condition : Option Nat
  mix : Option Nat
  talk : Option Nat
  deriving DecidableEq, Repr, Inhabited

/-- The nine requests for stage-owned state, which the DESK end turns into lane records of the same kind (R77,
Table 4-2). Fields hold the numbers of the request's field bytes (R173). -/
inductive Update where
  | setChannel (channel : Nat) (f : ChanSet)
  | setMix (mix : Nat) (f : MixSet)
  | putContrib (mix bank idx code : Nat)
  | dropContrib (mix bank idx : Nat)
  | clearMix (mix : Nat)
  | openTalk (source priority mode requested : Nat)
  | closeTalk (source : Nat)
  | setTalkCfg (f : TalkCfgSet)
  | setLock (f : LockSet)
  deriving DecidableEq, Repr, Inhabited

/-- The 24 requests of Table 10-2. -/
inductive Request where
  | identify
  | setState (target : Nat)
  | resetSoft
  | linkReset
  | setNoticeMask (mask : Nat)
  | setPath (path : Nat) (f : PathSet)
  | getPath (path : Nat)
  | setPlayout (delay : Nat)
  | getLink
  | setClock (source : Nat)
  | getChannel (channel : Nat)
  | getMix (mix : Nat)
  | getTalk
  | getLock
  | meterRead (first count : Nat)
  | update (u : Update)
  deriving DecidableEq, Repr, Inhabited

/-- The commands: one constructor per row of spec/opcode_table.json, in its order. A row that names a step of the
part carries the identifier of the path, channel, mix, destination or source the step is of; a request carries its
tag and fields. -/
inductive Instr where
  | powerOn (st : Straps)
  | resetPinAssert
  | resetPinRelease (st : Straps)
  | sampleEvent (i : SampleInput)
  | laneRecordComplete
  | frameReceived (p : Path) (bits : List Bool)
  | reAnchor
  | lockStepComplete (p : Path)
  | identStepComplete (p : Path)
  | quietTailEnd
  | goBack
  | lightWindowEnd (p : Path)
  | silenceTimeout (p : Path)
  | bringupStall (p : Path)
  | errorWindowEnd (p : Path)
  | pathRecovered (p : Path)
  | burstEntry (p : Path)
  | burstCycleRestart (p : Path)
  | clockWindowEnd
  | clockQualified
  | wakeComplete
  | gainWalkStep (channel : Nat)
  | phantomRiseEnd (channel : Nat)
  | phantomFallEnd (channel : Nat)
  | contribFreed (mix : Nat) (ref : SrcRef)
  | leavingEnd (mix : Nat)
  | arrivingEnd (mix : Nat)
  | fadeEnd (dest : Nat)
  | latchedLimit (src : Source)
  | cmpFrameClosed
  | framingError
  | frameTooLong
  | requestExecute
  | transmitFrameStart
  | transmitFrameEnd
  | holdAssert
  | holdRelease
  | identify (tag : Nat)
  | setState (tag target : Nat)
  | resetSoft (tag : Nat)
  | linkReset (tag : Nat)
  | setNoticeMask (tag mask : Nat)
  | setPath (tag path : Nat) (f : PathSet)
  | getPath (tag path : Nat)
  | setPlayout (tag delay : Nat)
  | getLink (tag : Nat)
  | setClock (tag source : Nat)
  | setChannel (tag channel : Nat) (f : ChanSet)
  | getChannel (tag channel : Nat)
  | setMix (tag mix : Nat) (f : MixSet)
  | getMix (tag mix : Nat)
  | putContrib (tag mix bank idx code : Nat)
  | dropContrib (tag mix bank idx : Nat)
  | clearMix (tag mix : Nat)
  | openTalk (tag source priority mode requested : Nat)
  | closeTalk (tag source : Nat)
  | setTalkCfg (tag : Nat) (f : TalkCfgSet)
  | getTalk (tag : Nat)
  | setLock (tag : Nat) (f : LockSet)
  | getLock (tag : Nat)
  | meterRead (tag first count : Nat)
  | characterReceived (c : LineChar)
  | lineIdleCharacterTime
  | receiverLightChange (p : Path) (lit : Bool)
  | wordClockEdge
  deriving DecidableEq, Repr, Inhabited

end Sys2Proof
end

