-- ==== Sys2Proof/Config.lean ====
section
/-!
DEFINITION. What the manual fixes for one silicon but does not state, as constants without a body: no proof can see
a value of them, so a claim about them holds whatever they are (log entries 15, 16 and 34).
-/

namespace Sys2Proof.Config

/-- The silicon revision number IDENTIFY reports, less 1 (R175: 'a silicon revision number, 1 to 255'). -/
opaque siliconRevision : Fin 255

/-- FREE VALUE (log entry 15): the version an unknown contribution entry of a mix takes at DUMP_END (R83) when the
mix's own settings entry is unknown. First argument: the count of free values drawn before; second: the mix. -/
opaque absentVersion : Nat → Nat → Fin 65536

/-- FREE VALUE (log entry 34): whether the transmit arbiter takes the notice first, of a reply and a notice that both joined
while the transmitter was idle (R166). The argument: the count of free values drawn before. -/
opaque noticeFirst : Nat → Bool

end Sys2Proof.Config
end

