-- ==== Sys2Proof/Machine/State.lean ====
section
/-!
DEFINITION. The state of one MX-6416 part as plain data, block by block (Table 0-1), and its value right after
power-on. Fields named "...Due" are the model's own: a step of the table has come due and waits for its command
(log entry 2). Fields of `Bus` and the outputs are the values of the last sample event (log entry 27).
-/

namespace Sys2Proof.Machine

/-- What can stop a step with a fault. The manual names no fault of the part: it gives every damaged frame, refused
request, lost record and absent clock an effect. So there is no constructor, and no command faults. -/
inductive Fault where
  deriving DecidableEq, Repr

/-- What can stop a step with a refusal. -/
inductive Refusal where
  /-- Raised by the dispatcher alone, for a command that has no meaning yet (safe: the machine stops). -/
  | notModelled (mnemonic : String)
  deriving DecidableEq, Repr

/-! ### Shared -/

/-- A gain ramp (0.6.5). -/
structure Ramp where
  cur : Int
  target : Int
  step : Int
  count : Nat
  deriving DecidableEq, Repr, Inhabited

/-- A ramp at rest at a value. -/
def Ramp.rest (v : Int) : Ramp :=
  ⟨v, v, 0, 0⟩

/-! ### Device State Controller (chapter 1) -/

/-- The operating states (1.4). -/
inductive OpState where
  | standby
  | waking
  | operate
  deriving DecidableEq, Repr, Inhabited

/-- The Device State Controller. -/
structure Dsc where
  role : Role
  opState : OpState
  wakeTimer : Nat
  heldState : Option Nat
  heldLink : Option Nat
  restartFlag : Bool
  resetPin : Bool
  deriving DecidableEq, Repr, Inhabited

/-! ### Sample Clock Unit (R12 to R14) -/

/-- The DESK end's clock source (R12). -/
inductive ClockSource where
  | loc
  | ext
  deriving DecidableEq, Repr, Inhabited

/-- The lock states: FREE and LOCKED at DESK (R12), all three at STAGE (R13). -/
inductive LockState where
  | free
  | locked
  | holdover
  deriving DecidableEq, Repr, Inhabited

/-- The Sample Clock Unit. -/
structure Scu where
  source : ClockSource
  lock : LockState
  qual : Nat
  winOpen : Bool
  winPos : Nat
  edges : Nat
  winDue : Bool
  deriving DecidableEq, Repr, Inhabited

/-! ### Audio Port Interface (R15 to R18) -/

/-- A preamp setting record (1.6.1). -/
structure PreampRecord where
  channel : Nat
  gain : Nat
  pad : Bool
  phantomOn : Bool
  deriving DecidableEq, Repr, Inhabited

/-- The Audio Port Interface: the preamp record queue and the outputs of the last sample event. -/
structure Api where
  queue : List PreampRecord
  sent : Option PreampRecord
  portsOut : List (List Slot32)
  talkOut : List Slot32
  deriving DecidableEq, Repr, Inhabited

/-! ### Fibre frames (Table 9-8) and lane symbols (R64) -/

/-- A lane symbol: a marker flag and 8 data bits (R64). -/
structure Sym where
  marker : Bool
  data : Nat
  deriving DecidableEq, Repr, Inhabited

/-- A meter cell (R155). -/
structure MeterCell where
  index : Nat
  level : Nat
  clip : Bool
  deriving DecidableEq, Repr, Inhabited

/-- A fibre frame without its check (Table 9-8). `audio` holds the direction's audio slots in order of transmission
(64 input slots and the cue talk slot, or 8 return slots and the FOH talk slot); an idle frame has no symbols, no
audio and no cell. -/
structure Frame where
  seq : Nat
  ack : Nat
  role : Role
  restart : Bool
  restartAck : Bool
  idle : Bool
  syms : List Sym
  audio : List Sample
  cell : Option MeterCell
  deriving DecidableEq, Repr, Inhabited

/-! ### Path Controllers (chapter 2) -/

/-- The six path states (2.2). -/
inductive PathState where
  | disabled
  | dark
  | acquiring
  | inService
  | impaired
  | mismatched
  deriving DecidableEq, Repr, Inhabited

/-- The bring-up steps (2.2); `none` outside ACQUIRING. -/
inductive BringStep where
  | none
  | lock
  | ident
  | align
  deriving DecidableEq, Repr, Inhabited

/-- The causes of a path state (R39). -/
inductive Cause where
  | none
  | lightLost
  | standby
  | enabled
  | light
  | silence
  | bringup
  | recovered
  | errors
  | skew
  | role
  | host
  deriving DecidableEq, Repr, Inhabited

/-- The transmitter modes (R37). -/
inductive TxMode where
  | off
  | full
  | burst
  deriving DecidableEq, Repr, Inhabited

/-- The per-path configuration (Table 2-1). -/
structure PathCfg where
  enabled : Bool
  threshold : Nat
  silenceSel : Nat
  autoBurst : Bool
  deriving DecidableEq, Repr, Inhabited

/-- The results of the last three light windows (R21). -/
structure LightHist where
  oldest : Bool
  middle : Bool
  newest : Bool
  deriving DecidableEq, Repr, Inhabited

/-- One Path Controller. -/
structure PathCtl where
  cfg : PathCfg
  state : PathState
  step : BringStep
  count : Nat
  stepTimer : Nat
  stallReported : Bool
  silenceTimer : Nat
  silenceDue : Bool
  badCount : Nat
  lateCount : Nat
  lastBad : Nat
  lastLate : Nat
  recovery : Nat
  errPos : Nat
  errDue : Bool
  cause : Cause
  farRole : Option Role
  tx : TxMode
  darkTimer : Nat
  burstCounter : Nat
  hist : LightHist
  light : Bool
  lightNow : Bool
  lightSeen : Bool
  lightPos : Nat
  lightDue : Bool
  identFlags : Option (Bool × Bool)
  sentFrame : Option Frame
  deriving DecidableEq, Repr, Inhabited

/-- The pair configuration (Table 2-1). -/
structure PairCfg where
  preferred : Path
  revertive : Bool
  deriving DecidableEq, Repr, Inhabited

/-! ### Frame Merge Unit (chapter 3) -/

/-- The link states (R57). -/
inductive LinkState where
  | offline
  | protect
  | exposed
  | severed
  deriving DecidableEq, Repr, Inhabited

/-- One slot of the merge buffer (Table 3-1). -/
structure MergeSlot where
  seq : Option Nat
  goodA : Bool
  goodB : Bool
  stored : Option Frame
  deriving DecidableEq, Repr, Inhabited

/-- The Frame Merge Unit (Table 3-1). -/
structure Fmu where
  slots : List MergeSlot
  p : Option Nat
  anchor : Option Path
  delay : Nat
  ref : Option Path
  link : LinkState
  reCount : Nat
  reArrival : Option (Path × Frame)
  conceal : Ramp
  lastGood : List Sample
  txSeq : Nat
  earlyA : Nat
  earlyB : Nat
  dupA : Nat
  dupB : Nat
  gaps : Nat
  reTotal : Nat
  deriving DecidableEq, Repr, Inhabited

/-! ### Channel Store (chapter 5) -/

/-- The phantom states (5.5). -/
inductive Phantom where
  | off
  | queued
  | rising
  | on
  | falling
  deriving DecidableEq, Repr, Inhabited

/-- A channel entry of the STAGE end (Table 5-1). -/
structure Channel where
  gainTarget : Nat
  gain : Nat
  walkTimer : Nat
  walkDue : Bool
  pad : Bool
  inverted : Bool
  mute : Bool
  request : Bool
  phantom : Phantom
  phantomTimer : Nat
  ramp : Ramp
  version : Nat
  deriving DecidableEq, Repr, Inhabited

/-- The lock set (R104); true is locked. -/
structure Locks where
  preamp : Bool
  condition : Bool
  mix : Bool
  talk : Bool
  version : Nat
  deriving DecidableEq, Repr, Inhabited

/-- The Channel Store. -/
structure Chs where
  channels : List Channel
  phantomQueue : List Nat
  locks : Locks
  deriving DecidableEq, Repr, Inhabited

/-! ### Talk Arbiter (chapter 7) -/

/-- A destination's state (R133). -/
inductive DestState where
  | free
  | held
  | fading
  deriving DecidableEq, Repr, Inhabited

/-- The close reasons (7.2); `none` until the source's first session closes. -/
inductive CloseReason where
  | none
  | close
  | limit
  | link
  | standby
  deriving DecidableEq, Repr, Inhabited

/-- A session record (Table 7-1). The sets of destinations are 17-bit values, bit d for destination d (R173). -/
structure Session where
  priority : Nat
  latched : Bool
  requested : Nat
  granted : Nat
  order : Nat
  latchTimer : Nat
  latchDue : Bool
  deriving DecidableEq, Repr, Inhabited

/-- What the TKA holds per source (7.2). -/
structure SourceRec where
  session : Option Session
  version : Nat
  reason : CloseReason
  deriving DecidableEq, Repr, Inhabited

/-- A destination record (Table 7-2); mask and level stand in the mix record or the talk configuration. -/
structure Dest where
  state : DestState
  holder : Option Source
  fadeDue : Bool
  deriving DecidableEq, Repr, Inhabited

/-- The talk configuration (Table 7-6). -/
structure TalkCfg where
  cueMask : Nat
  cueLevel : Nat
  limit : Nat
  version : Nat
  deriving DecidableEq, Repr, Inhabited

/-- The Talk Arbiter. -/
structure Tka where
  foh : SourceRec
  mon : SourceRec
  stg : SourceRec
  dests : List Dest
  openCounter : Nat
  cfg : TalkCfg
  cue : Ramp
  samples : Sample × Sample × Sample
  deriving DecidableEq, Repr, Inhabited

/-! ### Mix Engine (chapter 6) -/

/-- The offset phases (6.5). -/
inductive Phase where
  | steady
  | leaving
  | arriving
  deriving DecidableEq, Repr, Inhabited

/-- A contribution of a mix (6.2). -/
structure Contrib where
  ref : SrcRef
  code : Nat
  ramp : Ramp
  live : Bool
  freeDue : Bool
  deriving DecidableEq, Repr, Inhabited

/-- A mix record of the STAGE end (Table 6-1), with the destination state the TKA last handed over (R128). -/
structure Mix where
  master : Nat
  masterRamp : Ramp
  offset : Nat
  pendingOffset : Nat
  phase : Phase
  dim : Nat
  dimRamp : Ramp
  talkLevel : Nat
  talkRamp : Ramp
  talkMask : Nat
  contribs : List Contrib
  clip : Bool
  version : Nat
  dest : DestState
  leavingDue : Bool
  arrivingDue : Bool
  deriving DecidableEq, Repr, Inhabited

/-- The Mix Engine: the mixes and the free count of the contribution pool (R110). -/
structure Mxe where
  mixes : List Mix
  free : Nat
  deriving DecidableEq, Repr, Inhabited

/-! ### Meter Unit (chapter 8) -/

/-- A peak accumulator (R152). -/
structure Acc where
  peak : Nat
  clip : Bool
  deriving DecidableEq, Repr, Inhabited

/-- An entry of a meter table (8.3). -/
structure MeterEntry where
  level : Nat
  clip : Bool
  age : Nat
  deriving DecidableEq, Repr, Inhabited

/-- The Meter Unit. -/
structure Mtu where
  accs : List Acc
  rot : Nat
  table : List MeterEntry
  deriving DecidableEq, Repr, Inhabited

/-! ### Parameter Lane (chapter 4) -/

/-- The echoed fields of a channel entry (ECHO_CHANNEL, Table 9-9). -/
structure ChanEcho where
  version : Nat
  gainTarget : Nat
  pad : Bool
  inverted : Bool
  mute : Bool
  request : Bool
  phantom : Phantom
  deriving DecidableEq, Repr, Inhabited

/-- The echoed fields of a mix record (ECHO_MIX, Table 9-9). -/
structure MixEcho where
  version : Nat
  master : Nat
  offset : Nat
  pendingOffset : Nat
  phase : Phase
  dim : Nat
  talkLevel : Nat
  talkMask : Nat
  deriving DecidableEq, Repr, Inhabited

/-- The echoed value of a contribution (ECHO_CONTRIB): LIVE with its gain code, or ABSENT. -/
structure ContribEcho where
  version : Nat
  live : Option Nat
  deriving DecidableEq, Repr, Inhabited

/-- The echoed fields of an open session (ECHO_TALK, session form, OPEN). -/
structure SessionEcho where
  priority : Nat
  latched : Bool
  requested : Nat
  granted : Nat
  deriving DecidableEq, Repr, Inhabited

/-- The echoed value of a talk source: OPEN with its session, or CLOSED with its reason (ECHO_TALK). -/
structure TalkEcho where
  version : Nat
  session : Option SessionEcho
  reason : CloseReason
  deriving DecidableEq, Repr, Inhabited

/-- The reason of a REFUSED record (R74, Table 9-9). -/
inductive RefuseReason where
  | full
  | state
  deriving DecidableEq, Repr, Inhabited

/-- What a REFUSED record refuses: the update's kind code and the three bytes of its identifier (9.7). -/
structure RefusedId where
  kind : Nat
  id1 : Nat
  id2 : Nat
  id3 : Nat
  deriving DecidableEq, Repr, Inhabited

/-- A lane record's kind and body (Table 4-2). -/
inductive LaneMsg where
  | update (u : Update)
  | echoChannel (ch : Nat) (e : ChanEcho)
  | echoMix (m : Nat) (e : MixEcho)
  | echoContrib (m : Nat) (r : SrcRef) (e : ContribEcho)
  | echoTalk (src : Source) (e : TalkEcho)
  | echoTalkCfg (c : TalkCfg)
  | echoLock (l : Locks)
  | refused (id : RefusedId) (reason : RefuseReason) (count : Nat)
  | dumpBegin
  | dumpEnd
  deriving DecidableEq, Repr, Inhabited

/-- The target of a record (Table 4-2), by which records stand in for one another. -/
inductive Target where
  | channel (n : Nat)
  | mix (m : Nat)
  | contrib (m : Nat) (bank idx : Nat)
  | clear (m : Nat)
  | talk (src : Nat)
  | talkCfg
  | locks
  | refusal (t : Target)
  | dumpStart
  | dumpFinish
  deriving DecidableEq, Repr, Inhabited

/-- A record of the transmit queue; it is in flight when it has a sequence (R68). -/
structure LaneRec where
  msg : LaneMsg
  seq : Option Nat
  deriving DecidableEq, Repr, Inhabited

/-- The receive assembler (R72). -/
inductive Asm where
  | idle
  | header (kind : Nat)
  | sequence (kind seq : Nat)
  | body (kind seq len : Nat) (bytes : List Nat)
  deriving DecidableEq, Repr, Inhabited

/-- A complete record as the assembler delivers it (R72). -/
structure RawRecord where
  kind : Nat
  seq : Nat
  bytes : List Nat
  deriving DecidableEq, Repr, Inhabited

/-- A mark of the pending echo set (R75): a target, or a refusal with its reason and count. -/
inductive Mark where
  | echo (t : Target)
  | refused (t : Target) (id : RefusedId) (reason : RefuseReason) (count : Nat)
  deriving DecidableEq, Repr, Inhabited

/-- The dump pointer: a position in the dump order (R82), or idle. Within a mix's contributions it holds the index
of the next list entry it will consider. -/
inductive DumpPos where
  | idle
  | begin
  | channel (n : Nat)
  | mix (m : Nat)
  | contrib (m k : Nat)
  | talkCfg
  | talk (src : Source)
  | locks
  | finish
  deriving DecidableEq, Repr, Inhabited

/-- The Parameter Lane Engine (Table 4-1); the mirror state stands in `Mirror`. -/
structure Ple where
  queue : List LaneRec
  nextSeq : Nat
  cursor : Option (Nat × Nat)
  resendTimer : Nat
  goBackDue : Bool
  expSeq : Nat
  asm : Asm
  done : List RawRecord
  ackRaised : Bool
  episode : Bool
  quietTail : Nat
  tailDue : Bool
  ackSent : Nat
  dups : Nat
  outOfOrder : Nat
  broken : Nat
  malformed : Nat
  goBacks : Nat
  marks : List Mark
  dump : DumpPos
  deriving DecidableEq, Repr, Inhabited

/-! ### Desk mirror (R83) -/

/-- The mirror states (R83). -/
inductive MirrorState where
  | invalid
  | filling
  | valid
  deriving DecidableEq, Repr, Inhabited

/-- The DESK mirror: each entry unknown (none) or known with its values and version. `contribs` holds per mix 72
entries: INPUT 0 to 63, then RETURN 0 to 7. -/
structure Mirror where
  state : MirrorState
  channels : List (Option ChanEcho)
  mixes : List (Option MixEcho)
  contribs : List (List (Option ContribEcho))
  foh : Option TalkEcho
  mon : Option TalkEcho
  stg : Option TalkEcho
  cfg : Option TalkCfg
  locks : Option Locks
  deriving DecidableEq, Repr, Inhabited

/-! ### Control Message Port (chapter 9) -/

/-- The reply codes (Table 9-3). -/
inductive ReplyCode where
  | ok
  | accepted
  | already
  | busy
  | state
  | range
  | locked
  | full
  | unknown
  | malformed
  | aborted
  | frame
  deriving DecidableEq, Repr, Inhabited

/-- The clock fields of CLOCK_STATE and IDENTIFY (R14); `source` is none for REFERENCE. -/
structure ClockInfo where
  role : Role
  source : Option ClockSource
  lock : LockState
  ref : Option Path
  deriving DecidableEq, Repr, Inhabited

/-- The lane status of IDENTIFY (R67). -/
structure LaneStatus where
  queued : Nat
  inFlight : Nat
  marks : Nat
  nextSeq : Nat
  expSeq : Nat
  ackRaised : Bool
  episode : Bool
  quietTail : Nat
  dump : DumpPos
  mirror : Option MirrorState
  dups : Nat
  outOfOrder : Nat
  broken : Nat
  malformed : Nat
  goBacks : Nat
  deriving DecidableEq, Repr, Inhabited

/-- The IDENTIFY reply (R175). -/
structure IdentifyInfo where
  device : Nat
  revision : Nat
  role : Role
  lineSpeed : Nat
  strap1 : Bool
  strap0 : Bool
  opState : OpState
  wakeLeft : Option Nat
  heldState : Option Nat
  heldLink : Option Nat
  restartFlag : Bool
  clock : ClockInfo
  qual : Option Nat
  lane : LaneStatus
  mask : List Bool
  lossFlag : Bool
  lost : Nat
  frameErrors : Nat
  repliesLost : Nat
  deriving DecidableEq, Repr, Inhabited

/-- The GET_PATH reply (R39). -/
structure PathInfo where
  cfg : PathCfg
  pair : PairCfg
  state : PathState
  acquiring : Option (BringStep × Nat × Nat)
  cause : Cause
  light : Bool
  hist : LightHist
  tx : TxMode
  farRole : Option Role
  lastBad : Nat
  lastLate : Nat
  recovery : Nat
  stallReported : Bool
  deriving DecidableEq, Repr, Inhabited

/-- The GET_LINK reply (R63). -/
structure LinkInfo where
  link : LinkState
  ref : Option Path
  usableA : Bool
  usableB : Bool
  p : Option Nat
  anchor : Option Path
  delay : Nat
  conceal : Int
  earlyA : Nat
  earlyB : Nat
  dupA : Nat
  dupB : Nat
  gaps : Nat
  reTotal : Nat
  txSeq : Nat
  deriving DecidableEq, Repr, Inhabited

/-- The GET_CHANNEL reply of the STAGE end (R89). -/
structure ChanInfo where
  gainTarget : Nat
  gain : Nat
  walkTimer : Nat
  pad : Bool
  inverted : Bool
  mute : Bool
  request : Bool
  phantom : Phantom
  phantomTimer : Nat
  rampCur : Int
  rampTarget : Int
  version : Nat
  queuePos : Option Nat
  rising : Nat
  deriving DecidableEq, Repr, Inhabited

/-- One contribution in the GET_MIX reply of the STAGE end (R128). -/
structure ContribInfo where
  ref : SrcRef
  live : Bool
  code : Nat
  cur : Int
  deriving DecidableEq, Repr, Inhabited

/-- The GET_MIX reply of the STAGE end (R128). -/
structure MixInfo where
  fields : MixEcho
  masterCur : Int
  masterTarget : Int
  dimCur : Int
  dimTarget : Int
  talkCur : Int
  talkTarget : Int
  dest : DestState
  entries : Nat
  free : Nat
  contribs : List ContribInfo
  clip : Bool
  deriving DecidableEq, Repr, Inhabited

/-- What GET_TALK reports of one source at the STAGE end (R151). -/
structure SourceInfo where
  session : Option (SessionEcho × Bool × Nat × Nat)
  version : Nat
  reason : CloseReason
  deriving DecidableEq, Repr, Inhabited

/-- The GET_TALK reply of the STAGE end (R151). -/
structure TalkInfo where
  foh : SourceInfo
  mon : SourceInfo
  stg : SourceInfo
  dests : List (DestState × Option Source)
  cfg : TalkCfg
  cueCur : Int
  cueTarget : Int
  openCounter : Nat
  deriving DecidableEq, Repr, Inhabited

/-- One entry of the METER_READ reply (R158). -/
structure MeterInfo where
  index : Nat
  level : Nat
  clip : Bool
  age : Nat
  stale : Bool
  deriving DecidableEq, Repr, Inhabited

/-- The fields of a reply; the manual names them and does not fix their byte positions (9.7). -/
inductive ReplyBody where
  | none
  | identify (i : IdentifyInfo)
  | path (i : PathInfo)
  | link (i : LinkInfo)
  | channel (i : ChanInfo)
  | channelMirror (st : MirrorState) (e : Option ChanEcho)
  | mix (i : MixInfo)
  | mixMirror (st : MirrorState) (e : Option MixEcho) (live : List (SrcRef × ContribEcho))
    (unknown : Nat)
  | talk (i : TalkInfo)
  | talkMirror (st : MirrorState) (foh mon stg : Option TalkEcho) (cfg : Option TalkCfg)
  | lock (l : Locks)
  | lockMirror (st : MirrorState) (e : Option Locks)
  | meters (n : Nat) (entries : List MeterInfo)
  deriving DecidableEq, Repr, Inhabited

/-- A reply (R165). -/
structure Reply where
  tag : Nat
  code : ReplyCode
  body : ReplyBody
  deriving DecidableEq, Repr, Inhabited

/-- The cause of a lane reset (R67, R79, R80). -/
inductive LaneCause where
  | loc
  | farRestart
  deriving DecidableEq, Repr, Inhabited

/-- The cause of a change notice: HOST, LANE, PHANTOM, STANDBY (R87), OFFSET (R109), ECHO (R89, R127). -/
inductive ChangeCause where
  | host
  | lane
  | phantom
  | standby
  | offset
  | echo
  deriving DecidableEq, Repr, Inhabited

/-- The cause of PHANTOM_DONE (R103). -/
inductive PhantomCause where
  | request
  | timer
  | standby
  deriving DecidableEq, Repr, Inhabited

/-- The event of TALK_STATE (R150). -/
inductive TalkEvent where
  | closed
  | preempted
  | granted
  | waiting
  deriving DecidableEq, Repr, Inhabited

/-- The cause of TALK_STATE (R150). -/
inductive TalkCause where
  | host
  | lane
  | arbiter
  | limit
  | link
  | standby
  | echo
  deriving DecidableEq, Repr, Inhabited

/-- The session form of TALK_STATE (R150). `session` is present for an open session; it is ACTIVE when its granted
set is not empty and WAITING otherwise, and CLOSED when there is none. -/
structure TalkNotice where
  source : Source
  event : TalkEvent
  session : Option SessionEcho
  reason : Option CloseReason
  gained : Nat
  lost : Nat
  version : Nat
  cause : TalkCause
  deriving DecidableEq, Repr, Inhabited

/-- The notices (Table 9-7) with the contents their rules give. -/
inductive Notice where
  /-- R39: path, new state, state left, cause, and with ROLE the far role seen. -/
  | pathState (p : Path) (now left : PathState) (cause : Cause) (farRole : Option Role)
  /-- R62. -/
  | linkState (now left : LinkState) (ref : Option Path) (usableA usableB : Bool)
  /-- R28. -/
  | bringupStall (p : Path) (step : BringStep)
  /-- R67, R79, R80. -/
  | laneReset (cause : LaneCause) (removed : Nat)
  /-- R83. -/
  | mirrorState (now left : MirrorState)
  /-- R87, R89. -/
  | channelChanged (ch : Nat) (e : ChanEcho) (cause : ChangeCause)
  /-- R109, R127. -/
  | mixChanged (m : Nat) (e : MixEcho) (cause : ChangeCause)
  /-- R109, R127. -/
  | contribChanged (m : Nat) (r : SrcRef) (e : ContribEcho) (cause : ChangeCause)
  /-- R105, R106. -/
  | lockChanged (l : Locks)
  /-- R85. -/
  | updateRefused (id : RefusedId) (reason : RefuseReason) (count : Nat)
  /-- R103. -/
  | phantomDone (ch : Nat) (now : Phantom) (cause : PhantomCause) (rising queued : Nat)
  /-- R89: the DESK end's PHANTOM_DONE carries the channel and the new state. -/
  | phantomDoneDesk (ch : Nat) (now : Phantom)
  /-- R150, session form. -/
  | talkState (t : TalkNotice)
  /-- R150, configuration form. -/
  | talkCfgState (c : TalkCfg) (cause : TalkCause)
  /-- R125. -/
  | clip (m : Nat) (bus output : Bool)
  /-- R14. -/
  | clockState (c : ClockInfo)
  /-- R169. -/
  | noticesLost (n : Nat)
  deriving DecidableEq, Repr, Inhabited

/-- A complete request: its tag and what it asks (R162). -/
structure HostRequest where
  tag : Nat
  req : Request
  deriving DecidableEq, Repr, Inhabited

/-- What the receiver has closed and the CMP has not yet taken as its own step (R161, log entry 2). -/
inductive RxDue where
  /-- A boundary closed a frame of these bytes (CMP_FRAME_CLOSED). -/
  | closed (bytes : List Nat)
  /-- The 259th byte was added (FRAME_TOO_LONG). -/
  | tooLong
  /-- A boundary followed an escape (FRAME_TOO_LONG). -/
  | escapeBoundary
  deriving DecidableEq, Repr, Inhabited

/-- A frame the part sends (R166). -/
inductive OutMsg where
  | reply (r : Reply)
  | notice (n : Notice)
  deriving DecidableEq, Repr, Inhabited

/-- The Control Message Port (Table 9-1). `replyFirst` is the model's own field: a reply stood in the queue when the
transmitter last became free to choose (R166, log entry 34). -/
structure Cmp where
  speed1 : Bool
  speed0 : Bool
  inFrame : Bool
  bytes : List Nat
  escape : Bool
  awaitIdle : Bool
  rxDue : Option RxDue
  executing : Option HostRequest
  staged : Option HostRequest
  replies : List Reply
  notices : List Notice
  mask : List Bool
  lossFlag : Bool
  lost : Nat
  sending : Option OutMsg
  frameErrors : Nat
  repliesLost : Nat
  hold : Bool
  replyFirst : Bool
  deriving DecidableEq, Repr, Inhabited

/-! ### Values between blocks -/

/-- What the blocks handed each other at the last sample event (log entry 27): the samples of the API, the
conditioned samples with the extreme indication (R90), the concealed slots of the playout (R50), the cell received
and the cell emitted (R47, R155), the cue talk slot (R147), each mix output with its clamp indications (R125), the
lane symbols and ack taken (R41). `freeCount` counts the free values drawn (log entries 15 and 34). -/
structure Bus where
  mic : List Sample
  talkIn : List Sample
  conditioned : List (Sample × Bool)
  played : List Sample
  cellIn : Option MeterCell
  cellOut : Option MeterCell
  cueSlot : Sample
  mixOut : List (Sample × Bool × Bool)
  syms : List Sym
  freeCount : Nat
  deriving DecidableEq, Repr, Inhabited

/-! ### The part and the machine -/

/-- One MX-6416 part. -/
structure Part where
  dsc : Dsc
  scu : Scu
  api : Api
  pa : PathCtl
  pb : PathCtl
  pair : PairCfg
  fmu : Fmu
  ple : Ple
  chs : Chs
  mxe : Mxe
  tka : Tka
  mtu : Mtu
  mirror : Mirror
  cmp : Cmp
  bus : Bus
  deriving DecidableEq, Repr, Inhabited

/-- The state of the machine: the part, and the commands that wait, first in first out. -/
structure State where
  part : Part
  pending : List Instr
  deriving DecidableEq, Repr, Inhabited

/-! ### Values right after power-on -/

/-- R12, R13: source LOCAL, lock state FREE, count 0. -/
def Scu.powerOn : Scu :=
  ⟨.loc, .free, 0, false, 0, 0, false⟩

/-- Table 2-1. -/
def PathCfg.powerOn : PathCfg :=
  ⟨true, 48, 1, true⟩

/-- R20: a path right after power-on, with the receiver's report unlit. -/
def PathCtl.powerOn : PathCtl where
  cfg := PathCfg.powerOn
  state := .dark
  step := .none
  count := 0
  stepTimer := 0
  stallReported := false
  silenceTimer := 0
  silenceDue := false
  badCount := 0
  lateCount := 0
  lastBad := 0
  lastLate := 0
  recovery := 0
  errPos := 0
  errDue := false
  cause := .none
  farRole := none
  tx := .off
  darkTimer := 0
  burstCounter := 0
  hist := ⟨false, false, false⟩
  light := false
  lightNow := false
  lightSeen := false
  lightPos := 0
  lightDue := false
  identFlags := none
  sentFrame := none

/-- An empty slot of the merge buffer (R40). -/
def MergeSlot.empty : MergeSlot :=
  ⟨none, false, false, none⟩

/-- The number of audio slots of the direction a role receives (3.1). -/
def rxSlots : Role → Nat
  | .desk => 65
  | .stage => 9

/-- R40. -/
def Fmu.powerOn (role : Role) : Fmu where
  slots := List.replicate 16 MergeSlot.empty
  p := none
  anchor := none
  delay := 6
  ref := none
  link := .offline
  reCount := 0
  reArrival := none
  conceal := Ramp.rest 0
  lastGood := List.replicate (rxSlots role) 0
  txSeq := 0
  earlyA := 0
  earlyB := 0
  dupA := 0
  dupB := 0
  gaps := 0
  reTotal := 0

/-- R67. -/
def Ple.powerOn : Ple where
  queue := []
  nextSeq := 0
  cursor := none
  resendTimer := 0
  goBackDue := false
  expSeq := 0
  asm := .idle
  done := []
  ackRaised := false
  episode := false
  quietTail := 0
  tailDue := false
  ackSent := 255
  dups := 0
  outOfOrder := 0
  broken := 0
  malformed := 0
  goBacks := 0
  marks := []
  dump := .idle

/-- Table 5-1. -/
def Channel.powerOn : Channel where
  gainTarget := 0
  gain := 0
  walkTimer := 0
  walkDue := false
  pad := false
  inverted := false
  mute := false
  request := false
  phantom := .off
  phantomTimer := 0
  ramp := Ramp.rest 0
  version := 0

/-- R104: every class open, version 0. -/
def Locks.powerOn : Locks :=
  ⟨false, false, false, false, 0⟩

/-- R86. -/
def Chs.powerOn : Chs :=
  ⟨List.replicate 64 Channel.powerOn, [], Locks.powerOn⟩

/-- Table 6-1. -/
def Mix.powerOn : Mix where
  master := 192
  masterRamp := Ramp.rest 0
  offset := 0
  pendingOffset := 0
  phase := .steady
  dim := 137
  dimRamp := Ramp.rest unity
  talkLevel := 192
  talkRamp := Ramp.rest 0
  talkMask := 0
  contribs := []
  clip := false
  version := 0
  dest := .free
  leavingDue := false
  arrivingDue := false

/-- R108. -/
def Mxe.powerOn : Mxe :=
  ⟨List.replicate 16 Mix.powerOn, 384⟩

/-- R131: no session, version 0, no close reason. -/
def SourceRec.powerOn : SourceRec :=
  ⟨none, 0, .none⟩

/-- R131: FREE with no holder. -/
def Dest.powerOn : Dest :=
  ⟨.free, none, false⟩

/-- Table 7-6. -/
def TalkCfg.powerOn : TalkCfg :=
  ⟨0, 192, 60, 0⟩

/-- R131. -/
def Tka.powerOn : Tka where
  foh := SourceRec.powerOn
  mon := SourceRec.powerOn
  stg := SourceRec.powerOn
  dests := List.replicate 17 Dest.powerOn
  openCounter := 0
  cfg := TalkCfg.powerOn
  cue := Ramp.rest 0
  samples := (0, 0, 0)

/-- R156: held level 0, held clip clear, age 321. -/
def MeterEntry.powerOn : MeterEntry :=
  ⟨0, false, 321⟩

/-- R152, R156. -/
def Mtu.powerOn : Mtu :=
  ⟨List.replicate 80 ⟨0, false⟩, 0, List.replicate 80 MeterEntry.powerOn⟩

/-- R67, R83: INVALID with every entry unknown. -/
def Mirror.powerOn : Mirror where
  state := .invalid
  channels := List.replicate 64 none
  mixes := List.replicate 16 none
  contribs := List.replicate 16 (List.replicate 72 none)
  foh := none
  mon := none
  stg := none
  cfg := none
  locks := none

/-- R170, with the speed straps as read and the level of the HOLD input. -/
def Cmp.powerOn (speed1 speed0 hold : Bool) : Cmp where
  speed1 := speed1
  speed0 := speed0
  inFrame := false
  bytes := []
  escape := false
  awaitIdle := false
  rxDue := none
  executing := none
  staged := none
  replies := []
  notices := []
  mask := List.replicate 14 true
  lossFlag := false
  lost := 0
  sending := none
  frameErrors := 0
  repliesLost := 0
  hold := hold
  replyFirst := false

/-- Nothing handed over yet. -/
def Bus.powerOn : Bus :=
  ⟨[], [], [], [], none, none, 0, [], [], 0⟩

/-- The refresh records of the reset values, one per channel in channel order (R18). -/
def Api.refreshOfReset : List PreampRecord :=
  (List.range 64).map fun n => ⟨n, 0, false, false⟩

/-- R17, R18: the refresh at STAGE; at DESK the queue stays empty. -/
def Api.powerOn : Role → Api
  | .stage => ⟨Api.refreshOfReset, none, [], []⟩
  | .desk => ⟨[], none, [], []⟩

/-- The part right after power-on with its straps and every input at rest: no light, HOLD and the reset pin not
asserted (R3 and the rule of each block). -/
def Part.powerOn (st : Straps) : Part where
  dsc := ⟨st.role, .standby, 0, none, none, true, false⟩
  scu := Scu.powerOn
  api := Api.powerOn st.role
  pa := PathCtl.powerOn
  pb := PathCtl.powerOn
  pair := ⟨.a, true⟩
  fmu := Fmu.powerOn st.role
  ple := Ple.powerOn
  chs := Chs.powerOn
  mxe := Mxe.powerOn
  tka := Tka.powerOn
  mtu := Mtu.powerOn
  mirror := Mirror.powerOn
  cmp := Cmp.powerOn st.speed1 st.speed0 false
  bus := Bus.powerOn

/-- The machine right after reset: the part after power-on strapped as STAGE at the lowest line speed (DESIGN CHOICE,
log entry 5: the straps are inputs), and no command waiting. -/
def State.reset : State :=
  ⟨Part.powerOn ⟨.stage, false, false⟩, []⟩

end Sys2Proof.Machine
end

