-- ==== Sys2Proof/Machine/Arith.lean ====
section
/-!
DEFINITION. Arithmetic the chapters share: the rounded shift, clamps, fader codes and gain ramps (0.6), serial-number
comparison (0.6.6), saturating counts, bit fields and the two frame checks (R162, Table 9-8).
-/

namespace Sys2Proof.Machine

/-! ### Lists as tables -/

/-- The list with its entry at an index changed; a list with no such entry is left as it is. -/
def updAt {α : Type} : Nat → (α → α) → List α → List α
  | _, _, [] => []
  | 0, f, x :: xs => f x :: xs
  | n + 1, f, x :: xs => x :: updAt n f xs

/-- The list with every entry changed by a function of its index, counted from `k`. -/
def mapFrom {α β : Type} (f : Nat → α → β) : Nat → List α → List β
  | _, [] => []
  | k, x :: xs => f k x :: mapFrom f (k + 1) xs

/-- The position of the first entry that meets a test, counted from `k`. -/
def findFrom {α : Type} (f : α → Bool) : Nat → List α → Option Nat
  | _, [] => none
  | k, x :: xs => if f x then some k else findFrom f (k + 1) xs

/-! ### Numbers -/

/-- A clamp to a range of naturals (0.5). -/
def clampNat (lo hi v : Nat) : Nat :=
  if v < lo then lo else if hi < v then hi else v

/-- A clamp to a range of integers (0.5). -/
def clampInt (lo hi v : Int) : Int :=
  if v < lo then lo else if hi < v then hi else v

/-- A clamp to the audio sample range (0.6.2). -/
def clampSample (v : Int) : Sample :=
  clampInt sampleMin sampleMax v

/-- The rounded shift by 16 (0.6.3): floor((v + 32768) / 65536). -/
def roundShift (v : Int) : Int :=
  (v + 32768) / 65536

/-- The coefficient K of a fader code (0.6.4). -/
def faderK (code : Nat) : Int :=
  if code = 0 then 0 else ((16 + code % 16) * 2 ^ (code / 16) : Nat)

/-- A count that saturates at 65,535. -/
def satInc (n : Nat) : Nat :=
  if n < 65535 then n + 1 else 65535

/-- A 16-bit number that wraps from 65535 to 0. -/
def inc16 (n : Nat) : Nat :=
  (n + 1) % 65536

/-- An 8-bit number that wraps from 255 to 0. -/
def inc8 (n : Nat) : Nat :=
  (n + 1) % 256

/-- Serial comparison of 16-bit numbers (0.6.6): x is newer than y. -/
def newer16 (x y : Nat) : Bool :=
  let d := (x + 65536 - y % 65536) % 65536
  decide (1 ≤ d ∧ d ≤ 32767)

/-- Serial comparison of 8-bit numbers (0.6.6): x is newer than y. -/
def newer8 (x y : Nat) : Bool :=
  let d := (x + 256 - y % 256) % 256
  decide (1 ≤ d ∧ d ≤ 127)

/-- The destinations of a set that are not in another (sets are 17-bit values, R173). -/
def setMinus (a b : Nat) : Nat :=
  a ^^^ (a &&& b)

/-- A set with a destination added. -/
def setAdd (a d : Nat) : Nat :=
  a ||| (1 <<< d)

/-- A set with a destination taken out. -/
def setDel (a d : Nat) : Nat :=
  setMinus a (1 <<< d)

/-! ### Gain ramps (0.6.5) -/

/-- The effective target is evaluated: a different value restarts the ramp from its current value, with the step
truncated toward zero and the count at 64. -/
def Ramp.retarget (t : Int) (r : Ramp) : Ramp :=
  if t = r.target then r else ⟨r.cur, t, (t - r.cur).tdiv 64, 64⟩

/-- One sample event of the ramp. -/
def Ramp.advance (r : Ramp) : Ramp :=
  if 1 < r.count then ⟨r.cur + r.step, r.target, r.step, r.count - 1⟩
  else if r.count = 1 then ⟨r.target, r.target, r.step, 0⟩
  else r

/-- The ramp stands at 0 with nothing left to run. -/
def Ramp.silent (r : Ramp) : Bool :=
  decide (r.cur = 0) && decide (r.count = 0)

/-! ### Bit fields -/

/-- The low `n` bits of a number, most significant first. -/
def natBits : Nat → Nat → List Bool
  | 0, _ => []
  | n + 1, v => v.testBit n :: natBits n v

/-- The number whose bits, most significant first, are given. -/
def ofBits (bits : List Bool) : Nat :=
  bits.foldl (fun acc b => 2 * acc + b.toNat) 0

/-- A 24-bit two's complement field read as a sample (9.7). -/
def sampleOfNat (v : Nat) : Sample :=
  if v < 8388608 then (v : Int) else (v : Int) - 16777216

/-- A sample as a 24-bit two's complement field (9.7). -/
def natOfSample (v : Sample) : Nat :=
  (v % 16777216).toNat

/-- The sample in the 24 most significant bits of a port slot; the 8 least significant bits are ignored (1.6). -/
def slotSample (w : Slot32) : Sample :=
  sampleOfNat (w.toNat / 256)

/-- A sample as a port slot, the 8 least significant bits sent as zero (1.6). -/
def sampleSlot (v : Sample) : Slot32 :=
  BitVec.ofNat 32 (natOfSample v * 256)

/-! ### Frame checks -/

/-- One bit of a CRC register of `w` bits with a generator polynomial, no reflection (R162, Table 9-8). -/
def crcStep (w poly reg : Nat) (bit : Bool) : Nat :=
  let shifted := (2 * reg) % 2 ^ w
  if (reg.testBit (w - 1)) != bit then shifted ^^^ poly else shifted

/-- The CRC of a list of bits, in order, with no final inversion. -/
def crcBits (w poly init : Nat) (bits : List Bool) : Nat :=
  bits.foldl (crcStep w poly) init

/-- Bytes as bits, each most significant first. -/
def byteBits (bytes : List Nat) : List Bool :=
  bytes.flatMap (natBits 8)

/-- The check of a host message: 16-bit CRC, polynomial 0x1021, initial value 0xFFFF (R162). -/
def crc16 (bytes : List Nat) : Nat :=
  crcBits 16 0x1021 0xFFFF (byteBits bytes)

/-- The check of a fibre frame: 32-bit CRC, polynomial 0x04C11DB7, initial value 0xFFFFFFFF (Table 9-8). -/
def crc32 (bits : List Bool) : Nat :=
  crcBits 32 0x04C11DB7 0xFFFFFFFF bits

/-- The value at least two of three samples show (R160). -/
def majority (s : Bool × Bool × Bool) : Bool :=
  (s.1 && s.2.1) || (s.1 && s.2.2) || (s.2.1 && s.2.2)

end Sys2Proof.Machine
end

