-- ==== Sys2Proof/Machine/Operands.lean ====
section
/-!
DEFINITION. The operands of requests: their field bytes (R173, Table 10-2) read and written, the identifier checks and
the clamps of R172, and the numbers of Table 10-2 as the things they name.
-/

namespace Sys2Proof

open Sys2Proof.Machine

/-! ### What the numbers name (R173) -/

/-- A path identifier: 0 for A, 1 for B. -/
def pathOf (n : Nat) : Option Path :=
  if n = 0 then some .a else if n = 1 then some .b else none

/-- A talk source: 0 for FOH, 1 for MON, 2 for STAGE. -/
def sourceOf (n : Nat) : Option Source :=
  if n = 0 then some .foh else if n = 1 then some .mon else if n = 2 then some .stg else none

/-- The number of a talk source. -/
def sourceNum : Source → Nat
  | .foh => 0
  | .mon => 1
  | .stg => 2

/-- The number of a bank. -/
def bankNum : Bank → Nat
  | .input => 0
  | .ret => 1

/-- A bank: 0 for INPUT, 1 for RETURN (R173). -/
def bankOf (n : Nat) : Option Bank :=
  if n = 0 then some .input else if n = 1 then some .ret else none

/-- A source reference: bank 0 INPUT with a relative channel to 63, bank 1 RETURN with a return to 7 (R65). -/
def refOf (bank idx : Nat) : Option SrcRef :=
  if bank = 0 ∧ idx ≤ 63 then some ⟨.input, idx⟩
  else if bank = 1 ∧ idx ≤ 7 then some ⟨.ret, idx⟩
  else none

/-- A two-valued field: 0 is the first meaning, any other value the second (R172 step 3). -/
def flagOf (n : Nat) : Bool :=
  n != 0

/-- A flag as its number (9.7). -/
def flagNum (b : Bool) : Nat :=
  b.toNat

/-! ### Field bytes -/

/-- A multi-byte value, high byte first (9.7). -/
def beNat (bytes : List Nat) : Nat :=
  bytes.foldl (fun acc b => 256 * acc + b) 0

/-- A value as `n` bytes, high byte first. -/
def beBytes : Nat → Nat → List Nat
  | 0, _ => []
  | n + 1, v => (v / 256 ^ n) % 256 :: beBytes n v

/-- The optional fields that a presence byte marks, in presence-bit order, with their sizes in bytes; nothing where
the length does not fit or a bit beyond the last field is set (R173). -/
def readOpts : List Nat → Nat → List Nat → Option (List (Option Nat))
  | [], pres, bytes => if pres = 0 ∧ bytes = [] then some [] else none
  | size :: sizes, pres, bytes =>
    if pres % 2 = 1 then
      if bytes.length < size then none
      else (readOpts sizes (pres / 2) (bytes.drop size)).map (some (beNat (bytes.take size)) :: ·)
    else (readOpts sizes (pres / 2) bytes).map (none :: ·)

/-- The presence byte of optional fields. -/
def presence : List (Option Nat) → Nat
  | [] => 0
  | o :: os => o.isSome.toNat + 2 * presence os

/-- The bytes of the present optional fields. -/
def optBytes : List Nat → List (Option Nat) → List Nat
  | size :: sizes, some v :: os => beBytes size v ++ optBytes sizes os
  | _ :: sizes, none :: os => optBytes sizes os
  | _, _ => []

/-- Presence byte and present fields. -/
def writeOpts (sizes : List Nat) (os : List (Option Nat)) : List Nat :=
  presence os :: optBytes sizes os

def PathSet.opts (f : PathSet) : List (Option Nat) :=
  [f.enabled, f.threshold, f.silenceSel, f.autoBurst, f.preferred, f.revertive]
def ChanSet.opts (f : ChanSet) : List (Option Nat) :=
  [f.gain, f.pad, f.polarity, f.mute, f.phantom]
def MixSet.opts (f : MixSet) : List (Option Nat) :=
  [f.master, f.offset, f.dim, f.talkLevel, f.talkMask]
def TalkCfgSet.opts (f : TalkCfgSet) : List (Option Nat) :=
  [f.cueMask, f.cueLevel, f.limit]
def LockSet.opts (f : LockSet) : List (Option Nat) :=
  [f.preamp, f.condition, f.mix, f.talk]

/-- The sizes of the optional fields of SET_PATH (Table 10-2). -/
def pathSizes : List Nat := [1, 2, 1, 1, 1, 1]
/-- Of SET_CHANNEL. -/
def chanSizes : List Nat := [1, 1, 1, 1, 1]
/-- Of SET_MIX. -/
def mixSizes : List Nat := [1, 1, 1, 1, 1]
/-- Of SET_TALKCFG. -/
def talkCfgSizes : List Nat := [1, 1, 2]
/-- Of SET_LOCK. -/
def lockSizes : List Nat := [1, 1, 1, 1]

def pathSetOf : List (Option Nat) → Option PathSet
  | [a, b, c, d, e, f] => some ⟨a, b, c, d, e, f⟩
  | _ => none
def chanSetOf : List (Option Nat) → Option ChanSet
  | [a, b, c, d, e] => some ⟨a, b, c, d, e⟩
  | _ => none
def mixSetOf : List (Option Nat) → Option MixSet
  | [a, b, c, d, e] => some ⟨a, b, c, d, e⟩
  | _ => none
def talkCfgSetOf : List (Option Nat) → Option TalkCfgSet
  | [a, b, c] => some ⟨a, b, c⟩
  | _ => none
def lockSetOf : List (Option Nat) → Option LockSet
  | [a, b, c, d] => some ⟨a, b, c, d⟩
  | _ => none

/-- The request code of an update (Table 10-2). -/
def Update.code : Update → Nat
  | .setChannel _ _ => 0x20
  | .setMix _ _ => 0x30
  | .putContrib _ _ _ _ => 0x32
  | .dropContrib _ _ _ => 0x33
  | .clearMix _ => 0x34
  | .openTalk _ _ _ _ => 0x40
  | .closeTalk _ => 0x41
  | .setTalkCfg _ => 0x42
  | .setLock _ => 0x50

/-- The kind code of an update's lane record (Table 4-2). -/
def Update.kind : Update → Nat
  | .setChannel _ _ => 0x01
  | .setMix _ _ => 0x02
  | .putContrib _ _ _ _ => 0x03
  | .dropContrib _ _ _ => 0x04
  | .clearMix _ => 0x05
  | .openTalk _ _ _ _ => 0x06
  | .closeTalk _ => 0x07
  | .setTalkCfg _ => 0x08
  | .setLock _ => 0x09

/-- The field bytes of an update's request, which are also the body of its lane record (Table 10-2, 9.7). -/
def Update.fields : Update → List Nat
  | .setChannel ch f => ch :: writeOpts chanSizes f.opts
  | .setMix m f => m :: writeOpts mixSizes f.opts
  | .putContrib m b i c => [m, b, i, c]
  | .dropContrib m b i => [m, b, i]
  | .clearMix m => [m]
  | .openTalk s p md set => [s, p, md] ++ beBytes 3 set
  | .closeTalk s => [s]
  | .setTalkCfg f => writeOpts talkCfgSizes f.opts
  | .setLock f => writeOpts lockSizes f.opts

/-- The update that field bytes give for its lane kind code, or nothing where their length or shape does not fit. -/
def updateOfKind (kind : Nat) (bytes : List Nat) : Option Update :=
  match kind, bytes with
  | 0x01, ch :: pres :: rest => ((readOpts chanSizes pres rest).bind chanSetOf).map (.setChannel ch ·)
  | 0x02, m :: pres :: rest => ((readOpts mixSizes pres rest).bind mixSetOf).map (.setMix m ·)
  | 0x03, [m, b, i, c] => some (.putContrib m b i c)
  | 0x04, [m, b, i] => some (.dropContrib m b i)
  | 0x05, [m] => some (.clearMix m)
  | 0x06, [s, p, md, x, y, z] => some (.openTalk s p md (beNat [x, y, z]))
  | 0x07, [s] => some (.closeTalk s)
  | 0x08, pres :: rest => ((readOpts talkCfgSizes pres rest).bind talkCfgSetOf).map .setTalkCfg
  | 0x09, pres :: rest => ((readOpts lockSizes pres rest).bind lockSetOf).map .setLock
  | _, _ => none

/-- The code of a request (Table 10-2). -/
def Request.code : Request → Nat
  | .identify => 0x01
  | .setState _ => 0x02
  | .resetSoft => 0x03
  | .linkReset => 0x04
  | .setNoticeMask _ => 0x05
  | .setPath _ _ => 0x10
  | .getPath _ => 0x11
  | .setPlayout _ => 0x12
  | .getLink => 0x13
  | .setClock _ => 0x14
  | .getChannel _ => 0x21
  | .getMix _ => 0x31
  | .getTalk => 0x43
  | .getLock => 0x51
  | .meterRead _ _ => 0x60
  | .update u => u.code

/-- The field bytes of a request (Table 10-2). -/
def Request.fields : Request → List Nat
  | .identify => []
  | .setState t => [t]
  | .resetSoft => []
  | .linkReset => []
  | .setNoticeMask m => beBytes 2 m
  | .setPath p f => p :: writeOpts pathSizes f.opts
  | .getPath p => [p]
  | .setPlayout d => [d]
  | .getLink => []
  | .setClock s => [s]
  | .getChannel ch => [ch]
  | .getMix m => [m]
  | .getTalk => []
  | .getLock => []
  | .meterRead a n => [a, n]
  | .update u => u.fields

/-- What a request code and its field bytes give (R162 steps 4 and 5): no such code, a bad shape, or a request. -/
inductive Parsed where
  | unknown
  | malformed
  | ok (r : Request)
  deriving DecidableEq, Repr, Inhabited

def parsedOf : Option Request → Parsed
  | some r => .ok r
  | none => .malformed

def parsedUpdate (kind : Nat) (bytes : List Nat) : Parsed :=
  parsedOf ((updateOfKind kind bytes).map .update)

/-- The request a code and its field bytes give (Table 10-2, R173). -/
def parseRequest (code : Nat) (bytes : List Nat) : Parsed :=
  match code with
  | 0x01 => parsedOf (match bytes with | [] => some .identify | _ => none)
  | 0x02 => parsedOf (match bytes with | [t] => some (.setState t) | _ => none)
  | 0x03 => parsedOf (match bytes with | [] => some .resetSoft | _ => none)
  | 0x04 => parsedOf (match bytes with | [] => some .linkReset | _ => none)
  | 0x05 => parsedOf (match bytes with | [x, y] => some (.setNoticeMask (beNat [x, y])) | _ => none)
  | 0x10 => parsedOf (match bytes with
      | p :: pres :: rest => ((readOpts pathSizes pres rest).bind pathSetOf).map (.setPath p ·)
      | _ => none)
  | 0x11 => parsedOf (match bytes with | [p] => some (.getPath p) | _ => none)
  | 0x12 => parsedOf (match bytes with | [d] => some (.setPlayout d) | _ => none)
  | 0x13 => parsedOf (match bytes with | [] => some .getLink | _ => none)
  | 0x14 => parsedOf (match bytes with | [s] => some (.setClock s) | _ => none)
  | 0x20 => parsedUpdate 0x01 bytes
  | 0x21 => parsedOf (match bytes with | [ch] => some (.getChannel ch) | _ => none)
  | 0x30 => parsedUpdate 0x02 bytes
  | 0x31 => parsedOf (match bytes with | [m] => some (.getMix m) | _ => none)
  | 0x32 => parsedUpdate 0x03 bytes
  | 0x33 => parsedUpdate 0x04 bytes
  | 0x34 => parsedUpdate 0x05 bytes
  | 0x40 => parsedUpdate 0x06 bytes
  | 0x41 => parsedUpdate 0x07 bytes
  | 0x42 => parsedUpdate 0x08 bytes
  | 0x43 => parsedOf (match bytes with | [] => some .getTalk | _ => none)
  | 0x50 => parsedUpdate 0x09 bytes
  | 0x51 => parsedOf (match bytes with | [] => some .getLock | _ => none)
  | 0x60 => parsedOf (match bytes with | [a, n] => some (.meterRead a n) | _ => none)
  | _ => .unknown

/-! ### Identifier checks (R172 step 2) -/

/-- A requested set names no destination above 16 (R173). -/
def setOk (set : Nat) : Bool :=
  decide (set < 2 ^ 17)

/-- A talk source the end's host may name: FOH at DESK (R146), MON and STAGE at STAGE (R135, R143). -/
def sourceOk (role : Role) (n : Nat) : Bool :=
  match role, sourceOf n with
  | .desk, some .foh => true
  | .stage, some .mon => true
  | .stage, some .stg => true
  | _, _ => false

/-- Every identifier field of an update lies in its range, for the end that takes it. -/
def Update.identOk (role : Role) : Update → Bool
  | .setChannel ch _ => decide (ch ≤ 63)
  | .setMix m _ => decide (m ≤ 15)
  | .putContrib m b i _ => decide (m ≤ 15) && (refOf b i).isSome
  | .dropContrib m b i => decide (m ≤ 15) && (refOf b i).isSome
  | .clearMix m => decide (m ≤ 15)
  | .openTalk s _ _ set => sourceOk role s && setOk set
  | .closeTalk s => sourceOk role s
  | .setTalkCfg _ => true
  | .setLock _ => true

/-- Every identifier field of a request lies in its range, for the end that takes it. -/
def Request.identOk (role : Role) : Request → Bool
  | .setState t => decide (t ≤ 1)
  | .setPath p f => decide (p ≤ 1) && decide (f.preferred.getD 0 ≤ 1)
  | .getPath p => decide (p ≤ 1)
  | .setClock s => decide (s ≤ 1)
  | .getChannel ch => decide (ch ≤ 63)
  | .getMix m => decide (m ≤ 15)
  | .meterRead a _ => decide (a ≤ 79)
  | .update u => u.identOk role
  | _ => true

/-! ### Clamping (R172 step 3) -/

/-- A two-valued field as 0 or 1. -/
def clampFlag (n : Nat) : Nat :=
  if n = 0 then 0 else 1

/-- R88 step 2. -/
def ChanSet.clamp (f : ChanSet) : ChanSet :=
  ⟨f.gain.map (min 60), f.pad.map clampFlag, f.polarity.map clampFlag, f.mute.map clampFlag, f.phantom.map clampFlag⟩

/-- R116 step 2. -/
def MixSet.clamp (f : MixSet) : MixSet :=
  ⟨f.master.map (min 255), f.offset.map (min 63), f.dim.map (min 255), f.talkLevel.map (min 255), f.talkMask.map (min 6)⟩

/-- R145 step 1. -/
def TalkCfgSet.clamp (f : TalkCfgSet) : TalkCfgSet :=
  ⟨f.cueMask.map (min 6), f.cueLevel.map (min 255), f.limit.map (clampNat 5 600)⟩

/-- R181: 0 for open and any other value for locked. -/
def LockSet.clamp (f : LockSet) : LockSet :=
  ⟨f.preamp.map clampFlag, f.condition.map clampFlag, f.mix.map clampFlag, f.talk.map clampFlag⟩

/-- R19: the threshold into 1 to 999, the silence selector to 3. -/
def PathSet.clamp (f : PathSet) : PathSet :=
  ⟨f.enabled.map clampFlag, f.threshold.map (clampNat 1 999), f.silenceSel.map (min 3), f.autoBurst.map clampFlag,
    f.preferred, f.revertive.map clampFlag⟩

/-- The update with every value that is no identifier clamped (R88, R113 with section 6.3, R116, R135, R145). -/
def Update.clamp : Update → Update
  | .setChannel ch f => .setChannel ch f.clamp
  | .setMix m f => .setMix m f.clamp
  | .putContrib m b i c => .putContrib m b i (min 255 c)
  | .dropContrib m b i => .dropContrib m b i
  | .clearMix m => .clearMix m
  | .openTalk s p md set => .openTalk s (clampNat 1 7 p) (clampFlag md) set
  | .closeTalk s => .closeTalk s
  | .setTalkCfg f => .setTalkCfg f.clamp
  | .setLock f => .setLock f.clamp

/-- The request with every value that is no identifier clamped (R172 step 3). -/
def Request.clamp : Request → Request
  | .setPath p f => .setPath p f.clamp
  | .setPlayout d => .setPlayout (clampNat 4 12 d)
  | .meterRead a n => .meterRead a (min 80 n)
  | .update u => .update u.clamp
  | r => r

/-- A SET_CHANNEL, SET_MIX, SET_TALKCFG or SET_LOCK with no optional field present (R182). -/
def Update.noField : Update → Bool
  | .setChannel _ f => f.opts.all Option.isNone
  | .setMix _ f => f.opts.all Option.isNone
  | .setTalkCfg f => f.opts.all Option.isNone
  | .setLock f => f.opts.all Option.isNone
  | _ => false

end Sys2Proof
end

