-- ==== Sys2Proof/Machine/Flags.lean ====
section
/-!
DEFINITION. The judgements the blocks read: usable paths, the quiet lane, ramp targets, eligibility, free reply places,
the light judgement, the chosen reference. Each is a function of the state alone.
-/

namespace Sys2Proof.Machine

/-! ### Paths and link -/

/-- The Path Controller of a path. -/
def Part.path (x : Part) : Path → PathCtl
  | .a => x.pa
  | .b => x.pb

/-- The other path. -/
def otherPath : Path → Path
  | .a => .b
  | .b => .a

/-- The other role. -/
def otherRole : Role → Role
  | .desk => .stage
  | .stage => .desk

/-- A path is usable when it is IN_SERVICE or IMPAIRED (2.2). -/
def PathCtl.usable (c : PathCtl) : Bool :=
  c.state == .inService || c.state == .impaired

/-- Some path is usable. -/
def Part.anyUsable (x : Part) : Bool :=
  x.pa.usable || x.pb.usable

/-- A path is at step ALIGN of bring-up. -/
def PathCtl.atAlign (c : PathCtl) : Bool :=
  c.state == .acquiring && c.step == .align

/-- The light judgement of a history: present when at least two of the three results saw light (R21). -/
def LightHist.judge (h : LightHist) : Bool :=
  majority (h.oldest, h.middle, h.newest)

/-- The silence limit of a selector, in sample events (Table 2-4). -/
def silenceLimit (sel : Nat) : Nat :=
  24 * 2 ^ sel

/-- The link is up: PROTECTED or EXPOSED. -/
def LinkState.up (l : LinkState) : Bool :=
  l == .protect || l == .exposed

/-- The link state that the usable judgements give (R57). -/
def linkOf (old : LinkState) (usableA usableB : Bool) : LinkState :=
  match usableA, usableB with
  | true, true => .protect
  | true, false => .exposed
  | false, true => .exposed
  | false, false => if old.up then .severed else old

/-- The reference path chosen from the two paths' states, the pair configuration and the present reference (R55). -/
def chooseRef (a b : PathCtl) (pair : PairCfg) (cur : Option Path) : Option Path :=
  let st : Path → PathCtl := fun p => match p with
    | .a => a
    | .b => b
  let keeps : Bool := match cur with
    | some p => (st p).state == .inService
    | none => false
  let stillUsable : Bool := match cur with
    | some p => (st p).usable
    | none => false
  if !(a.usable || b.usable) then none
  else if !pair.revertive && keeps then cur
  else if (st pair.preferred).state == .inService then some pair.preferred
  else if (st (otherPath pair.preferred)).state == .inService then some (otherPath pair.preferred)
  else if stillUsable then cur
  else if a.usable then some .a
  else some .b

/-- Either transmitter is FULL, so that lane symbols and a meter cell are taken (R41). -/
def Part.anyFull (x : Part) : Bool :=
  x.pa.tx == .full || x.pb.tx == .full

/-! ### Lane -/

/-- The lane is quiet (R80). -/
def Part.quiet (x : Part) : Bool :=
  x.dsc.restartFlag || x.ple.episode || decide (0 < x.ple.quietTail)

/-- The records in flight: the oldest of the list (R68). -/
def Ple.inFlight (l : Ple) : Nat :=
  (l.queue.filter fun r => r.seq.isSome).length

/-- The lane ack sent: the last applied sequence, E − 1 modulo 256 (R73). -/
def Ple.ack (l : Ple) : Nat :=
  (l.expSeq + 255) % 256

/-! ### Ramp targets -/

/-- The effective target of a conditioning ramp (R91). -/
def condTarget (op : OpState) (c : Channel) : Int :=
  if c.mute = false ∧ (c.phantom = .off ∨ c.phantom = .on) ∧ op = .operate then unity else 0

/-- The effective target of a master ramp (R117). -/
def masterTarget (op : OpState) (m : Mix) : Int :=
  if op = .operate then faderK m.master else 0

/-- The effective target of a contribution's gain ramp (R112). -/
def contribTarget (phase : Phase) (c : Contrib) : Int :=
  if c.live = false then 0
  else if c.ref.bank = .input ∧ phase = .leaving then 0
  else faderK c.code

/-- The effective target of a dim ramp (Table 6-3). -/
def dimTarget (m : Mix) : Int :=
  if m.dest = .held then faderK m.dim else unity

/-- The effective target of a talk ramp (Table 6-3). -/
def talkTarget (m : Mix) : Int :=
  if m.dest = .held then faderK m.talkLevel else 0

/-- The effective target of the cue ramp (R147). -/
def cueTarget (cfg : TalkCfg) (d : DestState) : Int :=
  if d = .held then faderK cfg.cueLevel else 0

/-! ### Channels and phantom -/

/-- The entry of a channel (the power-on entry where there is none). -/
def Part.channel (x : Part) (n : Nat) : Channel :=
  x.chs.channels.getD n Channel.powerOn

/-- Phantom-on is on in RISING and ON (1.6.1, R93). -/
def Phantom.supply (p : Phantom) : Bool :=
  p == .rising || p == .on

/-- The number of channels RISING. -/
def Part.rising (x : Part) : Nat :=
  (x.chs.channels.filter fun c => c.phantom == .rising).length

/-! ### Mixes -/

/-- The record of a mix (the power-on record where there is none). -/
def Part.mix (x : Part) (m : Nat) : Mix :=
  x.mxe.mixes.getD m Mix.powerOn

/-- The contribution of a source reference in a mix's list. -/
def Mix.find (m : Mix) (r : SrcRef) : Option Contrib :=
  m.contribs.find? fun c => c.ref == r

/-! ### Talk -/

/-- What the TKA holds for a source. -/
def Tka.source (t : Tka) : Source → SourceRec
  | .foh => t.foh
  | .mon => t.mon
  | .stg => t.stg

/-- A source's session. -/
def Part.session (x : Part) (s : Source) : Option Session :=
  (x.tka.source s).session

/-- The record of a destination. -/
def Part.dest (x : Part) (d : Nat) : Dest :=
  x.tka.dests.getD d Dest.powerOn

/-- A destination's mask: of the mix record, or of the talk configuration for FOH CUE (Table 7-2). -/
def Part.maskOf (x : Part) (d : Nat) : Nat :=
  if d = 16 then x.tka.cfg.cueMask else (x.mix d).talkMask

/-- A session is eligible for a destination (R134). -/
def Part.eligible (x : Part) (s : Session) (d : Nat) : Bool :=
  s.requested.testBit d && (decide (x.maskOf d < s.priority) || s.priority == 7) &&
    (d != 16 || x.fmu.link.up)

/-- A session waits for a destination it requests and does not hold (R136). -/
def Session.waits (s : Session) (d : Nat) : Bool :=
  s.requested.testBit d && !s.granted.testBit d

/-- What ECHO_TALK and TALK_STATE report of a session. -/
def Session.echo (s : Session) : SessionEcho :=
  ⟨s.priority, s.latched, s.requested, s.granted⟩

/-- The DESK's FOH session mirror shows the session open (R83, R146). -/
def Mirror.fohOpen (m : Mirror) : Bool :=
  match m.foh with
  | some e => e.session.isSome
  | none => false

/-! ### Control Message Port -/

/-- The free places of the reply queue: 8, less the replies in it, less the held requests (R165). -/
def Part.freeReplies (x : Part) : Nat :=
  8 - (x.cmp.replies.length + x.dsc.heldState.isSome.toNat + x.dsc.heldLink.isSome.toNat)

/-- The line speed the speed straps give (Table 9-2). -/
def lineSpeed (strap1 strap0 : Bool) : Nat :=
  match strap1, strap0 with
  | false, false => 115200
  | false, true => 230400
  | true, false => 460800
  | true, true => 921600

/-- The code of a notice kind (Table 9-7). -/
def Notice.kind : Notice → Nat
  | .pathState _ _ _ _ _ => 0x01
  | .linkState _ _ _ _ _ => 0x02
  | .bringupStall _ _ => 0x03
  | .laneReset _ _ => 0x04
  | .mirrorState _ _ => 0x05
  | .channelChanged _ _ _ => 0x06
  | .mixChanged _ _ _ => 0x07
  | .contribChanged _ _ _ _ => 0x08
  | .lockChanged _ => 0x09
  | .updateRefused _ _ _ => 0x0A
  | .phantomDone _ _ _ _ _ => 0x0B
  | .phantomDoneDesk _ _ => 0x0B
  | .talkState _ => 0x0C
  | .talkCfgState _ _ => 0x0C
  | .clip _ _ _ => 0x0D
  | .clockState _ => 0x0E
  | .noticesLost _ => 0x0F

/-- The code of a reply (Table 9-3). -/
def ReplyCode.num : ReplyCode → Nat
  | .ok => 0x00
  | .accepted => 0x01
  | .already => 0x02
  | .busy => 0x03
  | .state => 0x04
  | .range => 0x05
  | .locked => 0x06
  | .full => 0x07
  | .unknown => 0x08
  | .malformed => 0x09
  | .aborted => 0x0A
  | .frame => 0x0B

/-- The clock fields of CLOCK_STATE and IDENTIFY (R14). -/
def Part.clockInfo (x : Part) : ClockInfo :=
  match x.dsc.role with
  | .desk => ⟨.desk, some x.scu.source, x.scu.lock, none⟩
  | .stage => ⟨.stage, none, x.scu.lock, x.fmu.ref⟩

end Sys2Proof.Machine
end

