-- ==== Sys2Proof/Machine/Ops.lean ====
section
/-!
DEFINITION. The operations every block shares: changing one entry of one block, queueing a notice and a reply (R165,
R168, R169), queueing a preamp record (R17), following the reference clock (R13, R14). A block has no
exception entry: what it reports, it reports by a notice or a reply.
-/

namespace Sys2Proof.Machine

/-! ### One entry of one block -/

/-- A change of one Path Controller. -/
def Part.onPath (p : Path) (f : PathCtl → PathCtl) (x : Part) : Part :=
  match p with
  | .a => { x with pa := f x.pa }
  | .b => { x with pb := f x.pb }

/-- A change of one channel entry. -/
def Part.onChannel (n : Nat) (f : Channel → Channel) (x : Part) : Part :=
  { x with chs := { x.chs with channels := updAt n f x.chs.channels } }

/-- A change of one mix record. -/
def Part.onMix (m : Nat) (f : Mix → Mix) (x : Part) : Part :=
  { x with mxe := { x.mxe with mixes := updAt m f x.mxe.mixes } }

/-- A change of one destination record. -/
def Part.onDest (d : Nat) (f : Dest → Dest) (x : Part) : Part :=
  { x with tka := { x.tka with dests := updAt d f x.tka.dests } }

/-- A change of what the TKA holds for one source. -/
def Tka.onSource (s : Source) (f : SourceRec → SourceRec) (t : Tka) : Tka :=
  match s with
  | .foh => { t with foh := f t.foh }
  | .mon => { t with mon := f t.mon }
  | .stg => { t with stg := f t.stg }

/-- A change of what the TKA holds for one source. -/
def Part.onSource (s : Source) (f : SourceRec → SourceRec) (x : Part) : Part :=
  { x with tka := x.tka.onSource s f }

/-- A change of the Parameter Lane Engine. -/
def Part.onPle (f : Ple → Ple) (x : Part) : Part :=
  { x with ple := f x.ple }

/-- A change of the Frame Merge Unit. -/
def Part.onFmu (f : Fmu → Fmu) (x : Part) : Part :=
  { x with fmu := f x.fmu }

/-- A change of the Control Message Port. -/
def Part.onCmp (f : Cmp → Cmp) (x : Part) : Part :=
  { x with cmp := f x.cmp }

/-! ### Notices (R168, R169) -/

/-- A notice that passed the mask joins the tail, or is counted as lost when the queue holds 32 (R169). -/
def Cmp.join (n : Notice) (c : Cmp) : Cmp :=
  if c.notices.length < 32 then { c with notices := c.notices ++ [n] }
  else { c with lossFlag := true, lost := satInc c.lost }

/-- A block queues a notice: it is tested against the mask at that moment (R168). NOTICES_LOST has no enable. -/
def Cmp.notify (n : Notice) (c : Cmp) : Cmp :=
  if n.kind = 0x0F ∨ c.mask.getD (n.kind - 1) true = true then c.join n else c

/-- A block queues a notice at the Control Message Port. -/
def Part.notify (n : Notice) (x : Part) : Part :=
  { x with cmp := x.cmp.notify n }

/-! ### Replies (R165) -/

/-- A reply joins the tail of the reply queue. -/
def Part.reply (tag : Nat) (code : ReplyCode) (body : ReplyBody) (x : Part) : Part :=
  { x with cmp := { x.cmp with replies := x.cmp.replies ++ [⟨tag, code, body⟩] } }

/-- A reply that carries no fields. -/
def Part.answer (tag : Nat) (code : ReplyCode) (x : Part) : Part :=
  x.reply tag code .none

/-- An entry reply is queued while at least three reply places are free, and otherwise lost and counted (R163). -/
def Part.entryReply (tag : Nat) (code : ReplyCode) (x : Part) : Part :=
  if 3 ≤ x.freeReplies then x.answer tag code
  else { x with cmp := { x.cmp with repliesLost := satInc x.cmp.repliesLost } }

/-! ### Preamp records (R17) -/

/-- A record replaces the queued record of its channel in place, or joins the tail. -/
def queuePreamp (r : PreampRecord) (q : List PreampRecord) : List PreampRecord :=
  if q.any fun e => e.channel == r.channel then q.map fun e => if e.channel = r.channel then r else e
  else q ++ [r]

/-- The record of a channel's present values (R93). -/
def Part.preampRecord (x : Part) (n : Nat) : PreampRecord :=
  ⟨n, (x.channel n).gain, (x.channel n).pad, (x.channel n).phantom.supply⟩

/-- The CHS hands the API a preamp setting record for a channel (R17, R93). -/
def Part.preamp (n : Nat) (x : Part) : Part :=
  { x with api := { x.api with queue := queuePreamp (x.preampRecord n) x.api.queue } }

/-- The full refresh: the queue emptied and one record per channel in channel order, at STAGE (R18). -/
def Part.refreshPreamps (x : Part) : Part :=
  match x.dsc.role with
  | .stage => { x with api := { x.api with queue := (List.range 64).map x.preampRecord } }
  | .desk => x

/-! ### Clock state (R13, R14) -/

/-- The SCU queues CLOCK_STATE with its present fields (R14). -/
def Part.notifyClock (x : Part) : Part :=
  x.notify (.clockState x.clockInfo)

/-- The lock state a STAGE SCU takes from the reference path (R13). -/
def followRef (ref : Option Path) (lock : LockState) : LockState :=
  match ref with
  | some _ => .locked
  | none => if lock = .locked then .holdover else lock

/-- The STAGE SCU reads the reference path (R13); a change of lock state queues CLOCK_STATE (R14). -/
def Part.clockFollow (x : Part) : Part :=
  if x.dsc.role = .stage ∧ followRef x.fmu.ref x.scu.lock ≠ x.scu.lock then
    ({ x with scu := { x.scu with lock := followRef x.fmu.ref x.scu.lock } }).notifyClock
  else x

end Sys2Proof.Machine
end

