-- ==== Sys2Proof/Machine/Lane.lean ====
section
/-!
DEFINITION. The Parameter Lane Engine (chapter 4): records as bytes and symbols (R64, R65, Table 9-9), the transmit
queue (R68, R69), acks and go-back (R70, R71), the receive assembler (R72), echoes and refusals (R75, R76) and the dump
(R82). What applying a record does stands in Updates.lean and Mirror.lean.
-/

namespace Sys2Proof.Machine

/-! ### Records as bytes (Table 4-2, Table 9-9) -/

def phantomNum : Phantom → Nat
  | .off => 0
  | .queued => 1
  | .rising => 2
  | .on => 3
  | .falling => 4

def phantomOf (n : Nat) : Option Phantom :=
  match n with
  | 0 => some .off
  | 1 => some .queued
  | 2 => some .rising
  | 3 => some .on
  | 4 => some .falling
  | _ => none

def phaseNum : Phase → Nat
  | .steady => 0
  | .leaving => 1
  | .arriving => 2

def phaseOf (n : Nat) : Option Phase :=
  match n with
  | 0 => some .steady
  | 1 => some .leaving
  | 2 => some .arriving
  | _ => none

def reasonNum : CloseReason → Nat
  | .none => 0
  | .close => 1
  | .limit => 2
  | .link => 3
  | .standby => 4

def reasonOf (n : Nat) : Option CloseReason :=
  match n with
  | 0 => some .none
  | 1 => some .close
  | 2 => some .limit
  | 3 => some .link
  | 4 => some .standby
  | _ => none

/-- A two-valued field of a house-bound body: 0 or 1 and nothing else (9.7). -/
def bitOf (n : Nat) : Option Bool :=
  match n with
  | 0 => some false
  | 1 => some true
  | _ => none

def refuseNum : RefuseReason → Nat
  | .full => 0
  | .state => 1

def refuseOf (n : Nat) : Option RefuseReason :=
  match n with
  | 0 => some .full
  | 1 => some .state
  | _ => none

/-- The kind code of a record (Table 4-2). -/
def LaneMsg.kind : LaneMsg → Nat
  | .update u => u.kind
  | .echoChannel _ _ => 0x11
  | .echoMix _ _ => 0x12
  | .echoContrib _ _ _ => 0x13
  | .echoTalk _ _ => 0x14
  | .echoTalkCfg _ => 0x14
  | .echoLock _ => 0x15
  | .refused _ _ _ => 0x16
  | .dumpBegin => 0x17
  | .dumpEnd => 0x18

/-- The body of a record (Table 9-6, Table 9-9). -/
def LaneMsg.body : LaneMsg → List Nat
  | .update u => u.fields
  | .echoChannel ch e =>
    [ch] ++ beBytes 2 e.version ++ [e.gainTarget, flagNum e.pad, flagNum e.inverted, flagNum e.mute, flagNum e.request,
      phantomNum e.phantom]
  | .echoMix m e =>
    [m] ++ beBytes 2 e.version ++ [e.master, e.offset, e.pendingOffset, phaseNum e.phase, e.dim, e.talkLevel, e.talkMask]
  | .echoContrib m r e =>
    [m, bankNum r.bank, r.idx] ++ beBytes 2 e.version ++
      (match e.live with
       | some code => [1, code]
       | none => [0])
  | .echoTalk src e =>
    [0, sourceNum src] ++ beBytes 2 e.version ++
      (match e.session with
       | some s => [1, s.priority, flagNum s.latched] ++ beBytes 3 s.requested ++ beBytes 3 s.granted
       | none => [0, reasonNum e.reason])
  | .echoTalkCfg c => [1] ++ beBytes 2 c.version ++ [c.cueMask, c.cueLevel] ++ beBytes 2 c.limit
  | .echoLock l => beBytes 2 l.version ++ [flagNum l.preamp, flagNum l.condition, flagNum l.mix, flagNum l.talk]
  | .refused id reason n => [id.kind, id.id1, id.id2, id.id3, refuseNum reason, n]
  | .dumpBegin => []
  | .dumpEnd => []

/-- The house-bound record that a kind code and body give, or nothing where the body does not fit its kind (R73, 9.7). The
talk source and the bank are read as coded fields, so that a value outside their codes makes the body malformed, while a
channel, mix or source index is taken as it stands (DEDUCED, log entry 18). -/
def echoOfKind (kind : Nat) (bytes : List Nat) : Option LaneMsg :=
  match kind, bytes with
  | 0x11, [ch, v1, v0, g, pad, pol, mute, req, ph] => do
    let pad ← bitOf pad
    let pol ← bitOf pol
    let mute ← bitOf mute
    let req ← bitOf req
    let ph ← phantomOf ph
    some (.echoChannel ch ⟨beNat [v1, v0], g, pad, pol, mute, req, ph⟩)
  | 0x12, [m, v1, v0, ma, off, pend, ph, dim, lvl, mask] => do
    let ph ← phaseOf ph
    some (.echoMix m ⟨beNat [v1, v0], ma, off, pend, ph, dim, lvl, mask⟩)
  | 0x13, [m, b, i, v1, v0, 0] => do
    let b ← bankOf b
    some (.echoContrib m ⟨b, i⟩ ⟨beNat [v1, v0], none⟩)
  | 0x13, [m, b, i, v1, v0, 1, code] => do
    let b ← bankOf b
    some (.echoContrib m ⟨b, i⟩ ⟨beNat [v1, v0], some code⟩)
  | 0x14, [0, s, v1, v0, 0, why] => do
    let src ← sourceOf s
    let why ← reasonOf why
    some (.echoTalk src ⟨beNat [v1, v0], none, why⟩)
  | 0x14, [0, s, v1, v0, 1, pri, md, r2, r1, r0, g2, g1, g0] => do
    let src ← sourceOf s
    let md ← bitOf md
    some (.echoTalk src ⟨beNat [v1, v0], some ⟨pri, md, beNat [r2, r1, r0], beNat [g2, g1, g0]⟩, .none⟩)
  | 0x14, [1, v1, v0, mask, lvl, l1, l0] => some (.echoTalkCfg ⟨mask, lvl, beNat [l1, l0], beNat [v1, v0]⟩)
  | 0x15, [v1, v0, a, b, c, d] => do
    let a ← bitOf a
    let b ← bitOf b
    let c ← bitOf c
    let d ← bitOf d
    some (.echoLock ⟨a, b, c, d, beNat [v1, v0]⟩)
  | 0x16, [k, i1, i2, i3, why, n] => do
    let why ← refuseOf why
    if 1 ≤ k ∧ k ≤ 9 then some (.refused ⟨k, i1, i2, i3⟩ why n) else none
  | 0x17, [] => some .dumpBegin
  | 0x18, [] => some .dumpEnd
  | _, _ => none

/-- The stage-bound record that a kind code and body give: the fields of the request of the same name with every
identifier in its range and source FOH (R73). -/
def updateRecord (kind : Nat) (bytes : List Nat) : Option LaneMsg :=
  match updateOfKind kind bytes with
  | some u => if u.identOk .desk then some (.update u) else none
  | none => none

/-- The record a kind code and body give at an end: stage-bound records at STAGE, house-bound ones at DESK (R65). -/
def readRecord (role : Role) (kind : Nat) (bytes : List Nat) : Option LaneMsg :=
  match role with
  | .stage => updateRecord kind bytes
  | .desk => echoOfKind kind bytes

/-! ### Targets (Table 4-2) -/

def refTarget (m : Nat) (r : SrcRef) : Target :=
  .contrib m (bankNum r.bank) r.idx

/-- The target of an update's record. -/
def updateTarget : Update → Target
  | .setChannel ch _ => .channel ch
  | .setMix m _ => .mix m
  | .putContrib m b i _ => .contrib m b i
  | .dropContrib m b i => .contrib m b i
  | .clearMix m => .clear m
  | .openTalk s _ _ _ => .talk s
  | .closeTalk s => .talk s
  | .setTalkCfg _ => .talkCfg
  | .setLock _ => .locks

/-- The target of the record a REFUSED record refuses (9.7). -/
def RefusedId.target (id : RefusedId) : Target :=
  match id.kind with
  | 0x01 => .channel id.id1
  | 0x02 => .mix id.id1
  | 0x03 => .contrib id.id1 id.id2 id.id3
  | 0x04 => .contrib id.id1 id.id2 id.id3
  | 0x05 => .clear id.id1
  | 0x06 => .talk id.id1
  | 0x07 => .talk id.id1
  | 0x08 => .talkCfg
  | _ => .locks

/-- The refused identifier of an update (9.7). -/
def refusedId (u : Update) : RefusedId :=
  match u with
  | .setChannel ch _ => ⟨u.kind, ch, 0, 0⟩
  | .setMix m _ => ⟨u.kind, m, 0, 0⟩
  | .putContrib m b i _ => ⟨u.kind, m, b, i⟩
  | .dropContrib m b i => ⟨u.kind, m, b, i⟩
  | .clearMix m => ⟨u.kind, m, 0, 0⟩
  | .openTalk s _ _ _ => ⟨u.kind, s, 0, 0⟩
  | .closeTalk s => ⟨u.kind, s, 0, 0⟩
  | .setTalkCfg _ => ⟨u.kind, 0, 0, 0⟩
  | .setLock _ => ⟨u.kind, 0, 0, 0⟩

/-- The target of a record. -/
def LaneMsg.target : LaneMsg → Target
  | .update u => updateTarget u
  | .echoChannel ch _ => .channel ch
  | .echoMix m _ => .mix m
  | .echoContrib m r _ => refTarget m r
  | .echoTalk src _ => .talk (sourceNum src)
  | .echoTalkCfg _ => .talkCfg
  | .echoLock _ => .locks
  | .refused id _ _ => .refusal id.target
  | .dumpBegin => .dumpStart
  | .dumpEnd => .dumpFinish

/-! ### Admission (R69) -/

/-- A present field overwrites, an absent one keeps the older value. -/
def overlay (new old : Option Nat) : Option Nat :=
  match new with
  | some v => some v
  | none => old

/-- The record that takes an unsent record's place: optional fields merged, refusal counts added (saturating at
255), otherwise the new record whole (R69 step 2). -/
def mergeMsg (old new : LaneMsg) : LaneMsg :=
  match old, new with
  | .update (.setChannel _ o), .update (.setChannel ch n) =>
    .update (.setChannel ch ⟨overlay n.gain o.gain, overlay n.pad o.pad, overlay n.polarity o.polarity,
      overlay n.mute o.mute, overlay n.phantom o.phantom⟩)
  | .update (.setMix _ o), .update (.setMix m n) =>
    .update (.setMix m ⟨overlay n.master o.master, overlay n.offset o.offset, overlay n.dim o.dim,
      overlay n.talkLevel o.talkLevel, overlay n.talkMask o.talkMask⟩)
  | .update (.setTalkCfg o), .update (.setTalkCfg n) =>
    .update (.setTalkCfg ⟨overlay n.cueMask o.cueMask, overlay n.cueLevel o.cueLevel, overlay n.limit o.limit⟩)
  | .update (.setLock o), .update (.setLock n) =>
    .update (.setLock ⟨overlay n.preamp o.preamp, overlay n.condition o.condition, overlay n.mix o.mix,
      overlay n.talk o.talk⟩)
  | .refused _ _ a, .refused id reason b => .refused id reason (min 255 (a + b))
  | _, new => new

/-- An unsent PUT_CONTRIB or DROP_CONTRIB for a mix. -/
def LaneRec.editOf (m : Nat) (r : LaneRec) : Bool :=
  r.seq.isNone &&
    (match r.msg with
     | .update (.putContrib k _ _ _) => k == m
     | .update (.dropContrib k _ _) => k == m
     | _ => false)

/-- Step 1 of R69: a CLEAR_MIX first removes the mix's unsent contribution edits. -/
def clearEdits (msg : LaneMsg) (q : List LaneRec) : List LaneRec :=
  match msg with
  | .update (.clearMix m) => q.filter fun r => !r.editOf m
  | _ => q

/-- An unsent record of a target. -/
def LaneRec.unsentOf (t : Target) (r : LaneRec) : Bool :=
  r.seq.isNone && r.msg.target == t

/-- The transmit queue after a record is offered to it, or nothing where the record is not admitted (R69). -/
def admitTo (msg : LaneMsg) (q : List LaneRec) : Option (List LaneRec) :=
  let q1 := clearEdits msg q
  match findFrom (LaneRec.unsentOf msg.target) 0 q1 with
  | some i => some (updAt i (fun r => ⟨mergeMsg r.msg msg, none⟩) q1)
  | none => if q1.length < 32 then some (q1 ++ [⟨msg, none⟩]) else none

/-- A record offered to the transmit queue; a queue that does not admit it is left as it stands. -/
def Ple.offer (msg : LaneMsg) (l : Ple) : Ple :=
  match admitTo msg l.queue with
  | some q => { l with queue := q }
  | none => l

/-! ### Sending (R68) -/

/-- The symbols of a record with its sequence (R64). -/
def recordSyms (msg : LaneMsg) (seq : Nat) : List Sym :=
  ⟨true, msg.kind⟩ :: ⟨false, seq⟩ :: ⟨false, msg.body.length⟩ :: msg.body.map fun b => ⟨false, b⟩

/-- Idle fill (R64). -/
def Sym.idle : Sym :=
  ⟨true, 0⟩

/-- Where the cursor goes after the last symbol of a record: to the next in-flight record, or to rest. A next record
that is unsent goes in flight from rest at the next symbol (R68). -/
def Ple.cursorAfter (l : Ple) (i : Nat) : Option (Nat × Nat) :=
  match l.queue[i + 1]? with
  | some r => if r.seq.isSome then some (i + 1, 0) else none
  | none => none

/-- The next symbol of the record under the cursor, or, with the cursor at rest, the header of the oldest unsent record
as it goes in flight, or idle fill (R68). -/
def Ple.takeSym (quiet : Bool) (l : Ple) : Sym × Ple :=
  if quiet then (Sym.idle, l)
  else
    match l.cursor with
    | some (i, pos) =>
      match l.queue[i]? with
      | some r =>
        let syms := recordSyms r.msg (r.seq.getD 0)
        (syms.getD pos Sym.idle,
          { l with cursor := if pos + 1 < syms.length then some (i, pos + 1) else l.cursorAfter i })
      | none => (Sym.idle, { l with cursor := none })
    | none =>
      match findFrom (fun r : LaneRec => r.seq.isNone) 0 l.queue with
      | some i =>
        if l.inFlight < 12 then
          (⟨true, (l.queue.getD i default).msg.kind⟩,
            { l with
              queue := updAt i (fun r => { r with seq := some l.nextSeq }) l.queue
              nextSeq := inc8 l.nextSeq
              cursor := some (i, 1)
              resendTimer := if l.inFlight = 0 then 0 else l.resendTimer })
        else (Sym.idle, l)
      | none => (Sym.idle, l)

/-- `n` symbols, in order. -/
def Ple.takeSyms (quiet : Bool) : Nat → Ple → List Sym × Ple
  | 0, l => ([], l)
  | n + 1, l =>
    let (s, l1) := l.takeSym quiet
    let (ss, l2) := Ple.takeSyms quiet n l1
    (s :: ss, l2)

/-! ### Acks and go-back (R70, R71) -/

/-- The cursor after an ack removes the oldest `k` records (R70). -/
def cursorAcked (k : Nat) (rest : List LaneRec) (cursor : Option (Nat × Nat)) : Option (Nat × Nat) :=
  match cursor with
  | none => none
  | some (i, pos) =>
    if k ≤ i then some (i - k, pos)
    else match rest with
      | r :: _ => if r.seq.isSome then some (0, 0) else none
      | [] => none

/-- An ack handed over with a good playout: ignored while the lane is quiet or when it names no record in flight;
otherwise that record and every older one leave the queue (R70). -/
def Ple.takeAck (quiet : Bool) (ack : Nat) (l : Ple) : Ple :=
  if quiet then l
  else
    match findFrom (fun r : LaneRec => r.seq == some ack) 0 l.queue with
    | some i =>
      { l with
        queue := l.queue.drop (i + 1)
        cursor := cursorAcked (i + 1) (l.queue.drop (i + 1)) l.cursor
        resendTimer := 0
        goBackDue := false }
    | none => l

/-- The resend timer at a sample event: it runs with records in flight, the lane not quiet and the link up; at 192 the
go-back comes due (R71). -/
def Ple.timerTick (running : Bool) (l : Ple) : Ple :=
  if running && decide (0 < l.inFlight) then
    { l with
      resendTimer := min 192 (l.resendTimer + 1)
      goBackDue := l.goBackDue || decide (192 ≤ l.resendTimer + 1) }
  else l

/-- GO_BACK, if it is due with a record in flight: the cursor moves to the oldest in-flight record, the timer returns
to 0, the count increases (R71). -/
def Ple.takeGoBack (l : Ple) : Ple :=
  if l.goBackDue && decide (0 < l.inFlight) then
    { l with cursor := some (0, 0), resendTimer := 0, goBacks := satInc l.goBacks, goBackDue := false }
  else l

/-! ### Receiving (R72) -/

/-- The record in progress ends before it was complete (R72). -/
def Ple.breakRecord (l : Ple) : Ple :=
  if l.asm = .idle then l else { l with asm := .idle, broken := satInc l.broken }

/-- One symbol taken by the receive assembler (R72). -/
def Ple.takeIn (s : Sym) (l : Ple) : Ple :=
  if s.marker then
    if s.data = 0 then l.breakRecord else { l.breakRecord with asm := .header s.data }
  else
    match l.asm with
    | .idle => l
    | .header k => { l with asm := .sequence k s.data }
    | .sequence k q =>
      if 40 < s.data then l.breakRecord
      else if s.data = 0 then { l with asm := .idle, done := l.done ++ [⟨k, q, []⟩] }
      else { l with asm := .body k q s.data [] }
    | .body k q n bs =>
      if (bs ++ [s.data]).length < n then { l with asm := .body k q n (bs ++ [s.data]) }
      else { l with asm := .idle, done := l.done ++ [⟨k, q, bs ++ [s.data]⟩] }

/-- The symbols of a good playout, in order (R72). -/
def Ple.takeInAll (ss : List Sym) (l : Ple) : Ple :=
  ss.foldl (fun l s => l.takeIn s) l

/-- The quiet tail at a playout: it decreases by 1 while above 0; the decrease to 0 is QUIET_TAIL_END's (R80, log
entry 2). -/
def Ple.tailTick (l : Ple) : Ple :=
  if 1 < l.quietTail then { l with quietTail := l.quietTail - 1 }
  else if l.quietTail = 1 then { l with tailDue := true }
  else l

/-- The quiet tail is set to 16 (R78, R81). -/
def Ple.setTail (l : Ple) : Ple :=
  { l with quietTail := 16, tailDue := false }

/-- QUIET_TAIL_END, if it is due: the tail reaches 0 (R80). -/
def Ple.takeTailEnd (l : Ple) : Ple :=
  if l.tailDue then { l with quietTail := 0, tailDue := false } else l

/-! ### Echoes (R66, R75, R76) -/

/-- The echoed fields of a channel entry. -/
def Channel.echo (c : Channel) : ChanEcho :=
  ⟨c.version, c.gainTarget, c.pad, c.inverted, c.mute, c.request, c.phantom⟩

/-- The echoed fields of a mix record. -/
def Mix.echo (m : Mix) : MixEcho :=
  ⟨m.version, m.master, m.offset, m.pendingOffset, m.phase, m.dim, m.talkLevel, m.talkMask⟩

/-- The echoed value of a contribution: LIVE with its code, ABSENT when RETIRING or without an entry (R66). -/
def Mix.contribEcho (m : Mix) (r : SrcRef) : ContribEcho :=
  match m.find r with
  | some c => ⟨m.version, if c.live then some c.code else none⟩
  | none => ⟨m.version, none⟩

/-- The echoed value of a talk source (R66). -/
def SourceRec.echo (s : SourceRec) : TalkEcho :=
  ⟨s.version, s.session.map Session.echo, if s.session.isSome then .none else s.reason⟩

/-- The echo of a target, built from the values the target holds now (R66); nothing for a target without an echo. -/
def Part.buildEcho (x : Part) : Target → Option LaneMsg
  | .channel n => some (.echoChannel n (x.channel n).echo)
  | .mix m => some (.echoMix m (x.mix m).echo)
  | .contrib m b i =>
    match refOf b i with
    | some r => some (.echoContrib m r ((x.mix m).contribEcho r))
    | none => none
  | .talk n =>
    match sourceOf n with
    | some s => some (.echoTalk s (x.tka.source s).echo)
    | none => none
  | .talkCfg => some (.echoTalkCfg x.tka.cfg)
  | .locks => some (.echoLock x.chs.locks)
  | _ => none

/-- The position of a source reference's entry in a mix's list. -/
def Mix.indexOf (m : Mix) (r : SrcRef) : Option Nat :=
  findFrom (fun c : Contrib => c.ref == r) 0 m.contribs

/-- The rank of a position in the dump order, the contributions of all mixes counting as one place (R82). -/
def DumpPos.rank : DumpPos → Nat
  | .begin => 0
  | .channel n => 1 + n
  | .mix m => 65 + m
  | .contrib _ _ => 81
  | .talkCfg => 82
  | .talk .foh => 83
  | .talk .mon => 84
  | .talk .stg => 85
  | .locks => 86
  | .finish => 87
  | .idle => 88

/-- The dump has passed a target (R82). -/
def Part.dumpPassed (x : Part) (t : Target) : Bool :=
  match x.ple.dump, t with
  | .idle, _ => true
  | pos, .channel n => decide (1 + n < pos.rank)
  | pos, .mix m => decide (65 + m < pos.rank)
  | .contrib m k, .contrib n b i =>
    if n < m then true
    else if m < n then false
    else match refOf b i with
      | some r =>
        match (x.mix m).indexOf r with
        | some j => decide (j < k)
        | none => false
      | none => false
  | pos, .contrib _ _ _ => decide (81 < pos.rank)
  | pos, .talkCfg => decide (82 < pos.rank)
  | pos, .talk n => decide (83 + n < pos.rank)
  | pos, .locks => decide (86 < pos.rank)
  | _, _ => true

/-- The target a mark stands for. -/
def Mark.target : Mark → Target
  | .echo t => t
  | .refused t _ _ _ => .refusal t

/-- The record a mark becomes when it drains (R76). -/
def Part.markMsg (x : Part) : Mark → Option LaneMsg
  | .echo t => x.buildEcho t
  | .refused _ id reason n => some (.refused id reason n)

/-- A STAGE block produces an echo for a target: suppressed where the dump will still report it, merged into a pending
mark, admitted to the queue, or marked (R75). -/
def Part.echo (t : Target) (x : Part) : Part :=
  if !x.dumpPassed t then x
  else if x.ple.marks.any (fun m => m.target == t) then x
  else
    match x.buildEcho t with
    | none => x
    | some msg =>
      match admitTo msg x.ple.queue with
      | some q => { x with ple := { x.ple with queue := q } }
      | none => { x with ple := { x.ple with marks := x.ple.marks ++ [.echo t] } }

/-- A refusal mark takes a further refusal of its target (R75 step 2). -/
def Mark.again (t : Target) (rid : RefusedId) (why : RefuseReason) (m : Mark) : Mark :=
  match m with
  | .refused u _ _ n => if u = t then .refused t rid why (min 255 (n + 1)) else m
  | .echo u => .echo u

/-- The STAGE PLE produces a REFUSED record for an update (R74, R75). -/
def Part.refuse (u : Update) (reason : RefuseReason) (x : Part) : Part :=
  let id := refusedId u
  let t := id.target
  if x.ple.marks.any (fun m => m.target == .refusal t) then
    { x with ple := { x.ple with marks := x.ple.marks.map (Mark.again t id reason) } }
  else
    match admitTo (.refused id reason 1) x.ple.queue with
    | some q => { x with ple := { x.ple with queue := q } }
    | none => { x with ple := { x.ple with marks := x.ple.marks ++ [.refused t id reason 1] } }

/-- Freed places filled from the pending echo set, oldest mark first (R76). -/
def Part.drainMarks : List Mark → Part → Part
  | [], x => { x with ple := { x.ple with marks := [] } }
  | m :: ms, x =>
    if x.ple.queue.length < 32 then
      Part.drainMarks ms
        (match x.markMsg m with
         | some msg => { x with ple := x.ple.offer msg }
         | none => x)
    else { x with ple := { x.ple with marks := m :: ms } }

/-! ### The dump (R82) -/

/-- The LIVE contributions of a mix's list from an index on, with their indices. -/
def liveFrom (k : Nat) (cs : List Contrib) : List (Nat × Contrib) :=
  (mapFrom (fun i c => (i, c)) 0 cs).filter fun e => decide (k ≤ e.1) && e.2.live

/-- The next LIVE contribution at or after a place of the dump order: its mix, index and source reference. -/
def Part.nextLive (x : Part) (m k : Nat) : Option (Nat × Nat × SrcRef) :=
  ((List.range 16).flatMap fun n =>
    if n < m then []
    else (liveFrom (if n = m then k else 0) (x.mix n).contribs).map fun e => (n, e.1, e.2.ref)).head?

/-- The record at the dump pointer, built from the values held now, and where the pointer goes (R82). -/
def Part.dumpNext (x : Part) : Option (LaneMsg × DumpPos) :=
  let cfg := (LaneMsg.echoTalkCfg x.tka.cfg, DumpPos.talk .foh)
  match x.ple.dump with
  | .idle => none
  | .begin => some (.dumpBegin, .channel 0)
  | .channel n => some (.echoChannel n (x.channel n).echo, if n < 63 then .channel (n + 1) else .mix 0)
  | .mix m => some (.echoMix m (x.mix m).echo, if m < 15 then .mix (m + 1) else .contrib 0 0)
  | .contrib m k =>
    match x.nextLive m k with
    | some (n, j, r) => some (.echoContrib n r ((x.mix n).contribEcho r), .contrib n (j + 1))
    | none => some cfg
  | .talkCfg => some cfg
  | .talk .foh => some (.echoTalk .foh x.tka.foh.echo, .talk .mon)
  | .talk .mon => some (.echoTalk .mon x.tka.mon.echo, .talk .stg)
  | .talk .stg => some (.echoTalk .stg x.tka.stg.echo, .locks)
  | .locks => some (.echoLock x.chs.locks, .finish)
  | .finish => some (.dumpEnd, .idle)

/-- The dump pointer emits records into free places, at most `n` (R76, R82). -/
def Part.dumpFill : Nat → Part → Part
  | 0, x => x
  | n + 1, x =>
    if x.ple.queue.length < 32 then
      match x.dumpNext with
      | some (msg, pos) => Part.dumpFill n { x with ple := { x.ple.offer msg with dump := pos } }
      | none => x
    else x

/-- Places freed at STAGE are filled from the pending echo set, then by the dump pointer (R76). -/
def Part.refill (x : Part) : Part :=
  match x.dsc.role with
  | .desk => x
  | .stage =>
    let y := Part.drainMarks x.ple.marks x
    if y.ple.marks.isEmpty then Part.dumpFill 32 y else y

/-- A dump begins: the transmit queue and the pending echo set are emptied, and the pointer starts on DUMP_BEGIN and
fills the emptied places (R80, R81, R82). -/
def Part.dumpStart (x : Part) : Part :=
  Part.dumpFill 32
    { x with ple := { x.ple with queue := [], marks := [], cursor := none, goBackDue := false, dump := .begin } }

/-- The pointer after the entry at index `j` of a mix's list leaves it (R82). -/
def DumpPos.removed (m j : Nat) (pos : DumpPos) : DumpPos :=
  match pos with
  | .contrib n k => if n = m ∧ j < k then .contrib n (k - 1) else .contrib n k
  | p => p

/-- The queue and the pending set emptied and the sequences, cursor, timer and assembler at their reset values (R67 for
LINK_RESET, R79, R80). -/
def Ple.flush (l : Ple) : Ple :=
  { l with
    queue := []
    marks := []
    nextSeq := 0
    expSeq := 0
    cursor := none
    resendTimer := 0
    goBackDue := false
    asm := .idle }

end Sys2Proof.Machine
end

