-- ==== Sys2Proof/Machine/Talk.lean ====
section
/-!
DEFINITION. The Talk Arbiter (chapter 7): destinations and their hand-over to the Mix Engine, arbitration, opening and
amending, fades and grants, mask changes, closing, versions, echoes and TALK_STATE notices.
-/

namespace Sys2Proof.Machine

/-! ### Destinations (R133, R118, R147) -/

/-- The MXE takes the state of destination m handed over, and the dim and talk ramps their targets (R118). -/
def Mix.handDest (st : DestState) (m : Mix) : Mix :=
  let m1 := { m with dest := st }
  { m1 with dimRamp := m1.dimRamp.retarget (dimTarget m1), talkRamp := m1.talkRamp.retarget (talkTarget m1) }

/-- The cue ramp's target is evaluated (R147). -/
def Part.evalCue (x : Part) : Part :=
  { x with tka := { x.tka with cue := x.tka.cue.retarget (cueTarget x.tka.cfg (x.dest 16).state) } }

/-- A destination takes a state and holder; the state of a mix destination is handed to the MXE, that of FOH CUE acts
on the cue ramp (R133). -/
def Part.setDest (d : Nat) (st : DestState) (holder : Option Source) (x : Part) : Part :=
  let y := x.onDest d fun _ => ⟨st, holder, false⟩
  if d = 16 then y.evalCue else y.onMix d (Mix.handDest st)

/-- A change of a source's session, if it has one. -/
def Part.onSession (s : Source) (f : Session → Session) (x : Part) : Part :=
  x.onSource s fun r => { r with session := r.session.map f }

/-- A grant: the destination becomes HELD with the source as holder and joins its granted set. -/
def Part.grant (s : Source) (d : Nat) (x : Part) : Part :=
  (x.setDest d .held (some s)).onSession s fun z => { z with granted := setAdd z.granted d }

/-- A HELD destination becomes FADING with its holder kept, and leaves the holder's granted set (R138). -/
def Part.lose (d : Nat) (x : Part) : Part :=
  match (x.dest d).holder with
  | some h => (x.setDest d .fading (some h)).onSession h fun z => { z with granted := setDel z.granted d }
  | none => x.setDest d .fading none

/-! ### Arbitration (R136, R139) -/

/-- The destinations, in order. -/
def destNums : List Nat :=
  List.range 17

/-- The sources, in order (7.1). -/
def sources : List Source :=
  [.foh, .mon, .stg]

/-- Arbitration of one requested destination at an open or amend (Table 7-3). -/
def Part.arbitrate (s : Source) (x : Part) (d : Nat) : Part :=
  match x.session s with
  | none => x
  | some z =>
    if !z.requested.testBit d then x
    else
      match (x.dest d).state with
      | .free => if x.eligible z d then x.grant s d else x
      | .fading => x
      | .held =>
        if (x.dest d).holder = some s then x
        else
          let outranked : Bool := match (x.dest d).holder with
            | some h =>
              match x.session h with
              | some o => decide (o.priority < z.priority)
              | none => false
            | none => false
          if outranked && x.eligible z d then x.lose d else x

/-- A waiting session is preferred to another: higher priority, or equal priority and the older open order (R139). -/
def Session.beats (a b : Session) : Bool :=
  decide (b.priority < a.priority) || (a.priority == b.priority && newer16 b.order a.order)

/-- The session chosen for a destination among those waiting for it and eligible: the highest priority, then the older
open order, then the order FOH, MON, STAGE (R139 step 2). The sessions are compared in pairs, in that order (DESIGN CHOICE
where three open orders form a cycle, log entry 40). -/
def Part.bestWaiter (x : Part) (d : Nat) : Option (Source × Session) :=
  sources.foldl
    (fun best s =>
      match x.session s with
      | none => best
      | some z =>
        if z.waits d && x.eligible z d then
          match best with
          | none => some (s, z)
          | some (_, b) => if z.beats b then some (s, z) else best
        else best)
    none

/-- A FREE destination is granted to the best eligible waiting session, if there is one (R139 steps 2 and 3). -/
def Part.arbitrateFree (d : Nat) (x : Part) : Part :=
  match x.bestWaiter d with
  | some (s, _) => x.grant s d
  | none => x

/-! ### Versions, echoes and notices (R132, R150) -/

/-- The event of TALK_STATE (R150). -/
def talkEvent (new : Option SessionEcho) (lost : Nat) : TalkEvent :=
  match new with
  | none => .closed
  | some z => if lost &&& z.requested ≠ 0 then .preempted else if z.granted ≠ 0 then .granted else .waiting

/-- The TALK_STATE notice of a source from its session before and its record after (R150). -/
def talkNotice (s : Source) (before : Option SessionEcho) (after : TalkEcho) (cause : TalkCause) : TalkNotice :=
  let was := match before with
    | some z => z.granted
    | none => 0
  let now := match after.session with
    | some z => z.granted
    | none => 0
  { source := s
    event := talkEvent after.session (setMinus was now)
    session := after.session
    reason := if after.session.isSome then none else some after.reason
    gained := setMinus now was
    lost := setMinus was now
    version := after.version
    cause := cause }

/-- If what ECHO_TALK carries of a source's session changed, the version increases by 1, one echo is produced and one
TALK_STATE queued (R132). -/
def Part.publish (before : Tka) (cause : TalkCause) (x : Part) (s : Source) : Part :=
  let old := (before.source s).session.map Session.echo
  if (x.session s).map Session.echo = old then x
  else
    let y := (x.onSource s fun r => { r with version := inc16 r.version }).echo (.talk (sourceNum s))
    y.notify (.talkState (talkNotice s old (y.tka.source s).echo cause))

/-- The sources an event changed, published in source order, the opener last (R132, R136). The echoes are produced in the
order of the notices (DESIGN CHOICE, log entry 43). -/
def Part.publishAll (before : Tka) (cause : TalkCause) (opener : Option Source) (x : Part) : Part :=
  ((sources.filter fun s => some s != opener) ++ opener.toList).foldl (Part.publish before cause) x

/-! ### Opening and amending (R135 to R137) -/

/-- The open counter increases and the source's session takes its new value (R136, R137). -/
def Part.nextOrder (x : Part) : Part :=
  { x with tka := { x.tka with openCounter := inc16 x.tka.openCounter } }

/-- An open: the session record is created and each requested destination arbitrated in order (R136). -/
def Part.openSession (s : Source) (pri : Nat) (latched : Bool) (req : Nat) (x : Part) : Part :=
  let y := x.nextOrder
  let z := y.onSource s fun r => { r with session := some ⟨pri, latched, req, 0, y.tka.openCounter, 0, false⟩ }
  destNums.foldl (Part.arbitrate s) z

/-- A held destination that the amended session no longer requests or is no longer eligible for becomes FADING
(R137). -/
def Part.releaseOne (s : Source) (x : Part) (d : Nat) : Part :=
  match x.session s with
  | some z => if z.granted.testBit d && !x.eligible z d then x.lose d else x
  | none => x

/-- An amend: priority, mode and set replaced, a new open order, the latch timer at 0, held destinations judged, then
the rest arbitrated (R137). -/
def Part.amendSession (s : Source) (pri : Nat) (latched : Bool) (req : Nat) (x : Part) : Part :=
  let y := x.nextOrder
  let z := y.onSession s fun r =>
    { r with
      priority := pri
      latched := latched
      requested := req
      order := y.tka.openCounter
      latchTimer := 0
      latchDue := false }
  destNums.foldl (Part.arbitrate s) (destNums.foldl (Part.releaseOne s) z)

/-- OPEN_TALK carried out for a source whose checks are passed: an open or an amend, then the notices (R135). -/
def Part.talkOpen (s : Source) (pri : Nat) (latched : Bool) (req : Nat) (cause : TalkCause) (x : Part) : Part :=
  let y := if (x.session s).isSome then x.amendSession s pri latched req else x.openSession s pri latched req
  y.publishAll x.tka cause (some s)

/-- OPEN_TALK is refused with STATE outside OPERATE, and for FOH while the link is down (R135 steps 3 and 4). -/
def Part.openRefused (x : Part) (s : Source) : Bool :=
  x.dsc.opState != .operate || (s == .foh && !x.fmu.link.up)

/-! ### Closing (R142) -/

/-- A destination of the closing session's granted set becomes FADING (R142). -/
def Part.fadeGranted (s : Source) (x : Part) (d : Nat) : Part :=
  match x.session s with
  | some z => if z.granted.testBit d then x.lose d else x
  | none => x

/-- A close: granted destinations FADING, the record removed, the reason kept, version, echo and notice (R142). -/
def Part.closeSession (s : Source) (reason : CloseReason) (cause : TalkCause) (x : Part) : Part :=
  if (x.session s).isSome then
    let y := destNums.foldl (Part.fadeGranted s) x
    (y.onSource s fun r => { r with session := none, reason := reason }).publishAll x.tka cause none
  else x

/-! ### Fade ends, masks and link changes (R139, R141, R148) -/

/-- FADE_END, if it is due for a FADING destination: it becomes FREE and is arbitrated at once (R139). FOH CUE with no
eligible waiter stays FREE after a severance too (DESIGN CHOICE beside R148, log entry 42). Each fade end is an event of its
own: two at one sample event that grant to one session give it two version increments and two notices (DESIGN CHOICE beside
R132, log entry 49). -/
def Part.takeFadeEnd (d : Nat) (x : Part) : Part :=
  if (x.dest d).fadeDue && (x.dest d).state == .fading then
    ((x.setDest d .free none).arbitrateFree d).publishAll x.tka .arbiter none
  else x

/-- A destination is judged again: a holder no longer eligible fades, a FREE destination is arbitrated (R141). -/
def Part.judgeDest (d : Nat) (x : Part) : Part :=
  match (x.dest d).state with
  | .fading => x
  | .free => x.arbitrateFree d
  | .held =>
    match (x.dest d).holder with
    | some h =>
      match x.session h with
      | some z => if x.eligible z d then x else x.lose d
      | none => x
    | none => x

/-- A changed mask reaches the TKA (R141). -/
def Part.maskChanged (d : Nat) (x : Part) : Part :=
  (x.judgeDest d).publishAll x.tka .arbiter none

/-- The TKA takes a change of link state (R148): on SEVERED the FOH session closes and FOH CUE fades; on PROTECTED or
EXPOSED from SEVERED or OFFLINE a FREE FOH CUE is arbitrated. -/
def Part.talkLink (old : LinkState) (x : Part) : Part :=
  if x.fmu.link = .severed then
    let y := x.closeSession .foh .link .link
    let z := if (y.dest 16).state = .held then y.lose 16 else y
    z.publishAll y.tka .arbiter none
  else if x.fmu.link.up && !old.up then
    if (x.dest 16).state = .free then (x.arbitrateFree 16).publishAll x.tka .arbiter none else x
  else x

/-- LATCHED_LIMIT, if it is due: the session closes with reason LIMIT (R144). A limit raised since then does not call it
back (DESIGN CHOICE, log entry 41). -/
def Part.takeLatchedLimit (s : Source) (x : Part) : Part :=
  match x.session s with
  | some z => if z.latchDue && z.latched then x.closeSession s .limit .limit else x
  | none => x

/-- STANDBY entry: every session closes with reason STANDBY in source order (R149). -/
def Part.talkStandby (x : Part) : Part :=
  sources.foldl (fun y s => y.closeSession s .standby .standby) x

/-! ### Talk configuration (R145) -/

/-- The talk configuration with the present fields written. -/
def TalkCfg.write (f : TalkCfgSet) (c : TalkCfg) : TalkCfg :=
  { c with
    cueMask := f.cueMask.getD c.cueMask
    cueLevel := f.cueLevel.getD c.cueLevel
    limit := f.limit.getD c.limit }

/-- SET_TALKCFG carried out (R145 steps 3 and 4): the fields written, the cue ramp's target evaluated for the new level, then
FOH CUE judged again on a mask change; with a change, version, echo and TALK_STATE. R145 step 3 gives no order between the
level and the mask (DESIGN CHOICE, log entry 47), nor one between the sessions' notices and its own (log entry 26). The
answer says whether a field changed. -/
def Part.applyTalkCfg (f : TalkCfgSet) (cause : TalkCause) (x : Part) : Bool × Part :=
  let cfg := x.tka.cfg.write f
  if cfg = x.tka.cfg then (false, x)
  else
    let y := ({ x with tka := { x.tka with cfg := cfg } }).evalCue
    let z := if cfg.cueMask ≠ x.tka.cfg.cueMask then y.maskChanged 16 else y
    let w := ({ z with tka := { z.tka with cfg := { z.tka.cfg with version := inc16 z.tka.cfg.version } } }).echo .talkCfg
    (true, w.notify (.talkCfgState w.tka.cfg cause))

/-! ### The per-sample work (R130, R144, R147) -/

/-- The latch timer of a LATCHED session at a sample event; at the limit in force the close comes due (R144). -/
def Session.latchTick (limit : Nat) (s : Session) : Session :=
  if s.latched then
    { s with latchTimer := s.latchTimer + 1, latchDue := s.latchDue || decide (limit * 48000 ≤ s.latchTimer + 1) }
  else s

/-- All latch timers at a sample event. -/
def Part.latchTicks (x : Part) : Part :=
  sources.foldl (fun y s => y.onSession s (Session.latchTick x.tka.cfg.limit)) x

/-- The talk sample of a source. -/
def Tka.sampleOf (t : Tka) : Source → Sample
  | .foh => t.samples.1
  | .mon => t.samples.2.1
  | .stg => t.samples.2.2

/-- The talk sample T of a destination: its holder's while HELD or FADING, 0 while FREE (R118, R130). -/
def Part.talkSample (x : Part) (d : Nat) : Sample :=
  match (x.dest d).state, (x.dest d).holder with
  | .free, _ => 0
  | _, some s => x.tka.sampleOf s
  | _, none => 0

/-- The TKA takes the talk samples of the event, advances the cue ramp, computes the cue talk slot, and finds the fade
of FOH CUE ended when the ramp stands at 0 (R130, R139, R147). -/
def Part.talkSamples (x : Part) : Part :=
  let foh := x.bus.played.getD 8 0
  let mon := x.bus.talkIn.getD 0 0
  let stg := x.bus.talkIn.getD 1 0
  let y := { x with tka := { x.tka with samples := (foh, mon, stg), cue := x.tka.cue.advance } }
  let slot := clampSample (roundShift (y.talkSample 16 * y.tka.cue.cur))
  let z := { y with bus := { y.bus with cueSlot := slot } }
  if (z.dest 16).state = .fading ∧ z.tka.cue.silent = true then z.onDest 16 fun r => { r with fadeDue := true } else z

end Sys2Proof.Machine
end

