-- ==== Sys2Proof/Machine/Channels.lean ====
section
/-!
DEFINITION. The Channel Store (chapter 5): SET_CHANNEL, the gain walk, the phantom machine with its queue, conditioning,
and the lock set.
-/

namespace Sys2Proof.Machine

/-! ### Versions and notices (R87, R103) -/

/-- The conditioning ramp's target is evaluated (R91). -/
def Part.evalCond (n : Nat) (x : Part) : Part :=
  x.onChannel n fun c => { c with ramp := c.ramp.retarget (condTarget x.dsc.opState c) }

/-- A channel's version increases by 1, one echo is produced and CHANNEL_CHANGED queued (R87). -/
def Part.channelVersion (n : Nat) (cause : ChangeCause) (x : Part) : Part :=
  let y := (x.onChannel n fun c => { c with version := inc16 c.version }).echo (.channel n)
  y.notify (.channelChanged n (y.channel n).echo cause)

/-- PHANTOM_DONE with the channel's state and the counts as they stand (R103). -/
def Part.phantomDone (n : Nat) (cause : PhantomCause) (x : Part) : Part :=
  x.notify (.phantomDone n (x.channel n).phantom cause x.rising x.chs.phantomQueue.length)

/-! ### The phantom machine (R94 to R102) -/

/-- A channel's phantom state and timer change; a change of phantom-on hands the API a record (R93), and the
conditioning target is evaluated (R91). -/
def Part.setPhantom (n : Nat) (st : Phantom) (timer : Nat) (x : Part) : Part :=
  let y := x.onChannel n fun c => { c with phantom := st, phantomTimer := timer }
  let z := if (x.channel n).phantom.supply != st.supply then y.preamp n else y
  z.evalCond n

/-- A channel enters RISING with its timer at 12,000 (R94). -/
def Part.startRise (n : Nat) (x : Part) : Part :=
  x.setPhantom n .rising 12000

/-- A channel is offered to the inrush limit: RISING if fewer than 6 are, otherwise QUEUED at the tail (R94). -/
def Part.offerPhantom (n : Nat) (x : Part) : Part :=
  if x.rising < 6 then x.startRise n
  else
    let y := x.setPhantom n .queued 0
    { y with chs := { y.chs with phantomQueue := y.chs.phantomQueue ++ [n] } }

/-- A freed RISING place is taken by the head of the queue, if there is one (R94). -/
def Part.promote (x : Part) : Part :=
  match x.chs.phantomQueue with
  | [] => x
  | n :: rest => ({ x with chs := { x.chs with phantomQueue := rest } }).startRise n

/-- A channel enters FALLING with its timer at 24,000 (R96, R101). -/
def Part.startFall (n : Nat) (x : Part) : Part :=
  x.setPhantom n .falling 24000

/-- A channel leaves the queue. -/
def Part.leaveQueue (n : Nat) (x : Part) : Part :=
  { x with chs := { x.chs with phantomQueue := x.chs.phantomQueue.filter fun k => k != n } }

/-- A phantom request on applied in OPERATE (R95). -/
def Part.phantomOn (n : Nat) (x : Part) : Part :=
  match (x.channel n).phantom with
  | .off => (x.onChannel n fun c => { c with request := true }).offerPhantom n
  | _ => x.onChannel n fun c => { c with request := true }

/-- A phantom request off applied in OPERATE (R96, Table 5-4). -/
def Part.phantomOff (n : Nat) (x : Part) : Part :=
  let y := x.onChannel n fun c => { c with request := false }
  match (x.channel n).phantom with
  | .off => y
  | .queued => (y.leaveQueue n).setPhantom n .off 0
  | .rising => (y.startFall n).promote
  | .on => y.startFall n
  | .falling => y

/-- A phantom request field applied: by the machine in OPERATE, the field alone in STANDBY and WAKING (R95, R96,
R100). -/
def Part.applyPhantom (n : Nat) (on : Bool) (x : Part) : Part :=
  if (x.channel n).request = on then x
  else if x.dsc.opState = .operate then (if on then x.phantomOn n else x.phantomOff n)
  else x.onChannel n fun c => { c with request := on }

/-- PHANTOM_RISE_END, if it is due: the channel becomes ON, its version rises, PHANTOM_DONE, and its place is taken by
the head of the queue (R98). -/
def Part.takeRiseEnd (n : Nat) (x : Part) : Part :=
  if (x.channel n).phantom = .rising ∧ (x.channel n).phantomTimer = 0 then
    (((x.setPhantom n .on 0).channelVersion n .phantom).phantomDone n .timer).promote
  else x

/-- PHANTOM_FALL_END, if it is due: offered again with the request on in OPERATE, otherwise OFF (R99). -/
def Part.takeFallEnd (n : Nat) (x : Part) : Part :=
  if (x.channel n).phantom = .falling ∧ (x.channel n).phantomTimer = 0 then
    if (x.channel n).request = true ∧ x.dsc.opState = .operate then x.offerPhantom n
    else ((x.setPhantom n .off 0).channelVersion n .phantom).phantomDone n .timer
  else x

/-- A queued channel at STANDBY entry becomes OFF with its request kept (R101 step 1). -/
def Part.dequeueStandby (x : Part) (n : Nat) : Part :=
  (((x.leaveQueue n).setPhantom n .off 0).channelVersion n .standby).phantomDone n .standby

/-- A RISING or ON channel at STANDBY entry becomes FALLING with its request kept (R101 step 2). -/
def Part.fallStandby (x : Part) (n : Nat) : Part :=
  match (x.channel n).phantom with
  | .rising => x.startFall n
  | .on => x.startFall n
  | _ => x

/-- The channel numbers, in order. -/
def channelNums : List Nat :=
  List.range 64

/-- The CHS at STANDBY entry: the queue emptied, supplies switched off, then every conditioning target evaluated (R91,
R101). The supplies go in channel order (DESIGN CHOICE, log entry 38). -/
def Part.channelsStandby (x : Part) : Part :=
  let y := x.chs.phantomQueue.foldl Part.dequeueStandby x
  let z := channelNums.foldl Part.fallStandby y
  channelNums.foldl (fun w n => w.evalCond n) z

/-- The CHS at OPERATE entry: every conditioning target evaluated and every channel with its request on and its state
OFF offered, in channel order (R91, R102). That the targets are evaluated before the offers is the model's choice
(DESIGN CHOICE, log entry 48). -/
def Part.channelsOperate (x : Part) : Part :=
  let y := channelNums.foldl (fun w n => w.evalCond n) x
  channelNums.foldl
    (fun w n => if (w.channel n).request = true ∧ (w.channel n).phantom = .off then w.offerPhantom n else w) y

/-! ### SET_CHANNEL (R88) -/

/-- The gain target written (R92). -/
def Part.writeGain (n : Nat) (v : Option Nat) (x : Part) : Part :=
  match v with
  | some g => x.onChannel n fun c => { c with gainTarget := g }
  | none => x

/-- The pad written; a change hands the API a record (R93). -/
def Part.writePad (n : Nat) (v : Option Nat) (x : Part) : Part :=
  match v with
  | some p =>
    if flagOf p = (x.channel n).pad then x else (x.onChannel n fun c => { c with pad := flagOf p }).preamp n
  | none => x

/-- The polarity written (R90). -/
def Part.writePolarity (n : Nat) (v : Option Nat) (x : Part) : Part :=
  match v with
  | some p => x.onChannel n fun c => { c with inverted := flagOf p }
  | none => x

/-- The mute written, and the conditioning target evaluated (R91). -/
def Part.writeMute (n : Nat) (v : Option Nat) (x : Part) : Part :=
  match v with
  | some p => (x.onChannel n fun c => { c with mute := flagOf p }).evalCond n
  | none => x

/-- The phantom request applied (R95, R96, R100). -/
def Part.writePhantom (n : Nat) (v : Option Nat) (x : Part) : Part :=
  match v with
  | some p => x.applyPhantom n (flagOf p)
  | none => x

/-- SET_CHANNEL carried out on clamped fields (R88 steps 4 to 6): the fields in order; with a change, version, echo,
CHANNEL_CHANGED, and PHANTOM_DONE when the request itself took the state to OFF (R96, R103). The answer says whether
the entry changed. -/
def Part.applyChannel (n : Nat) (f : ChanSet) (cause : ChangeCause) (x : Part) : Bool × Part :=
  let y := ((((x.writeGain n f.gain).writePad n f.pad).writePolarity n f.polarity).writeMute n f.mute).writePhantom n
    f.phantom
  if (y.channel n).echo = (x.channel n).echo then (false, x)
  else
    let z := y.channelVersion n cause
    (true,
      if (x.channel n).phantom = .queued ∧ (y.channel n).phantom = .off then z.phantomDone n .request else z)

/-! ### The gain walk (R92) -/

/-- One sample event of a walk timer: it decreases, and at 0 with the applied gain off target a step comes due (R92). -/
def Channel.walkTick (c : Channel) : Channel :=
  { c with walkTimer := c.walkTimer - 1, walkDue := decide (c.walkTimer ≤ 1) && c.gain != c.gainTarget }

/-- One dB toward the target. -/
def walkToward (gain target : Nat) : Nat :=
  if gain < target then gain + 1 else if target < gain then gain - 1 else gain

/-- GAIN_WALK_STEP, if it is due: the gain moves 1 dB, the timer is set to 96, and a record is handed to the API
(R92). -/
def Part.takeWalkStep (n : Nat) (x : Part) : Part :=
  if (x.channel n).walkDue = true then
    if (x.channel n).gain = (x.channel n).gainTarget then x.onChannel n fun c => { c with walkDue := false }
    else
      (x.onChannel n fun c =>
        { c with gain := walkToward c.gain c.gainTarget, walkTimer := 96, walkDue := false }).preamp n
  else x

/-- One sample event of a phantom timer (R94). -/
def Channel.phantomTick (c : Channel) : Channel :=
  { c with phantomTimer := c.phantomTimer - 1 }

/-- The timers of every channel at a sample event. -/
def Part.channelTicks (x : Part) : Part :=
  { x with chs := { x.chs with channels := x.chs.channels.map fun c => c.walkTick.phantomTick } }

/-! ### Conditioning (R90) -/

/-- The conditioned sample of a raw sample under a channel's polarity and advanced ramp (R90). -/
def conditionSample (c : Channel) (raw : Sample) : Sample :=
  let v := roundShift (raw * c.ramp.cur)
  clampSample (if c.inverted then -v else v)

/-- The raw sample stands at either extreme (R90). -/
def atExtreme (raw : Sample) : Bool :=
  raw == sampleMin || raw == sampleMax

/-- The CHS conditions every channel: each ramp advances, and each conditioned sample is computed with its extreme
indication (R90). -/
def Part.condition (x : Part) : Part :=
  let chans := x.chs.channels.map fun c => { c with ramp := c.ramp.advance }
  let out := mapFrom (fun n c => (conditionSample c (x.bus.mic.getD n 0), atExtreme (x.bus.mic.getD n 0))) 0 chans
  { x with chs := { x.chs with channels := chans }, bus := { x.bus with conditioned := out } }

/-! ### Locks (R104, R105) -/

/-- A present field differs from the value held. -/
def differs (v : Option Nat) (held : Nat) : Bool :=
  match v with
  | some n => n != held
  | none => false

/-- The lock check of SET_CHANNEL (R104): PREAMP for gain, pad and phantom request, CONDITION for polarity and mute. -/
def Part.channelLocked (x : Part) (n : Nat) (f : ChanSet) : Bool :=
  let c := x.channel n
  (x.chs.locks.preamp &&
    (differs f.gain c.gainTarget || differs f.pad (flagNum c.pad) || differs f.phantom (flagNum c.request))) ||
  (x.chs.locks.condition && (differs f.polarity (flagNum c.inverted) || differs f.mute (flagNum c.mute)))

/-- The lock check of SET_TALKCFG against TALK (R104). -/
def Part.talkCfgLocked (x : Part) (f : TalkCfgSet) : Bool :=
  x.chs.locks.talk &&
    (differs f.cueMask x.tka.cfg.cueMask || differs f.cueLevel x.tka.cfg.cueLevel || differs f.limit x.tka.cfg.limit)

/-- The lock set with the present classes written (R105). -/
def Locks.write (f : LockSet) (l : Locks) : Locks :=
  { l with
    preamp := (f.preamp.map flagOf).getD l.preamp
    condition := (f.condition.map flagOf).getD l.condition
    mix := (f.mix.map flagOf).getD l.mix
    talk := (f.talk.map flagOf).getD l.talk }

/-- A SET_LOCK record applied from the lane (R105): with a change, version, ECHO_LOCK and LOCK_CHANGED. -/
def Part.applyLock (f : LockSet) (x : Part) : Part :=
  let l := x.chs.locks.write f
  if l = x.chs.locks then x
  else
    let y := ({ x with chs := { x.chs with locks := { l with version := inc16 l.version } } }).echo .locks
    y.notify (.lockChanged y.chs.locks)

end Sys2Proof.Machine
end

