-- ==== Sys2Proof/Machine/Mixes.lean ====
section
/-!
DEFINITION. The Mix Engine (chapter 6): SET_MIX, the contribution edits, the offset phases, and the per-sample computation
of a mix.
-/

namespace Sys2Proof.Machine

/-! ### Targets, versions and notices (R109, R112) -/

/-- Every contribution's target is evaluated (R112). -/
def Mix.evalContribs (m : Mix) : Mix :=
  { m with contribs := m.contribs.map fun c => { c with ramp := c.ramp.retarget (contribTarget m.phase c) } }

/-- A change to the record: version, one ECHO_MIX, MIX_CHANGED (R109). -/
def Part.mixVersion (m : Nat) (cause : ChangeCause) (x : Part) : Part :=
  let y := (x.onMix m fun z => { z with version := inc16 z.version }).echo (.mix m)
  y.notify (.mixChanged m (y.mix m).echo cause)

/-- One contribution of a change: ECHO_CONTRIB and CONTRIB_CHANGED (R109). -/
def Part.contribNotice (m : Nat) (cause : ChangeCause) (x : Part) (r : SrcRef) : Part :=
  let y := x.echo (refTarget m r)
  y.notify (.contribChanged m r ((y.mix m).contribEcho r) cause)

/-- A change to one or more contributions: the version once, then an echo and a notice for each (R109). -/
def Part.contribVersion (m : Nat) (rs : List SrcRef) (cause : ChangeCause) (x : Part) : Part :=
  rs.foldl (Part.contribNotice m cause) (x.onMix m fun z => { z with version := inc16 z.version })

/-! ### SET_MIX (R116, R120) -/

/-- An offset written in each phase (Table 6-4). -/
def Mix.writeOffset (v : Nat) (m : Mix) : Mix :=
  match m.phase with
  | .leaving => { m with pendingOffset := v }
  | _ =>
    if v = m.offset then m
    else
      Mix.evalContribs { m with pendingOffset := v, phase := .leaving, leavingDue := false, arrivingDue := false }

/-- The written value counts as a change (Table 6-4). -/
def Mix.offsetChanges (v : Nat) (m : Mix) : Bool :=
  match m.phase with
  | .leaving => v != m.pendingOffset
  | _ => v != m.offset

/-- The present fields of SET_MIX written in order, with their ramps' targets (R116 step 4, R117, R118, R120). -/
def Mix.write (op : OpState) (f : MixSet) (m : Mix) : Mix :=
  let m1 := { m with master := f.master.getD m.master }
  let m2 := { m1 with masterRamp := m1.masterRamp.retarget (masterTarget op m1) }
  let m3 := match f.offset with
    | some v => m2.writeOffset v
    | none => m2
  let m4 := { m3 with dim := f.dim.getD m3.dim }
  let m5 := { m4 with dimRamp := m4.dimRamp.retarget (dimTarget m4) }
  let m6 := { m5 with talkLevel := f.talkLevel.getD m5.talkLevel }
  let m7 := { m6 with talkRamp := m6.talkRamp.retarget (talkTarget m6) }
  { m7 with talkMask := f.talkMask.getD m7.talkMask }

/-- SET_MIX carried out on clamped fields (R116 steps 4 and 5); a changed mask is handed to the TKA (R141). The answer
says whether a field changed. -/
def Part.applyMix (m : Nat) (f : MixSet) (cause : ChangeCause) (x : Part) : Bool × Part :=
  let y := x.onMix m (Mix.write x.dsc.opState f)
  if (y.mix m).echo = (x.mix m).echo then (false, x)
  else
    let z := if (y.mix m).talkMask ≠ (x.mix m).talkMask then y.maskChanged m else y
    (true, z.mixVersion m cause)

/-- The lock check of SET_MIX (R104): MIX for master code and offset, TALK for dim code, talk level and talk mask. -/
def Part.mixLocked (x : Part) (m : Nat) (f : MixSet) : Bool :=
  let z := x.mix m
  (x.chs.locks.mix &&
    (differs f.master z.master ||
      (match f.offset with
       | some v => z.offsetChanges v
       | none => false))) ||
  (x.chs.locks.talk && (differs f.dim z.dim || differs f.talkLevel z.talkLevel || differs f.talkMask z.talkMask))

/-! ### Contribution edits (R113, R114) -/

/-- What a PUT_CONTRIB is answered (R113). -/
def Part.putOutcome (x : Part) (m : Nat) (r : SrcRef) (code : Nat) : ReplyCode :=
  match (x.mix m).find r with
  | none => if x.mxe.free = 0 ∨ 48 ≤ (x.mix m).contribs.length then .full else .ok
  | some c => if c.live = true ∧ c.code = code then .already else .ok

/-- A new contribution as PUT_CONTRIB enters it at the tail (R113). -/
def newContrib (phase : Phase) (r : SrcRef) (code : Nat) : Contrib :=
  let c : Contrib := ⟨r, code, Ramp.rest 0, true, false⟩
  { c with ramp := c.ramp.retarget (contribTarget phase c) }

/-- A LIVE or RETIRING contribution as PUT_CONTRIB leaves it: LIVE with the code, its target evaluated (R113). -/
def Contrib.put (phase : Phase) (code : Nat) (c : Contrib) : Contrib :=
  let d := { c with code := code, live := true, freeDue := false }
  { d with ramp := d.ramp.retarget (contribTarget phase d) }

/-- A contribution as a drop leaves it: RETIRING with its ramp falling from where it stands (R114). -/
def Contrib.retire (c : Contrib) : Contrib :=
  { c with live := false, freeDue := false, ramp := c.ramp.retarget 0 }

/-- The contributions of one source reference changed. -/
def Mix.onRef (r : SrcRef) (f : Contrib → Contrib) (m : Mix) : Mix :=
  { m with contribs := m.contribs.map fun c => if c.ref = r then f c else c }

/-- PUT_CONTRIB carried out (R113). -/
def Part.applyPut (m : Nat) (r : SrcRef) (code : Nat) (cause : ChangeCause) (x : Part) : ReplyCode × Part :=
  match x.putOutcome m r code with
  | .ok =>
    let y :=
      match (x.mix m).find r with
      | none =>
        let z := x.onMix m fun k => { k with contribs := k.contribs ++ [newContrib k.phase r code] }
        { z with mxe := { z.mxe with free := z.mxe.free - 1 } }
      | some _ => x.onMix m fun k => k.onRef r (Contrib.put k.phase code)
    (.ok, y.contribVersion m [r] cause)
  | c => (c, x)

/-- A mix holds a LIVE contribution of a source reference. -/
def Part.hasLive (x : Part) (m : Nat) (r : SrcRef) : Bool :=
  match (x.mix m).find r with
  | some c => c.live
  | none => false

/-- DROP_CONTRIB carried out (R114). -/
def Part.applyDrop (m : Nat) (r : SrcRef) (cause : ChangeCause) (x : Part) : ReplyCode × Part :=
  if x.hasLive m r then
    (.ok, (x.onMix m fun k => k.onRef r Contrib.retire).contribVersion m [r] cause)
  else (.already, x)

/-- The source references of a mix's LIVE contributions, in list order. -/
def Mix.liveRefs (m : Mix) : List SrcRef :=
  (m.contribs.filter fun c => c.live).map fun c => c.ref

/-- CLEAR_MIX carried out (R114). -/
def Part.applyClear (m : Nat) (cause : ChangeCause) (x : Part) : ReplyCode × Part :=
  match (x.mix m).liveRefs with
  | [] => (.already, x)
  | rs =>
    (.ok,
      (x.onMix m fun k =>
        { k with contribs := k.contribs.map fun c => if c.live then c.retire else c }).contribVersion m rs cause)

/-! ### Freed entries and offset phases (R115, R121, R122) -/

/-- CONTRIB_FREED, if it is due for a RETIRING entry: it leaves the list and the free count increases (R115). -/
def Part.takeFreed (m : Nat) (r : SrcRef) (x : Part) : Part :=
  match (x.mix m).find r, (x.mix m).indexOf r with
  | some c, some j =>
    if c.freeDue && !c.live then
      let y := x.onMix m fun k => { k with contribs := k.contribs.eraseIdx j }
      { y with
        mxe := { y.mxe with free := y.mxe.free + 1 }
        ple := { y.ple with dump := y.ple.dump.removed m j } }
    else x
  | _, _ => x

/-- Every INPUT contribution stands at 0 (R121). -/
def Mix.inputsSilent (m : Mix) : Bool :=
  m.contribs.all fun c => c.ref.bank == .ret || c.ramp.cur == 0

/-- Every LIVE INPUT contribution has settled at its target (R122). -/
def Mix.inputsSettled (m : Mix) : Bool :=
  m.contribs.all fun c => c.ref.bank == .ret || !c.live || (c.ramp.count == 0 && c.ramp.cur == c.ramp.target)

/-- LEAVING_END, if it is due: the offset takes the pending value and the mix is ARRIVING (R121). -/
def Part.takeLeavingEnd (m : Nat) (x : Part) : Part :=
  if (x.mix m).leavingDue = true ∧ (x.mix m).phase = .leaving ∧ (x.mix m).inputsSilent = true then
    (x.onMix m fun k =>
      Mix.evalContribs { k with offset := k.pendingOffset, phase := .arriving, leavingDue := false }).mixVersion m .offset
  else x

/-- ARRIVING_END, if it is due: the mix is STEADY (R122). -/
def Part.takeArrivingEnd (m : Nat) (x : Part) : Part :=
  if (x.mix m).arrivingDue = true ∧ (x.mix m).phase = .arriving ∧ (x.mix m).inputsSettled = true then
    (x.onMix m fun k => { k with phase := .steady, pendingOffset := k.offset, arrivingDue := false }).mixVersion m .offset
  else x

/-! ### The per-sample computation (R123 to R126) -/

/-- A contribution at a sample event: its ramp advances, and a RETIRING one that then stands at 0 is to be freed
(R115, R123 stage 1). -/
def Contrib.tick (c : Contrib) : Contrib :=
  let r := c.ramp.advance
  { c with ramp := r, freeDue := !c.live && r.cur == 0 }

/-- Stage 1: every ramp of the mix advances by one event (R123). -/
def Mix.advance (m : Mix) : Mix :=
  { m with
    masterRamp := m.masterRamp.advance
    dimRamp := m.dimRamp.advance
    talkRamp := m.talkRamp.advance
    contribs := m.contribs.map Contrib.tick }

/-- The effective source of a contribution (R111). -/
def effectiveSource (b : Bus) (offset : Nat) (r : SrcRef) : Sample :=
  match r.bank with
  | .input => (b.conditioned.getD ((offset + r.idx) % 64) (0, false)).1
  | .ret => b.played.getD r.idx 0

/-- Stage 2: the bus sum A, exact, over every contribution (R123). -/
def busSum (b : Bus) (m : Mix) : Int :=
  m.contribs.foldl (fun acc c => acc + effectiveSource b m.offset c.ref * c.ramp.cur) 0

/-- The limits of the bus clamp (R124). -/
def busClamp (v : Int) : Int :=
  clampInt (-134217728) 134217727 v

/-- Stages 3 to 6: the output of an advanced mix with its talk sample, and whether the bus and the output clamp acted
(R124). -/
def mixOutput (b : Bus) (m : Mix) (t : Sample) : Sample × Bool × Bool :=
  let a := roundShift (busSum b m)
  let bus := busClamp a
  let level := roundShift (m.masterRamp.cur * m.dimRamp.cur)
  let y := roundShift (bus * level) + roundShift (t * m.talkRamp.cur)
  (clampSample y, bus != a, clampSample y != y)

/-- A mix is held at 0 at this event, judged before its ramps advance (R126). -/
def Mix.heldAtZero (op : OpState) (m : Mix) : Bool :=
  op != .operate && m.masterRamp.silent && m.talkRamp.silent

/-- The phase ends found after the event's output (R121, R122). -/
def Mix.markPhase (m : Mix) : Mix :=
  { m with
    leavingDue := m.phase == .leaving && m.inputsSilent
    arrivingDue := m.phase == .arriving && m.inputsSettled }

/-- One mix at a sample event: its ramps, its output, its clip flag with the CLIP notice, the end of its fade and of its
phase (R119, R121 to R126). -/
def Part.mixCompute (x : Part) (m : Nat) : Part :=
  let z := (x.mix m).advance
  let out : Sample × Bool × Bool :=
    if (x.mix m).heldAtZero x.dsc.opState then (0, false, false) else mixOutput x.bus z (x.talkSample m)
  let clipped := out.2.1 || out.2.2
  let y := x.onMix m fun _ => { z.markPhase with clip := z.clip || clipped }
  let w := { y with bus := { y.bus with mixOut := y.bus.mixOut ++ [out] } }
  let v := if (w.dest m).state = .fading ∧ z.talkRamp.silent = true then w.onDest m fun r => { r with fadeDue := true } else w
  if clipped && !z.clip then v.notify (.clip m out.2.1 out.2.2) else v

/-- The mix numbers, in order. -/
def mixNums : List Nat :=
  List.range 16

/-- Every mix at a sample event (R123), in the order of their numbers, and so their CLIP notices
(DESIGN CHOICE, log entry 39). -/
def Part.mixAll (x : Part) : Part :=
  mixNums.foldl Part.mixCompute { x with bus := { x.bus with mixOut := [] } }

/-- The MXE at STANDBY and OPERATE entry: every master ramp's target evaluated (R117). -/
def Part.mastersEval (x : Part) : Part :=
  { x with mxe := { x.mxe with mixes := x.mxe.mixes.map fun m =>
      { m with masterRamp := m.masterRamp.retarget (masterTarget x.dsc.opState m) } } }

end Sys2Proof.Machine
end

