-- ==== Sys2Proof/Machine/Fibre.lean ====
section
/-!
DEFINITION. Fibre frames as bits (Table 9-8) and the receive side of the Frame Merge Unit (chapter 3): the judgement and
placing of arrivals, the playout and the concealment.
-/

namespace Sys2Proof.Machine

/-! ### Frames as bits (Table 9-8) -/

/-- The sender role bit: 0 DESK, 1 STAGE. -/
def roleBit : Role → Bool
  | .desk => false
  | .stage => true

def roleOfBit (b : Bool) : Role :=
  if b then .stage else .desk

/-- A lane symbol as 9 bits, the marker first (9.7). -/
def Sym.bits (s : Sym) : List Bool :=
  s.marker :: natBits 8 s.data

/-- The header fields, in every form. -/
def Frame.header (f : Frame) : List Bool :=
  natBits 16 f.seq ++ natBits 8 f.ack ++ [roleBit f.role, f.restart, f.restartAck, f.idle]

/-- A meter cell: index, level, clip. -/
def MeterCell.bits (c : MeterCell) : List Bool :=
  natBits 7 c.index ++ natBits 16 c.level ++ [c.clip]

/-- The fields a full frame carries after its header. -/
def Frame.payload (f : Frame) : List Bool :=
  f.syms.flatMap Sym.bits ++ f.audio.flatMap (fun v => natBits 24 (natOfSample v)) ++
    (match f.cell with
     | some c => c.bits
     | none => [])

/-- A frame's bits before its check. -/
def Frame.body (f : Frame) : List Bool :=
  f.header ++ (if f.idle then [] else f.payload)

/-- A frame as sent, with its 32-bit check. -/
def encodeFrame (f : Frame) : List Bool :=
  f.body ++ natBits 32 (crc32 f.body)

/-- The number a field of `n` bits at a place holds. -/
def fieldAt (bits : List Bool) (at_ n : Nat) : Nat :=
  ofBits ((bits.drop at_).take n)

/-- The lane symbol at a place. -/
def symAt (bits : List Bool) (at_ : Nat) : Sym :=
  ⟨bits.getD at_ false, fieldAt bits (at_ + 1) 8⟩

/-- The audio samples of `n` slots from a place on. -/
def audioAt (bits : List Bool) (at_ n : Nat) : List Sample :=
  (List.range n).map fun i => sampleOfNat (fieldAt bits (at_ + 24 * i) 24)

/-- The meter cell at a place. -/
def cellAt (bits : List Bool) (at_ : Nat) : MeterCell :=
  ⟨fieldAt bits at_ 7, fieldAt bits (at_ + 7) 16, bits.getD (at_ + 23) false⟩

/-- The bits of a full frame of the direction a role receives: house-bound at DESK, stage-bound at STAGE. -/
def fullBits : Role → Nat
  | .desk => 1680
  | .stage => 312

/-- The frame a receiver reads from bits that passed their check. -/
def readFrame (rx : Role) (bits : List Bool) : Frame where
  seq := fieldAt bits 0 16
  ack := fieldAt bits 16 8
  role := roleOfBit (bits.getD 24 false)
  restart := bits.getD 25 false
  restartAck := bits.getD 26 false
  idle := bits.getD 27 false
  syms := if bits.getD 27 false then [] else [symAt bits 28, symAt bits 37, symAt bits 46, symAt bits 55]
  audio := if bits.getD 27 false then [] else audioAt bits 64 (rxSlots rx)
  cell :=
    if bits.getD 27 false then none
    else match rx with
      | .desk => some (cellAt bits 1624)
      | .stage => none

/-- A received frame: nothing when it is bad, that is when its check fails or its length is not that of its form
(Table 9-8, log entry 24). -/
def decodeFrame (rx : Role) (bits : List Bool) : Option Frame :=
  let body := bits.take (bits.length - 32)
  if crc32 body = ofBits (bits.drop (bits.length - 32)) ∧
      bits.length = (if bits.getD 27 false then 60 else fullBits rx) then
    some (readFrame rx bits)
  else none

/-! ### Arrivals (R42 to R44, R52 to R54) -/

/-- The slot a sequence falls into. -/
def Fmu.slot (fm : Fmu) (q : Nat) : MergeSlot :=
  fm.slots.getD (q % 16) MergeSlot.empty

/-- A slot that has just taken a sequence with its first copy (R44). -/
def MergeSlot.fresh (p : Path) (f : Frame) : MergeSlot :=
  ⟨some f.seq, p == .a, p == .b, some f⟩

/-- The copy state of a path. -/
def MergeSlot.good (s : MergeSlot) : Path → Bool
  | .a => s.goodA
  | .b => s.goodB

/-- The copy state of a path becomes GOOD, the stored copy kept. -/
def MergeSlot.second (p : Path) (s : MergeSlot) : MergeSlot :=
  match p with
  | .a => { s with goodA := true }
  | .b => { s with goodB := true }

/-- The early count of a path. -/
def Fmu.countEarly (p : Path) (fm : Fmu) : Fmu :=
  match p with
  | .a => { fm with earlyA := satInc fm.earlyA }
  | .b => { fm with earlyB := satInc fm.earlyB }

/-- The duplicate count of a path. -/
def Fmu.countDup (p : Path) (fm : Fmu) : Fmu :=
  match p with
  | .a => { fm with dupA := satInc fm.dupA }
  | .b => { fm with dupB := satInc fm.dupB }

/-- An arrival in the window is placed in its slot (R44). -/
def Fmu.place (p : Path) (f : Frame) (fm : Fmu) : Fmu :=
  let s := fm.slot f.seq
  if s.seq = some f.seq then
    if s.good p then fm.countDup p
    else { fm with slots := updAt (f.seq % 16) (MergeSlot.second p) fm.slots }
  else { fm with slots := updAt (f.seq % 16) (fun _ => MergeSlot.fresh p f) fm.slots }

/-- The distance of a sequence from a playout pointer (R42). -/
def distance (q p : Nat) : Nat :=
  (q + 65536 - p) % 65536

/-- An arrival is late at distance 32,768 or more, early from 16, in the window below (R42, R43). -/
def Part.judgeArrival (p : Path) (f : Frame) (d : Nat) (x : Part) : Part :=
  if 32768 ≤ d then x.onPath p fun c => { c with lateCount := satInc c.lateCount }
  else if 16 ≤ d then x.onFmu (Fmu.countEarly p)
  else x.onFmu (Fmu.place p f)

/-- The pointer set from an arrival: its sequence less D (R52, R54). -/
def anchorAt (q delay : Nat) : Nat :=
  (q + 65536 - delay) % 65536

/-- An arrival from the reference path with P set and no anchoring pending (R54). The arrival that brings the count to
48 waits for RE_ANCHOR; at distance 0 it is not placed before (log entry 13). -/
def Part.refArrival (p : Path) (f : Frame) (d : Nat) (x : Part) : Part :=
  if 1 ≤ d ∧ d ≤ 15 then (x.judgeArrival p f d).onFmu fun fm => { fm with reCount := 0 }
  else if x.fmu.reCount + 1 < 48 then
    (x.judgeArrival p f d).onFmu fun fm => { fm with reCount := fm.reCount + 1 }
  else
    (if d = 0 then x else x.judgeArrival p f d).onFmu fun fm => { fm with reCount := 48, reArrival := some (p, f) }

/-- An arrival taken by the FMU, with the distance reported to its controller (R42, R52, R53). -/
def Part.arrive (p : Path) (f : Frame) (x : Part) : Option Nat × Part :=
  match x.fmu.anchor with
  | some q =>
    if q = p then
      (some x.fmu.delay,
        x.onFmu fun fm =>
          Fmu.place p f { fm with p := some (anchorAt f.seq fm.delay), anchor := none, reCount := 0, reArrival := none })
    else (none, x)
  | none =>
    match x.fmu.p with
    | none => (none, x)
    | some q =>
      let d := distance f.seq q
      (some d, if x.fmu.ref = some p then x.refArrival p f d else x.judgeArrival p f d)

/-- RE_ANCHOR, if it is due: P moves to the arrival's sequence less D, and the arrival is stored (R54). -/
def Part.takeReAnchor (x : Part) : Part :=
  match x.fmu.reArrival with
  | some (p, f) =>
    x.onFmu fun fm =>
      Fmu.place p f
        { fm with p := some (anchorAt f.seq fm.delay), reCount := 0, reTotal := satInc fm.reTotal, reArrival := none }
  | none => x

/-! ### Playout and concealment (R45, R49, R50) -/

/-- One playout: the stored copy of frame P if its slot holds it, the slot emptied and P advanced (R45). -/
def Fmu.playout (fm : Fmu) : Option Frame × Fmu :=
  match fm.p with
  | none => (none, fm)
  | some q =>
    let s := fm.slot q
    let got := if s.seq = some q then s.stored else none
    (got,
      { fm with
        slots := updAt (q % 16) (fun _ => MergeSlot.empty) fm.slots
        p := some (inc16 q)
        gaps := if got.isSome then fm.gaps else satInc fm.gaps })

/-- The concealment of one playout: the ramp's target set from its outcome, the ramp advanced, and each slot's value
scaled (R49, R50). -/
def Fmu.concealed (got : Option Frame) (fm : Fmu) : List Sample × Fmu :=
  let ramp := (fm.conceal.retarget (if got.isSome then unity else 0)).advance
  let vals := match got with
    | some f => f.audio
    | none => fm.lastGood
  (vals.map fun v => roundShift (v * ramp.cur), { fm with conceal := ramp, lastGood := vals })

end Sys2Proof.Machine
end

