-- ==== Sys2Proof/Machine/Restart.lean ====
section
/-!
DEFINITION. The restart handshake of the Parameter Lane (R5, R67, R78 to R81), the mirror-state transitions it makes (R83),
and what each block does with a change of link state (R57).
-/

namespace Sys2Proof.Machine

/-! ### Mirror state (R83) -/

/-- The mirror takes a state with every entry unknown; a change of state queues MIRROR_STATE (R83). -/
def Part.mirrorTo (st : MirrorState) (x : Part) : Part :=
  let y := { x with mirror := { Mirror.powerOn with state := st } }
  if st = x.mirror.state then y else y.notify (.mirrorState st x.mirror.state)

/-! ### The far end's flags (R78 to R81) -/

/-- The episode ends: mark cleared, acknowledgement lowered, quiet tail 16 (R78). -/
def Part.endEpisode (x : Part) : Part :=
  x.onPle fun l => { l with episode := false, ackRaised := false }.setTail

/-- Restart handling for a restart of the far end (R79 at DESK, R80 at STAGE). -/
def Part.restartHandling (x : Part) : Part :=
  let y := x.onPle Ple.flush
  let z := match x.dsc.role with
    | .desk => y.mirrorTo .invalid
    | .stage => (y.closeSession .foh .link .link).dumpStart
  z.notify (.laneReset .farRestart x.ple.queue.length)

/-- The far end's restart flag raised (R78). -/
def Part.farRestart (x : Part) : Part :=
  let y := x.onPle fun l => { l with ackRaised := true }
  if x.ple.episode then y else (y.onPle fun l => { l with episode := true }).restartHandling

/-- The far end's restart flag as a good frame hands it (R78). -/
def Part.farFlag (inService flag : Bool) (x : Part) : Part :=
  if flag then x.farRestart
  else if inService && x.ple.episode then x.endEpisode
  else x

/-- A held LINK_RESET is answered (R5, R6). -/
def Part.answerHeldLink (code : ReplyCode) (x : Part) : Part :=
  match x.dsc.heldLink with
  | some tag => ({ x with dsc := { x.dsc with heldLink := none } }).answer tag code
  | none => x

/-- A held SET_STATE OPERATE is answered (R8, R9). -/
def Part.answerHeldState (code : ReplyCode) (x : Part) : Part :=
  match x.dsc.heldState with
  | some tag => ({ x with dsc := { x.dsc with heldState := none } }).answer tag code
  | none => x

/-- The far end's acknowledgement seen on an IN_SERVICE path while the restart flag is raised (R6, R81). -/
def Part.restartAcked (x : Part) : Part :=
  let y := { x with dsc := { x.dsc with restartFlag := false } }
  let z := (y.answerHeldLink .ok).onPle Ple.setTail
  match x.dsc.role with
  | .desk => z
  | .stage => z.dumpStart

/-- Both flags of a good frame received on an IN_SERVICE path, the restart flag first (R78, R81; the order is a DESIGN
CHOICE, log entry 37). -/
def Part.serviceFlags (f : Frame) (x : Part) : Part :=
  let y := x.farFlag true f.restart
  if f.restartAck && y.dsc.restartFlag then y.restartAcked else y

/-- LINK_RESET taken with the restart flag down (R5, R67, log entry 11). -/
def Part.linkReset (tag : Nat) (x : Part) : Part :=
  let y := { x with dsc := { x.dsc with restartFlag := true, heldLink := some tag } }
  let z := y.onPle fun l => { l.flush with dump := .idle }
  let w := match x.dsc.role with
    | .desk => z.mirrorTo .invalid
    | .stage => z.closeSession .foh .link .link
  w.notify (.laneReset .loc x.ple.queue.length)

/-! ### A change of link state handed over (R57) -/

/-- The PLE takes a change of link state: the episode ends with the link (R78), and a return goes back if a record is
in flight (R71). -/
def Part.laneLink (old : LinkState) (x : Part) : Part :=
  if x.fmu.link.up then
    if !old.up && decide (0 < x.ple.inFlight) then x.onPle fun l => { l with goBackDue := true } else x
  else if x.ple.episode then x.endEpisode
  else x

/-- The DESK MTU takes a change of link state to SEVERED: every age is 321 (R157). -/
def Part.meterLink (x : Part) : Part :=
  if x.dsc.role = .desk ∧ x.fmu.link = .severed then
    { x with mtu := { x.mtu with table := x.mtu.table.map fun e => { e with age := 321 } } }
  else x

/-- The blocks that read the link state take its change (R57); the arbiter is live at STAGE only (R2). -/
def Part.linkChanged (old : LinkState) (x : Part) : Part :=
  let y := match x.dsc.role with
    | .stage => x.talkLink old
    | .desk => x
  (y.laneLink old).meterLink

end Sys2Proof.Machine
end

