-- ==== Sys2Proof/Machine/Paths.lean ====
section
/-!
DEFINITION. The Path Controllers (chapter 2): bring-up, light, silence, error windows, enabling, the transmitter mode, the
use of received frames, and the report of every change to the Frame Merge Unit (R55 to R62).
-/

namespace Sys2Proof.Machine

/-! ### Transitions of one path -/

/-- Any bring-up is abandoned: step, counts and step timer return to 0. -/
def PathCtl.abandon (c : PathCtl) : PathCtl :=
  { c with step := .none, count := 0, stepTimer := 0, identFlags := none, silenceDue := false, recovery := 0 }

/-- ACQUIRING at step LOCK (R23). -/
def PathCtl.acquire (cause : Cause) (c : PathCtl) : PathCtl :=
  { c.abandon with state := .acquiring, step := .lock, cause := cause }

/-- DARK with a cause, as light loss, STANDBY and enabling enter it (R22, R35, R36, R38). -/
def PathCtl.darken (cause : Cause) (c : PathCtl) : PathCtl :=
  { c.abandon with state := .dark, cause := cause, stallReported := false, farRole := none, darkTimer := 0 }

/-- IN_SERVICE by the completion of ALIGN (R26, R27, R32). -/
def PathCtl.serve (c : PathCtl) : PathCtl :=
  { c.abandon with
    state := .inService
    cause := .bringup
    stallReported := false
    badCount := 0
    lateCount := 0
    silenceTimer := 0 }

/-- MISMATCHED by a good frame of this end's own role (R25, R29). -/
def PathCtl.mismatch (role : Role) (c : PathCtl) : PathCtl :=
  { c.abandon with state := .mismatched, cause := .role, farRole := some role }

/-! ### The report of a change (R27, R39, R55 to R58, R62) -/

/-- The PATH_STATE notice of a path between two values of its controller (R39). -/
def pathNotice (p : Path) (old new : PathCtl) : Option Notice :=
  if new.state ≠ old.state ∨ (new.state = .impaired ∧ new.cause ≠ old.cause) then
    some (.pathState p new.state old.state new.cause (if new.cause = .role then new.farRole else none))
  else none

/-- The PATH_STATE notice of a path, if it changed. -/
def Part.notifyPath (p : Path) (x old : Part) : Part :=
  match pathNotice p (old.path p) (x.path p) with
  | some n => x.notify n
  | none => x

/-- With no path usable, a path at ALIGN completes and becomes the anchoring path (R27). -/
def Part.anchoring (x : Part) : Part × Option Path :=
  if x.anyUsable then (x, none)
  else if x.pa.atAlign then (x.onPath .a PathCtl.serve, some .a)
  else if x.pb.atAlign then (x.onPath .b PathCtl.serve, some .b)
  else (x, none)

/-- The anchoring path after a report: the new one, or the pending one while it is usable (R52, R53). -/
def Part.anchorAfter (x : Part) (new : Option Path) : Option Path :=
  match new with
  | some p => some p
  | none =>
    match x.fmu.anchor with
    | some p => if (x.path p).usable then some p else none
    | none => none

/-- The FMU's values after a report: link state, reference, anchoring, and the re-anchor count on a change of reference
(R52 to R57). With the count a re-anchoring that was due goes (DESIGN CHOICE, log entry 36). -/
def Part.fmuAfter (x : Part) (new : Option Path) : Fmu :=
  let ref := chooseRef x.pa x.pb x.pair x.fmu.ref
  { x.fmu with
    link := linkOf x.fmu.link x.pa.usable x.pb.usable
    ref := ref
    anchor := x.anchorAfter new
    reCount := if ref = x.fmu.ref then x.fmu.reCount else 0
    reArrival := if ref = x.fmu.ref then x.fmu.reArrival else none }

/-- The FMU takes a report whole: one LINK_STATE notice for a change of link state or reference, then the change is
handed to the SCU and the blocks that read it, the SCU first (R57, R58, R62; the order is a DESIGN CHOICE, log entry 44).
-/
def Part.fmuReport (new : Option Path) (x : Part) : Part :=
  let y := { x with fmu := x.fmuAfter new }
  let z :=
    if y.fmu.link ≠ x.fmu.link ∨ y.fmu.ref ≠ x.fmu.ref then
      y.notify (.linkState y.fmu.link x.fmu.link y.fmu.ref y.pa.usable y.pb.usable)
    else y
  let w := z.clockFollow
  if y.fmu.link ≠ x.fmu.link then w.linkChanged x.fmu.link else w

/-- A change of the paths since `old` is reported: anchoring completes where R27 says so, path A's notice before path
B's (R39), then the FMU. -/
def Part.report (x old : Part) : Part :=
  let y := x.anchoring
  (((y.1).notifyPath .a old).notifyPath .b old).fmuReport y.2

/-- A change of one path, reported. -/
def Part.changePath (p : Path) (f : PathCtl → PathCtl) (x : Part) : Part :=
  (x.onPath p f).report x

/-! ### Bring-up (R23 to R28) -/

/-- LOCK_STEP_COMPLETE, if it is due (R24). -/
def Part.takeLock (p : Path) (x : Part) : Part :=
  let c := x.path p
  if c.state = .acquiring ∧ c.step = .lock ∧ 8 ≤ c.count then
    x.onPath p fun c => { c with step := .ident, count := 0, stepTimer := 0 }
  else x

/-- The step becomes ALIGN (R25). -/
def PathCtl.align (c : PathCtl) : PathCtl :=
  { c with step := .align, count := 0, stepTimer := 0, identFlags := none }

/-- IDENT_STEP_COMPLETE, if it is due: the far flags of the eighth frame go to the PLE, the step becomes ALIGN, and with
no path usable ALIGN completes at once (R25, R27, R183). -/
def Part.takeIdent (p : Path) (x : Part) : Part :=
  let c := x.path p
  if c.state = .acquiring ∧ c.step = .ident ∧ 8 ≤ c.count then
    let restart := match c.identFlags with
      | some fl => fl.1
      | none => false
    (x.farFlag false restart).changePath p PathCtl.align
  else x

/-- BRINGUP_STALL, if it is due (R28). -/
def Part.takeStall (p : Path) (x : Part) : Part :=
  let c := x.path p
  if c.state = .acquiring ∧ 12000 ≤ c.stepTimer then
    let y := x.onPath p fun c =>
      { c with step := .lock, count := 0, stepTimer := 0, identFlags := none, stallReported := true }
    if c.stallReported then y else y.notify (.bringupStall p c.step)
  else x

/-! ### Light (R21, R22, R38) -/

/-- The window's result joins the history, and the judgement is set again (R21). -/
def PathCtl.closeLight (c : PathCtl) : PathCtl :=
  let h : LightHist := ⟨c.hist.middle, c.hist.newest, c.lightSeen⟩
  { c with hist := h, light := h.judge, lightSeen := c.lightNow, lightDue := false }

/-- What the judgement does to the path (R22); leaving DARK ends a burst (R38). -/
def PathCtl.actOnLight (op : OpState) (c : PathCtl) : PathCtl :=
  match c.state with
  | .disabled => c
  | .dark => if c.light && op == .operate then { c.acquire .light with tx := .full } else c
  | _ => if c.light then c else c.darken .lightLost

/-- LIGHT_WINDOW_END, if it is due (R21, R22). -/
def Part.takeLight (p : Path) (x : Part) : Part :=
  if (x.path p).lightDue then
    x.changePath p fun c => c.closeLight.actOnLight x.dsc.opState
  else x

/-- The receiver's report of light changes (R21). -/
def PathCtl.lightChange (lit : Bool) (c : PathCtl) : PathCtl :=
  { c with lightNow := lit, lightSeen := c.lightSeen || lit }

/-! ### Silence and errors (R31 to R34) -/

/-- SILENCE_TIMEOUT, if it is due (R31). -/
def Part.takeSilence (p : Path) (x : Part) : Part :=
  if (x.path p).silenceDue && (x.path p).usable then x.changePath p (PathCtl.acquire .silence) else x

/-- The judgement of an error window (R33, R34). -/
def PathCtl.judgeErrors (c : PathCtl) : PathCtl :=
  let bad := decide (c.cfg.threshold ≤ c.badCount)
  let late := decide (c.cfg.threshold ≤ c.lateCount)
  match c.state with
  | .inService =>
    if bad then { c with state := .impaired, cause := .errors, recovery := 0 }
    else if late then { c with state := .impaired, cause := .skew, recovery := 0 }
    else c
  | .impaired =>
    if bad then { c with cause := .errors, recovery := 0 }
    else if late then { c with cause := .skew, recovery := 0 }
    else { c with recovery := c.recovery + 1 }
  | _ => c

/-- The counts of the window that ends are kept for GET_PATH and return to 0 (R32). -/
def PathCtl.closeErrors (c : PathCtl) : PathCtl :=
  { c with lastBad := c.badCount, lastLate := c.lateCount, badCount := 0, lateCount := 0, errDue := false }

/-- ERROR_WINDOW_END, if it is due (R32 to R34). -/
def Part.takeErrors (p : Path) (x : Part) : Part :=
  if (x.path p).errDue then x.changePath p fun c => c.judgeErrors.closeErrors else x

/-- PATH_RECOVERED, if it is due: an entry to IN_SERVICE, at which the silence timer returns to 0 (R31, R34). A silence
timeout that was due stands (DESIGN CHOICE, log entry 45). -/
def Part.takeRecovered (p : Path) (x : Part) : Part :=
  if (x.path p).state = .impaired ∧ 10 ≤ (x.path p).recovery then
    x.changePath p fun c => { c with state := .inService, cause := .recovered, recovery := 0, silenceTimer := 0 }
  else x

/-! ### Burst (R38) -/

/-- A DARK path whose dark timer stands at 2 s with auto-burst on, in OPERATE (R38). -/
def PathCtl.burstReady (op : OpState) (c : PathCtl) : Bool :=
  c.state == .dark && op == .operate && c.cfg.enabled && c.cfg.autoBurst && decide (96000 ≤ c.darkTimer) && c.tx != .burst

/-- The transmitter enters BURST (R38). -/
def PathCtl.burst (c : PathCtl) : PathCtl :=
  { c with tx := .burst, burstCounter := 0 }

/-- BURST_ENTRY, if it is due (R38). -/
def Part.takeBurst (p : Path) (x : Part) : Part :=
  if (x.path p).burstReady x.dsc.opState then x.onPath p PathCtl.burst else x

/-- BURST_CYCLE_RESTART, if it is due: the counter returns to 0 after 23,999 (R38). -/
def Part.takeCycle (p : Path) (x : Part) : Part :=
  if (x.path p).tx = .burst ∧ 24000 ≤ (x.path p).burstCounter then
    x.onPath p fun c => { c with burstCounter := 0 }
  else x

/-! ### Configuration (R19, R35, R38) -/

/-- The present fields of SET_PATH written to a path's configuration (R19). -/
def PathCfg.write (f : PathSet) (c : PathCfg) : PathCfg where
  enabled := (f.enabled.map flagOf).getD c.enabled
  threshold := f.threshold.getD c.threshold
  silenceSel := f.silenceSel.getD c.silenceSel
  autoBurst := (f.autoBurst.map flagOf).getD c.autoBurst

/-- The present pair fields written (R19). -/
def PairCfg.write (f : PathSet) (c : PairCfg) : PairCfg where
  preferred := (f.preferred.bind pathOf).getD c.preferred
  revertive := (f.revertive.map flagOf).getD c.revertive

/-- Enabled written off or on (R35). -/
def PathCtl.enable (op : OpState) (on : Bool) (c : PathCtl) : PathCtl :=
  if on then { c.darken .enabled with tx := if op = .operate then .full else .off }
  else
    { c.abandon with
      state := .disabled
      cause := .host
      silenceTimer := 0
      stallReported := false
      farRole := none
      tx := .off }

/-- Auto-burst written on or off (R38). -/
def PathCtl.autoBurstSet (op : OpState) (c : PathCtl) : PathCtl :=
  if c.cfg.autoBurst then (if c.burstReady op then c.burst else c)
  else if c.tx = .burst then { c with tx := .full }
  else c

/-- The per-path fields of SET_PATH take effect (R19, R35, R38). -/
def PathCtl.configure (op : OpState) (f : PathSet) (c : PathCtl) : PathCtl :=
  let d := { c with cfg := c.cfg.write f }
  let e := if d.cfg.enabled = c.cfg.enabled then d else d.enable op d.cfg.enabled
  if d.cfg.autoBurst = c.cfg.autoBurst then e else e.autoBurstSet op

/-- SET_PATH carried out on clamped fields: the writes, then one report (R19, log entry 12). The answer says whether a
field changed. -/
def Part.setPath (p : Path) (f : PathSet) (x : Part) : Bool × Part :=
  if (x.path p).cfg.write f = (x.path p).cfg ∧ x.pair.write f = x.pair then (false, x)
  else
    let y := x.onPath p (PathCtl.configure x.dsc.opState f)
    (true, ({ y with pair := y.pair.write f }).report x)

/-! ### Operating states (R36, R59) -/

/-- What STANDBY entry clears of every path, DISABLED or not: any bring-up, the timers, the stall flag and the far role,
with the transmitter OFF (R36). -/
def PathCtl.standbyClear (c : PathCtl) : PathCtl :=
  { c.abandon with tx := .off, darkTimer := 0, silenceTimer := 0, stallReported := false, farRole := none }

/-- STANDBY entry of a path: a DISABLED path stays DISABLED, a path that is DARK already keeps its cause, any other goes
to DARK with cause STANDBY (R36). -/
def PathCtl.standby (c : PathCtl) : PathCtl :=
  match c.state with
  | .disabled => c.standbyClear
  | .dark => c.standbyClear
  | _ => { c.standbyClear with state := .dark, cause := .standby }

/-- STANDBY entry of a usable path; any other stays (R27, R36). -/
def PathCtl.standbyUsable (c : PathCtl) : PathCtl :=
  if c.usable then c.standby else c

/-- OPERATE entry of a path (R36). -/
def PathCtl.operate (c : PathCtl) : PathCtl :=
  if c.cfg.enabled then { c with tx := .full, darkTimer := 0 } else c

/-- The FMU at STANDBY entry (R59). -/
def Fmu.standby (fm : Fmu) : Fmu :=
  { fm with
    slots := List.replicate 16 MergeSlot.empty
    p := none
    anchor := none
    ref := none
    link := .offline
    reCount := 0
    reArrival := none }

/-- STANDBY takes the last usable path out of use while the other stands at ALIGN: ALIGN completes at that event, path A's
notice before path B's (R27, R39, log entry 10). With no path usable, or none at ALIGN, nothing comes before the entry. -/
def Part.standbyAligns (x : Part) : Part :=
  if x.anyUsable && (x.pa.atAlign || x.pb.atAlign) then
    let y := ({ x with pa := x.pa.standbyUsable, pb := x.pb.standbyUsable }).anchoring.1
    (y.notifyPath .a x).notifyPath .b x
  else x

/-- STANDBY entry of the paths and the FMU: ALIGN completed where R27 says so, path A's notice, path B's, one LINK_STATE
if the link was not OFFLINE, then the blocks that read the link (R36, R39, R59, log entry 10). -/
def Part.pathsStandby (x : Part) : Part :=
  let u := x.standbyAligns
  let y := { u with pa := u.pa.standby, pb := u.pb.standby }
  let z := (y.notifyPath .a u).notifyPath .b u
  let w := z.onFmu Fmu.standby
  if x.fmu.link = .offline then w.clockFollow
  else ((w.notify (.linkState .offline x.fmu.link none false false)).clockFollow).linkChanged x.fmu.link

/-- OPERATE entry of the paths (R36). -/
def Part.pathsOperate (x : Part) : Part :=
  { x with pa := x.pa.operate, pb := x.pb.operate }

/-! ### Frames received (R24 to R31) -/

/-- A bad frame (R24, R25, R30, R32). -/
def PathCtl.badFrame (c : PathCtl) : PathCtl :=
  match c.state with
  | .disabled => c
  | .dark => c
  | .acquiring => { c with badCount := satInc c.badCount, count := if c.step = .align then c.count else 0 }
  | _ => { c with badCount := satInc c.badCount }

/-- A good frame at step IDENT: counted with the far role and its flags kept for the completion, or a mismatch (R25). -/
def Part.identFrame (p : Path) (f : Frame) (x : Part) : Part :=
  if f.role = x.dsc.role then x.changePath p (PathCtl.mismatch f.role)
  else
    x.onPath p fun c =>
      { c with count := c.count + 1, farRole := some f.role, identFlags := some (f.restart, f.restartAck) }

/-- A good frame at step ALIGN: a full frame is offered, and completes ALIGN at a distance of 1 to 15 (R26). -/
def Part.alignFrame (p : Path) (f : Frame) (x : Part) : Part :=
  if f.idle then x
  else
    let y := x.arrive p f
    match y.1 with
    | some d => if 1 ≤ d ∧ d ≤ 15 then (y.2).changePath p PathCtl.serve else y.2
    | none => y.2

/-- A full frame offered to the FMU from a usable path (R30). -/
def Part.offerFull (p : Path) (f : Frame) (x : Part) : Part :=
  if f.idle then x else (x.arrive p f).2

/-- A good frame on a usable path: a mismatch, or the silence timer, the flags on an IN_SERVICE path, the offer (R29,
R30, R31). A frame of this end's own role only makes the path MISMATCHED: it neither resets the silence timer nor hands its
flags to the PLE (DESIGN CHOICE, log entry 46: R29 bars it from the FMU alone, Table 2-3 and R78 speak of every good
frame). -/
def Part.usableFrame (p : Path) (f : Frame) (x : Part) : Part :=
  if f.role = x.dsc.role then x.changePath p (PathCtl.mismatch f.role)
  else
    let y := x.onPath p fun c => { c with silenceTimer := 0 }
    let z := if (x.path p).state = .inService then y.serviceFlags f else y
    z.offerFull p f

/-- A good frame by the state of its path (Table 2-3). -/
def Part.goodFrame (p : Path) (f : Frame) (x : Part) : Part :=
  match (x.path p).state with
  | .disabled => x
  | .dark => x
  | .mismatched => x
  | .acquiring =>
    match (x.path p).step with
    | .lock => x.onPath p fun c => { c with count := c.count + 1 }
    | .ident => x.identFrame p f
    | .align => x.alignFrame p f
    | .none => x
  | .inService => x.usableFrame p f
  | .impaired => x.usableFrame p f

/-- A frame delivered by a receiver (R30). -/
def Part.frame (p : Path) (bits : List Bool) (x : Part) : Part :=
  match decodeFrame x.dsc.role bits with
  | some f => x.goodFrame p f
  | none => x.onPath p PathCtl.badFrame

/-! ### Timers of a path at a sample event (R21, R23, R31, R32, R38) -/

/-- The timers and windows of a path at a sample event. -/
def PathCtl.tick (op : OpState) (c : PathCtl) : PathCtl :=
  { c with
    stepTimer := if c.state = .acquiring then c.stepTimer + 1 else c.stepTimer
    silenceTimer := if c.usable then c.silenceTimer + 1 else c.silenceTimer
    silenceDue := c.usable && decide (silenceLimit c.cfg.silenceSel ≤ c.silenceTimer + 1)
    darkTimer := if c.state = .dark ∧ op = .operate ∧ c.cfg.enabled = true then min 96000 (c.darkTimer + 1) else c.darkTimer
    lightPos := if c.lightPos < 47 then c.lightPos + 1 else 0
    lightDue := decide (47 ≤ c.lightPos)
    errPos := if c.errPos < 4799 then c.errPos + 1 else 0
    errDue := decide (4799 ≤ c.errPos) }

end Sys2Proof.Machine
end

