-- ==== Sys2Proof/Machine/Meters.lean ====
section
/-!
DEFINITION. The Meter Unit (chapter 8): accumulators, the cell rotation, the meter tables and their reading.
-/

namespace Sys2Proof.Machine

/-- The level a meter takes of a sample: its absolute value clamped to 8,388,607 (R153, R154). -/
def meterLevel (v : Sample) : Nat :=
  min 8388607 v.natAbs

/-- An accumulator takes a sample and its clip indication (R153, R154). -/
def Acc.take (v : Sample) (clip : Bool) (a : Acc) : Acc :=
  ⟨max a.peak (meterLevel v), a.clip || clip⟩

/-- The value and clip indication handed over for a meter at this event: a channel's conditioned sample with its extreme
(R153), or a mix's output with its clamps (R154). -/
def Part.meterInput (x : Part) (n : Nat) : Sample × Bool :=
  if n < 64 then x.bus.conditioned.getD n (0, false)
  else
    let out := x.bus.mixOut.getD (n - 64) (0, false, false)
    (out.1, out.2.1 || out.2.2)

/-- Every accumulator at a sample event (R153, R154). -/
def Part.accumulate (x : Part) : Part :=
  let accs := mapFrom (fun n a => Acc.take (x.meterInput n).1 (x.meterInput n).2 a) 0 x.mtu.accs
  { x with mtu := { x.mtu with accs := accs } }

/-- A cell applied to a table entry; the age is kept at the DESK end while the link is SEVERED (R156, R157). -/
def MeterEntry.applyCell (keepAge : Bool) (c : MeterCell) (e : MeterEntry) : MeterEntry :=
  ⟨max e.level c.level, e.clip || c.clip, if keepAge then e.age else 0⟩

/-- A cell applied to the meter table; an index above 79 has no entry (R157). -/
def Part.applyCell (c : MeterCell) (x : Part) : Part :=
  let keep := x.dsc.role == .desk && x.fmu.link == .severed
  { x with mtu := { x.mtu with table := updAt c.index (MeterEntry.applyCell keep c) x.mtu.table } }

/-- The cell at the rotation position (R155). -/
def Mtu.cell (m : Mtu) : MeterCell :=
  let a := m.accs.getD m.rot ⟨0, false⟩
  ⟨m.rot, a.peak / 128, a.clip⟩

/-- The emission of a cell: the accumulator starts a new peak, the rotation advances, the cell is applied to the STAGE
table and stands ready for the frame (R155). -/
def Part.emitCell (x : Part) : Part :=
  let c := x.mtu.cell
  let y := { x with
    mtu := { x.mtu with
      accs := updAt x.mtu.rot (fun _ => ⟨0, false⟩) x.mtu.accs
      rot := if x.mtu.rot < 79 then x.mtu.rot + 1 else 0 }
    bus := { x.bus with cellOut := some c } }
  y.applyCell c

/-- Every entry ages by one event, stopping at 321; a cell applied at the event then sets its age (R156). -/
def Part.ageMeters (x : Part) : Part :=
  { x with mtu := { x.mtu with table := x.mtu.table.map fun e => { e with age := min 321 (e.age + 1) } } }

/-- The meters a read covers, in order (R158). -/
def metersRead (first count : Nat) : List Nat :=
  (List.range (if count = 0 then 80 else count)).map fun i => (first + i) % 80

/-- What a read reports of an entry (R156, R158). -/
def Part.meterInfo (x : Part) (n : Nat) : MeterInfo :=
  let e := x.mtu.table.getD n MeterEntry.powerOn
  ⟨n, e.level, e.clip, e.age, decide (320 < e.age)⟩

/-- An entry read: level and clip cleared, the age kept (R158). -/
def MeterEntry.clear (e : MeterEntry) : MeterEntry :=
  ⟨0, false, e.age⟩

/-- The reply fields of METER_READ, and the entries cleared (R158). -/
def Part.readMeters (first count : Nat) (x : Part) : ReplyBody × Part :=
  let ns := metersRead first count
  let table := mapFrom (fun n (e : MeterEntry) => if ns.contains n then e.clear else e) 0 x.mtu.table
  (.meters ns.length (ns.map x.meterInfo), { x with mtu := { x.mtu with table := table } })

end Sys2Proof.Machine
end

