-- ==== Sys2Proof/Machine/Updates.lean ====
section
/-!
DEFINITION. Stage-owned settings carried out by their blocks, for the stage host and for the lane (R74), the echoes and
refusals the DESK end applies (R83 to R85), and the judgement of a complete lane record (R73).
-/

namespace Sys2Proof.Machine

/-! ### Updates at the STAGE end (R74) -/

/-- The reply code of a set request (R172): OK when something changed, ALREADY otherwise. -/
def changedCode (changed : Bool) : ReplyCode :=
  if changed then .ok else .already

/-- An update with clamped fields and identifiers in range carried out by the block that owns its target. The answer is
OK, ALREADY, FULL or STATE; on FULL and STATE nothing changed. -/
def Part.doUpdate (cc : ChangeCause) (tc : TalkCause) (u : Update) (x : Part) : ReplyCode × Part :=
  match u with
  | .setChannel ch f =>
    let r := x.applyChannel ch f cc
    (changedCode r.1, r.2)
  | .setMix m f =>
    let r := x.applyMix m f cc
    (changedCode r.1, r.2)
  | .putContrib m b i code =>
    match refOf b i with
    | some r => x.applyPut m r code cc
    | none => (.range, x)
  | .dropContrib m b i =>
    match refOf b i with
    | some r => x.applyDrop m r cc
    | none => (.range, x)
  | .clearMix m => x.applyClear m cc
  | .openTalk s pri mode set =>
    match sourceOf s with
    | some src =>
      if x.openRefused src then (.state, x) else (.ok, x.talkOpen src pri (flagOf mode) set tc)
    | none => (.range, x)
  | .closeTalk s =>
    match sourceOf s with
    | some src =>
      if (x.session src).isSome then (.ok, x.closeSession src .close tc) else (.already, x)
    | none => (.range, x)
  | .setTalkCfg f =>
    let r := x.applyTalkCfg f tc
    (changedCode r.1, r.2)
  | .setLock f => (changedCode (x.chs.locks.write f != x.chs.locks), x.applyLock f)

/-- A stage-bound record applied at the STAGE end: no lock is checked, and a refusal produces a REFUSED record (R74). -/
def Part.applyUpdate (u : Update) (x : Part) : Part :=
  match x.doUpdate .lane .lane u.clamp with
  | (.full, y) => y.refuse u .full
  | (.state, y) => y.refuse u .state
  | (_, y) => y

/-! ### The DESK mirror (R83, R84) -/

/-- An echo with a version is accepted by an entry's version: in FILLING and VALID, when the entry is unknown or older
(R84). -/
def Mirror.accepts (m : Mirror) (held : Option Nat) (v : Nat) : Bool :=
  m.state != .invalid &&
    (match held with
     | none => true
     | some w => newer16 v w)

/-- A notice that an accepted echo queues in VALID (R84). -/
def Part.echoNotice (n : Notice) (x : Part) : Part :=
  if x.mirror.state = .valid then x.notify n else x

/-- The place of a source reference in a mix's 72 mirror entries. -/
def refIndex (r : SrcRef) : Nat :=
  match r.bank with
  | .input => r.idx
  | .ret => 64 + r.idx

/-- The DESK end's PHANTOM_DONE after an accepted ECHO_CHANNEL (R89). -/
def Part.deskPhantomDone (ch : Nat) (old : Option ChanEcho) (now : Phantom) (x : Part) : Part :=
  match old with
  | some o =>
    if (now = .on ∨ now = .off) ∧ o.phantom ≠ now then x.echoNotice (.phantomDoneDesk ch now) else x
  | none => x

/-- ECHO_CHANNEL offered to its entry (R84, R89). -/
def Part.echoedChannel (ch : Nat) (e : ChanEcho) (x : Part) : Part :=
  match x.mirror.channels[ch]? with
  | none => x
  | some old =>
    if x.mirror.accepts (old.map ChanEcho.version) e.version then
      let y := { x with mirror := { x.mirror with channels := updAt ch (fun _ => some e) x.mirror.channels } }
      (y.echoNotice (.channelChanged ch e .echo)).deskPhantomDone ch old e.phantom
    else x

/-- ECHO_MIX offered to its entry (R84, R127). -/
def Part.echoedMix (m : Nat) (e : MixEcho) (x : Part) : Part :=
  match x.mirror.mixes[m]? with
  | none => x
  | some old =>
    if x.mirror.accepts (old.map MixEcho.version) e.version then
      let y := { x with mirror := { x.mirror with mixes := updAt m (fun _ => some e) x.mirror.mixes } }
      y.echoNotice (.mixChanged m e .echo)
    else x

/-- The mirror's row of a mix, for a source reference in its range (R83). -/
def Mirror.contribRow (m : Nat) (r : SrcRef) (x : Mirror) : Option (List (Option ContribEcho)) :=
  if (refOf (bankNum r.bank) r.idx).isSome then x.contribs[m]? else none

/-- ECHO_CONTRIB offered to its entry (R84, R127). A source reference out of range has no entry (log entry 18). -/
def Part.echoedContrib (m : Nat) (r : SrcRef) (e : ContribEcho) (x : Part) : Part :=
  match x.mirror.contribRow m r with
  | none => x
  | some row =>
    let old := row.getD (refIndex r) none
    if x.mirror.accepts (old.map ContribEcho.version) e.version then
      let rows := updAt m (updAt (refIndex r) fun _ => some e) x.mirror.contribs
      let y := { x with mirror := { x.mirror with contribs := rows } }
      y.echoNotice (.contribChanged m r e .echo)
    else x

/-- The mirror entry of a talk source. -/
def Mirror.talk (m : Mirror) : Source → Option TalkEcho
  | .foh => m.foh
  | .mon => m.mon
  | .stg => m.stg

/-- The mirror entry of a talk source written. -/
def Mirror.setTalk (s : Source) (e : TalkEcho) (m : Mirror) : Mirror :=
  match s with
  | .foh => { m with foh := some e }
  | .mon => { m with mon := some e }
  | .stg => { m with stg := some e }

/-- ECHO_TALK in session form offered to its entry (R84, R150). -/
def Part.echoedTalk (s : Source) (e : TalkEcho) (x : Part) : Part :=
  let old := x.mirror.talk s
  if x.mirror.accepts (old.map TalkEcho.version) e.version then
    let y := { x with mirror := x.mirror.setTalk s e }
    y.echoNotice (.talkState (talkNotice s (old.bind TalkEcho.session) e .echo))
  else x

/-- ECHO_TALK in configuration form offered to its entry (R84, R150). -/
def Part.echoedCfg (c : TalkCfg) (x : Part) : Part :=
  if x.mirror.accepts (x.mirror.cfg.map TalkCfg.version) c.version then
    let y := { x with mirror := { x.mirror with cfg := some c } }
    y.echoNotice (.talkCfgState c .echo)
  else x

/-- ECHO_LOCK offered to its entry (R84, R106). -/
def Part.echoedLock (l : Locks) (x : Part) : Part :=
  if x.mirror.accepts (x.mirror.locks.map Locks.version) l.version then
    let y := { x with mirror := { x.mirror with locks := some l } }
    y.echoNotice (.lockChanged l)
  else x

/-- The version an unknown contribution of a mix takes at DUMP_END: that of the mix's settings entry, or a free value
where that is unknown (R83, log entry 15). -/
def Part.absentVersion (x : Part) (m : Nat) : Nat :=
  match x.mirror.mixes.getD m none with
  | some e => e.version
  | none => (Config.absentVersion x.bus.freeCount m).val

/-- DUMP_END applied in FILLING: unknown contribution entries become ABSENT and the mirror VALID (R83). -/
def Part.dumpEnded (x : Part) : Part :=
  if x.mirror.state = .filling then
    let rows := mapFrom
      (fun m row => row.map fun e => match e with
        | some k => some k
        | none => some (⟨x.absentVersion m, none⟩ : ContribEcho))
      0 x.mirror.contribs
    let y := { x with
      mirror := { x.mirror with state := .valid, contribs := rows }
      bus := { x.bus with freeCount := if x.mirror.mixes.all Option.isSome then x.bus.freeCount else x.bus.freeCount + 1 } }
    y.notify (.mirrorState .valid .filling)
  else x

/-- A record applied at either end: stage-bound updates (R74), echoes (R84), refusals (R85) and dump marks (R83). -/
def Part.applyMsg (msg : LaneMsg) (x : Part) : Part :=
  match msg with
  | .update u => x.applyUpdate u
  | .echoChannel ch e => x.echoedChannel ch e
  | .echoMix m e => x.echoedMix m e
  | .echoContrib m r e => x.echoedContrib m r e
  | .echoTalk s e => x.echoedTalk s e
  | .echoTalkCfg c => x.echoedCfg c
  | .echoLock l => x.echoedLock l
  | .refused id reason n => x.notify (.updateRefused id reason n)
  | .dumpBegin => x.mirrorTo .filling
  | .dumpEnd => x.dumpEnded

/-! ### A complete record (R73) -/

/-- A complete record judged against the expected sequence (R73). -/
def Part.judgeRecord (r : RawRecord) (x : Part) : Part :=
  if x.quiet then x
  else if r.seq = x.ple.expSeq then
    let y := x.onPle fun l => { l with expSeq := inc8 l.expSeq }
    match readRecord x.dsc.role r.kind r.bytes with
    | some msg => y.applyMsg msg
    | none => y.onPle fun l => { l with malformed := satInc l.malformed }
  else if newer8 x.ple.expSeq r.seq then x.onPle fun l => { l with dups := satInc l.dups }
  else x.onPle fun l => { l with outOfOrder := satInc l.outOfOrder }

/-- LANE_RECORD_COMPLETE, if a complete record waits: the oldest is judged. -/
def Part.takeRecord (x : Part) : Part :=
  match x.ple.done with
  | [] => x
  | r :: rest => (x.onPle fun l => { l with done := rest }).judgeRecord r

/-- Every complete record that waits, oldest first. -/
def Part.takeRecords : Nat → Part → Part
  | 0, x => x
  | n + 1, x => Part.takeRecords n x.takeRecord

end Sys2Proof.Machine
end

