-- ==== Sys2Proof/Machine/Resets.lean ====
section
/-!
DEFINITION. The Device State Controller and the Sample Clock Unit (chapter 1): operating states and their entry effects,
the reset events with every block's values, and the clock source.
-/

namespace Sys2Proof.Machine

/-! ### Operating states (R7 to R11) -/

/-- The operating state and the wake timer set. -/
def Part.setOp (op : OpState) (timer : Nat) (x : Part) : Part :=
  { x with dsc := { x.dsc with opState := op, wakeTimer := timer } }

/-- STANDBY entry by SET_STATE STANDBY: the paths and the link, phantom and conditioning, the masters, the sessions (R10,
log entry 10). The channel store, mix engine and arbiter are live at STAGE only (R2). -/
def Part.standbyEntry (x : Part) : Part :=
  let y := (x.setOp .standby 0).pathsStandby
  match x.dsc.role with
  | .desk => y
  | .stage => ((y.channelsStandby).mastersEval).talkStandby

/-- OPERATE entry: transmitters FULL, conditioning targets and offered phantoms, master targets (R11). -/
def Part.operateEntry (x : Part) : Part :=
  let y := (x.setOp .operate 0).pathsOperate
  match x.dsc.role with
  | .desk => y
  | .stage => (y.channelsOperate).mastersEval

/-- The wake begins: timer 3,840, the tag held, the preamp settings refreshed (R8, R18). -/
def Part.startWake (tag : Nat) (x : Part) : Part :=
  let y := x.setOp .waking 3840
  ({ y with dsc := { y.dsc with heldState := some tag } }).refreshPreamps

/-- WAKE_COMPLETE, if it is due: OPERATE with its entry effects, and the held request answered OK (R8). -/
def Part.takeWake (x : Part) : Part :=
  if x.dsc.opState = .waking ∧ x.dsc.wakeTimer = 0 then x.operateEntry.answerHeldState .ok else x

/-- SET_STATE by operating state and target (Table 1-2, R9). -/
def Part.setState (tag target : Nat) (x : Part) : Part :=
  match x.dsc.opState, flagOf target with
  | .standby, false => x.answer tag .already
  | .standby, true => x.startWake tag
  | .waking, false => ((x.answerHeldState .aborted).answer tag .ok).standbyEntry
  | .waking, true => x.answer tag .already
  | .operate, false => x.standbyEntry.answer tag .ok
  | .operate, true => x.answer tag .already

/-- The wake timer at a sample event (R8). -/
def Part.wakeTick (x : Part) : Part :=
  if x.dsc.opState = .waking then { x with dsc := { x.dsc with wakeTimer := x.dsc.wakeTimer - 1 } } else x

/-! ### Reset events (R3, R4) -/

/-- An input level seen by a path after power-on: the receiver's report is an input, no state of the part (log entry
22). -/
def PathCtl.keepLight (c old : PathCtl) : PathCtl :=
  { c with lightNow := old.lightNow, lightSeen := old.lightNow }

/-- Power-on and the release of the reset pin: every block's power-on values with the straps read; the levels of the
inputs stand as they are, and the count of free values goes on (R3, log entries 15 and 22). -/
def Part.restart (st : Straps) (pin : Bool) (x : Part) : Part :=
  let y := Part.powerOn st
  { y with
    dsc := { y.dsc with resetPin := pin }
    pa := y.pa.keepLight x.pa
    pb := y.pb.keepLight x.pb
    cmp := { y.cmp with hold := x.cmp.hold }
    bus := { y.bus with freeCount := x.bus.freeCount } }

/-- The reset pin asserted: nothing is transmitted, and a frame in progress is cut short (R3, R166). -/
def Part.assertPin (x : Part) : Part :=
  { x with
    dsc := { x.dsc with resetPin := true }
    pa := { x.pa with sentFrame := none }
    pb := { x.pb with sentFrame := none }
    cmp := { x.cmp with sending := none } }

/-- A path at RESET_SOFT: the values of power-on, but for its configuration, its window boundaries and the state DISABLED
of a disabled path (R20, R21, R32). -/
def PathCtl.soft (c : PathCtl) : PathCtl :=
  { PathCtl.powerOn with
    cfg := c.cfg
    state := if c.cfg.enabled then .dark else .disabled
    errPos := c.errPos
    errDue := c.errDue
    lightNow := c.lightNow
    lightSeen := c.lightSeen
    lightPos := c.lightPos
    lightDue := c.lightDue
    sentFrame := c.sentFrame }

/-- The blocks at RESET_SOFT, without notice or echo: power-on values but for the role, the path and pair configuration,
D, and the clock (R4 and the rule of each block); the preamp settings are refreshed with the reset values (R18). -/
def Part.softBlocks (x : Part) : Part :=
  let y := { x with
    dsc := { x.dsc with opState := .standby, wakeTimer := 0, heldState := none, heldLink := none, restartFlag := true }
    pa := x.pa.soft
    pb := x.pb.soft
    fmu := { Fmu.powerOn x.dsc.role with delay := x.fmu.delay }
    ple := Ple.powerOn
    chs := Chs.powerOn
    mxe := Mxe.powerOn
    tka := Tka.powerOn
    mtu := Mtu.powerOn
    mirror := Mirror.powerOn }
  let z := match x.dsc.role with
    | .desk => y
    | .stage => { y with scu := { y.scu with lock := followRef none y.scu.lock } }
  z.refreshPreamps

/-- The CMP at RESET_SOFT: requests and notices emptied, counts at 0; replies, mask, speed, receiver and a frame being
sent are kept (R171). -/
def Cmp.soft (c : Cmp) : Cmp :=
  { c with
    executing := none
    staged := none
    notices := []
    lossFlag := false
    lost := 0
    frameErrors := 0
    repliesLost := 0 }

/-- The ABORTED reply of the request that stood behind RESET_SOFT (R171). By execution it stands in the executing place. -/
def Part.abortStaged (x : Part) : Part :=
  match x.cmp.executing with
  | some r => x.answer r.tag .aborted
  | none => x

/-- RESET_SOFT carried out: the held requests ABORTED, OK, the staged request ABORTED, then the blocks, then the CMP (R4,
R171). Of two held requests the SET_STATE is answered first (DESIGN CHOICE, log entry 35). -/
def Part.resetSoft (tag : Nat) (x : Part) : Part :=
  let y := (x.answerHeldState .aborted).answerHeldLink .aborted
  let z := (y.answer tag .ok).abortStaged
  (z.softBlocks).onCmp Cmp.soft

/-! ### The DESK clock (R12) -/

/-- The clock source a request names. -/
def clockOf (n : Nat) : ClockSource :=
  if n = 0 then .loc else .ext

/-- SET_CLOCK at the DESK end (R12, R14). -/
def Part.setClock (tag n : Nat) (x : Part) : Part :=
  if clockOf n = x.scu.source then x.answer tag .already
  else (({ x with scu := ⟨clockOf n, .free, 0, false, 0, 0, false⟩ }).notifyClock).answer tag .ok

/-- The word-clock window at a sample event: the first opens at the first event after the source was selected, and each
ends after 48 events (R12, log entry 20). -/
def Scu.tick (s : Scu) : Scu :=
  if s.source = .loc then s
  else if s.winOpen = false then { s with winOpen := true, winPos := 0, edges := 0 }
  else if s.winPos < 47 then { s with winPos := s.winPos + 1 }
  else { s with winPos := 0, winDue := true }

/-- A window is good with 47, 48 or 49 edges (R12). -/
def goodWindow (edges : Nat) : Bool :=
  edges == 47 || edges == 48 || edges == 49

/-- CLOCK_WINDOW_END, if it is due (R12, R14). -/
def Part.takeClockWindow (x : Part) : Part :=
  if x.scu.winDue then
    let s := { x.scu with edges := 0, winDue := false }
    if goodWindow x.scu.edges then { x with scu := { s with qual := min 16 (s.qual + 1) } }
    else if x.scu.lock = .locked then ({ x with scu := { s with qual := 0, lock := .free } }).notifyClock
    else { x with scu := { s with qual := 0 } }
  else x

/-- CLOCK_QUALIFIED, if it is due (R12, R14). -/
def Part.takeQualified (x : Part) : Part :=
  if x.dsc.role = .desk ∧ x.scu.source = .ext ∧ x.scu.lock = .free ∧ 16 ≤ x.scu.qual then
    ({ x with scu := { x.scu with lock := .locked } }).notifyClock
  else x

/-- An edge of the word clock counted in the window in progress (R12). -/
def Part.clockEdge (x : Part) : Part :=
  if x.dsc.role = .desk ∧ x.scu.source = .ext ∧ x.scu.winOpen = true then
    { x with scu := { x.scu with edges := x.scu.edges + 1 } }
  else x

end Sys2Proof.Machine
end

