-- ==== Sys2Proof/Machine/Queries.lean ====
section
/-!
DEFINITION. What the read requests report (R39, R63, R89, R106, R128, R151, R158, R175): each reply's fields as a function
of the state.
-/

namespace Sys2Proof.Machine

/-- The lane status (R67). -/
def Part.laneStatus (x : Part) : LaneStatus where
  queued := x.ple.queue.length
  inFlight := x.ple.inFlight
  marks := x.ple.marks.length
  nextSeq := x.ple.nextSeq
  expSeq := x.ple.expSeq
  ackRaised := x.ple.ackRaised
  episode := x.ple.episode
  quietTail := x.ple.quietTail
  dump := x.ple.dump
  mirror := match x.dsc.role with
    | .desk => some x.mirror.state
    | .stage => none
  dups := x.ple.dups
  outOfOrder := x.ple.outOfOrder
  broken := x.ple.broken
  malformed := x.ple.malformed
  goBacks := x.ple.goBacks

/-- The IDENTIFY reply (R175). -/
def Part.identifyInfo (x : Part) : IdentifyInfo where
  device := 0x6416
  revision := Config.siliconRevision.val + 1
  role := x.dsc.role
  lineSpeed := lineSpeed x.cmp.speed1 x.cmp.speed0
  strap1 := x.cmp.speed1
  strap0 := x.cmp.speed0
  opState := x.dsc.opState
  wakeLeft := if x.dsc.opState = .waking then some x.dsc.wakeTimer else none
  heldState := x.dsc.heldState
  heldLink := x.dsc.heldLink
  restartFlag := x.dsc.restartFlag
  clock := x.clockInfo
  qual := match x.dsc.role with
    | .desk => some x.scu.qual
    | .stage => none
  lane := x.laneStatus
  mask := x.cmp.mask
  lossFlag := x.cmp.lossFlag
  lost := x.cmp.lost
  frameErrors := x.cmp.frameErrors
  repliesLost := x.cmp.repliesLost

/-- The GET_PATH reply (R39). -/
def Part.pathInfo (p : Path) (x : Part) : PathInfo :=
  let c := x.path p
  { cfg := c.cfg
    pair := x.pair
    state := c.state
    acquiring := if c.state = .acquiring then some (c.step, c.count, c.stepTimer) else none
    cause := c.cause
    light := c.light
    hist := c.hist
    tx := c.tx
    farRole := c.farRole
    lastBad := c.lastBad
    lastLate := c.lastLate
    recovery := c.recovery
    stallReported := c.stallReported }

/-- The GET_LINK reply (R63). -/
def Part.linkInfo (x : Part) : LinkInfo where
  link := x.fmu.link
  ref := x.fmu.ref
  usableA := x.pa.usable
  usableB := x.pb.usable
  p := x.fmu.p
  anchor := x.fmu.anchor
  delay := x.fmu.delay
  conceal := x.fmu.conceal.cur
  earlyA := x.fmu.earlyA
  earlyB := x.fmu.earlyB
  dupA := x.fmu.dupA
  dupB := x.fmu.dupB
  gaps := x.fmu.gaps
  reTotal := x.fmu.reTotal
  txSeq := x.fmu.txSeq

/-- The GET_CHANNEL reply of the STAGE end (R89). -/
def Part.chanInfo (n : Nat) (x : Part) : ChanInfo :=
  let c := x.channel n
  { gainTarget := c.gainTarget
    gain := c.gain
    walkTimer := c.walkTimer
    pad := c.pad
    inverted := c.inverted
    mute := c.mute
    request := c.request
    phantom := c.phantom
    phantomTimer := c.phantomTimer
    rampCur := c.ramp.cur
    rampTarget := c.ramp.target
    version := c.version
    queuePos := (findFrom (fun k => k == n) 0 x.chs.phantomQueue).map (· + 1)
    rising := x.rising }

/-- The GET_CHANNEL reply (R89). -/
def Part.channelBody (n : Nat) (x : Part) : ReplyBody :=
  match x.dsc.role with
  | .stage => .channel (x.chanInfo n)
  | .desk => .channelMirror x.mirror.state (x.mirror.channels.getD n none)

/-- The GET_MIX reply of the STAGE end (R128). -/
def Part.mixInfo (m : Nat) (x : Part) : MixInfo :=
  let z := x.mix m
  { fields := z.echo
    masterCur := z.masterRamp.cur
    masterTarget := z.masterRamp.target
    dimCur := z.dimRamp.cur
    dimTarget := z.dimRamp.target
    talkCur := z.talkRamp.cur
    talkTarget := z.talkRamp.target
    dest := z.dest
    entries := z.contribs.length
    free := x.mxe.free
    contribs := z.contribs.map fun c => ⟨c.ref, c.live, c.code, c.ramp.cur⟩
    clip := z.clip }

/-- The source reference at a place of a mix's 72 mirror entries. -/
def refAt (i : Nat) : SrcRef :=
  if i < 64 then ⟨.input, i⟩ else ⟨.ret, i - 64⟩

/-- The contributions of a mix known LIVE in the mirror, each entry with its gain code and version, INPUT before RETURN
(R83, R128). -/
def mirrorLive (row : List (Option ContribEcho)) : List (SrcRef × ContribEcho) :=
  (mapFrom (fun i e => (refAt i, e)) 0 row).filterMap fun e =>
    match e.2 with
    | some k => if k.live.isSome then some (e.1, k) else none
    | none => none

/-- The GET_MIX reply (R128). -/
def Part.mixBody (m : Nat) (x : Part) : ReplyBody :=
  match x.dsc.role with
  | .stage => .mix (x.mixInfo m)
  | .desk =>
    let row := x.mirror.contribs.getD m []
    .mixMirror x.mirror.state (x.mirror.mixes.getD m none) (mirrorLive row) (row.filter Option.isNone).length

/-- What GET_TALK reports of a source at the STAGE end (R151): a session with its ACTIVE flag, open order and latch
timer. -/
def SourceRec.info (s : SourceRec) : SourceInfo where
  session := s.session.map fun z => (z.echo, decide (z.granted ≠ 0), z.order, z.latchTimer)
  version := s.version
  reason := s.reason

/-- The GET_TALK reply (R151). -/
def Part.talkBody (x : Part) : ReplyBody :=
  match x.dsc.role with
  | .stage =>
    .talk
      { foh := x.tka.foh.info
        mon := x.tka.mon.info
        stg := x.tka.stg.info
        dests := x.tka.dests.map fun d => (d.state, d.holder)
        cfg := x.tka.cfg
        cueCur := x.tka.cue.cur
        cueTarget := x.tka.cue.target
        openCounter := x.tka.openCounter }
  | .desk => .talkMirror x.mirror.state x.mirror.foh x.mirror.mon x.mirror.stg x.mirror.cfg

/-- The GET_LOCK reply (R106). -/
def Part.lockBody (x : Part) : ReplyBody :=
  match x.dsc.role with
  | .stage => .lock x.chs.locks
  | .desk => .lockMirror x.mirror.state x.mirror.locks

/-- The clip flag of a mix cleared by a GET_MIX at the STAGE end (R125, R128). -/
def Part.clearClip (m : Nat) (x : Part) : Part :=
  match x.dsc.role with
  | .stage => x.onMix m fun z => { z with clip := false }
  | .desk => x

end Sys2Proof.Machine
end

