-- ==== Sys2Proof/Machine/Requests.lean ====
section
/-!
DEFINITION. Requests at execution (chapter 10): the checks of R172, the action of each request, the DESK's forwarding
(R182), and the two places of the request queue (R164, R171).
-/

namespace Sys2Proof.Machine

/-! ### Checks at execution (R172) -/

/-- The request is absent at this end in every operating state (R172 step 1, Table 10-1). -/
def absentAt (role : Role) (r : Request) : Bool :=
  match role, r with
  | .stage, .setClock _ => true
  | .stage, .update (.setLock _) => true
  | _, _ => false

/-- OPEN_TALK is not available at the STAGE end now (R135 steps 3 and 4). -/
def Part.talkUnavailable (x : Part) (n : Nat) : Bool :=
  match sourceOf n with
  | some s => x.openRefused s
  | none => false

/-- The request is not available in the present operating state (R172 step 4, Table 10-1). -/
def Part.unavailable (x : Part) (r : Request) : Bool :=
  match r with
  | .setPlayout _ => x.dsc.opState != .standby
  | .update (.openTalk s _ _ _) => x.dsc.role == .stage && x.talkUnavailable s
  | _ => false

/-- The mix or its list would be changed by a contribution edit (R104). -/
def Part.editChanges (x : Part) (u : Update) : Bool :=
  match u with
  | .putContrib m b i code =>
    match refOf b i with
    | some r => x.putOutcome m r code == .ok
    | none => false
  | .dropContrib m b i =>
    match refOf b i with
    | some r => x.hasLive m r
    | none => false
  | .clearMix m => !(x.mix m).liveRefs.isEmpty
  | _ => false

/-- The lock check of an update with clamped fields (R104). -/
def Part.updateLocked (x : Part) (u : Update) : Bool :=
  match u with
  | .setChannel ch f => x.channelLocked ch f
  | .setMix m f => x.mixLocked m f
  | .putContrib _ _ _ _ => x.chs.locks.mix && x.editChanges u
  | .dropContrib _ _ _ => x.chs.locks.mix && x.editChanges u
  | .clearMix _ => x.chs.locks.mix && x.editChanges u
  | .setTalkCfg f => x.talkCfgLocked f
  | .openTalk _ _ _ _ => false
  | .closeTalk _ => false
  | .setLock _ => false

/-- The request would change state in a locked class, at the STAGE end (R172 step 5). -/
def Part.locked (x : Part) (r : Request) : Bool :=
  match r with
  | .update u => x.dsc.role == .stage && x.updateLocked u
  | _ => false

/-- The answer of steps 1 to 5 of R172, if one of them answers. -/
def Part.refusal (x : Part) (r : Request) : Option ReplyCode :=
  if absentAt x.dsc.role r then some .state
  else if !r.identOk x.dsc.role then some .range
  else if x.unavailable r.clamp then some .state
  else if x.locked r.clamp then some .locked
  else none

/-! ### Actions (R172 step 6) -/

/-- SET_PATH (R19). -/
def Part.askSetPath (tag n : Nat) (f : PathSet) (x : Part) : Part :=
  match pathOf n with
  | some p =>
    let r := x.setPath p f
    (r.2).answer tag (changedCode r.1)
  | none => x.answer tag .range

/-- GET_PATH (R39). -/
def Part.askGetPath (tag n : Nat) (x : Part) : Part :=
  match pathOf n with
  | some p => x.reply tag .ok (.path (x.pathInfo p))
  | none => x.answer tag .range

/-- SET_PLAYOUT (R51). -/
def Part.askPlayout (tag d : Nat) (x : Part) : Part :=
  if d = x.fmu.delay then x.answer tag .already else (x.onFmu fun fm => { fm with delay := d }).answer tag .ok

/-- The enables a mask field gives: kind k at bit k − 1 (9.7). -/
def maskOfField (mask : Nat) : List Bool :=
  (List.range 14).map mask.testBit

/-- SET_NOTICE_MASK (R168). -/
def Part.askMask (tag mask : Nat) (x : Part) : Part :=
  if maskOfField mask = x.cmp.mask then x.answer tag .already
  else (x.onCmp fun c => { c with mask := maskOfField mask }).answer tag .ok

/-- LINK_RESET: ALREADY with the restart flag raised, otherwise held (R5). -/
def Part.askLinkReset (tag : Nat) (x : Part) : Part :=
  if x.dsc.restartFlag then x.answer tag .already else x.linkReset tag

/-- GET_MIX: the reply, then the clip flag cleared (R125, R128). -/
def Part.askGetMix (tag m : Nat) (x : Part) : Part :=
  (x.clearClip m).reply tag .ok (x.mixBody m)

/-- METER_READ (R158). -/
def Part.askMeters (tag first count : Nat) (x : Part) : Part :=
  let r := x.readMeters first count
  (r.2).reply tag .ok r.1

/-- The DESK end forwards an update on the lane (R77, R182). -/
def Part.forward (tag : Nat) (u : Update) (x : Part) : Part :=
  if u.noField then x.answer tag .already
  else
    match admitTo (.update u) x.ple.queue with
    | some q => (x.onPle fun l => { l with queue := q }).answer tag .accepted
    | none => x.answer tag .full

/-- An update of the end's own host: carried out at STAGE, forwarded at DESK (R2). -/
def Part.askUpdate (tag : Nat) (u : Update) (x : Part) : Part :=
  match x.dsc.role with
  | .desk => x.forward tag u
  | .stage =>
    let r := x.doUpdate .host .host u
    (r.2).answer tag r.1

/-- The action of a request that passed its checks, with clamped values. -/
def Part.act (tag : Nat) (r : Request) (x : Part) : Part :=
  match r with
  | .identify => x.reply tag .ok (.identify x.identifyInfo)
  | .setState t => x.setState tag t
  | .resetSoft => x.resetSoft tag
  | .linkReset => x.askLinkReset tag
  | .setNoticeMask m => x.askMask tag m
  | .setPath p f => x.askSetPath tag p f
  | .getPath p => x.askGetPath tag p
  | .setPlayout d => x.askPlayout tag d
  | .getLink => x.reply tag .ok (.link x.linkInfo)
  | .setClock s => x.setClock tag s
  | .getChannel ch => x.reply tag .ok (x.channelBody ch)
  | .getMix m => x.askGetMix tag m
  | .getTalk => x.reply tag .ok x.talkBody
  | .getLock => x.reply tag .ok x.lockBody
  | .meterRead a n => x.askMeters tag a n
  | .update u => x.askUpdate tag u

/-- A request carried out: the first of the checks that answers ends it, otherwise its action does (R172). -/
def Part.carryOut (r : HostRequest) (x : Part) : Part :=
  match x.refusal r.req with
  | some code => x.answer r.tag code
  | none => x.act r.tag r.req.clamp

/-! ### The request queue (R164, R171) -/

/-- The reply places a request needs to execute: two for RESET_SOFT with a request staged, otherwise one (R164, R171). -/
def placesFor (r : HostRequest) (staged : Option HostRequest) : Nat :=
  if r.req = .resetSoft ∧ staged.isSome = true then 2 else 1

/-- The executing request is carried out if its reply places are free; the staged one moves up (R164). -/
def Part.executeHead (x : Part) : Part :=
  match x.cmp.executing with
  | none => x
  | some r =>
    if placesFor r x.cmp.staged ≤ x.freeReplies then
      (x.onCmp fun c => { c with executing := c.staged, staged := none }).carryOut r
    else x

/-- REQUEST_EXECUTE: both places, in order, while reply places are free (R164). -/
def Part.drain (x : Part) : Part :=
  x.executeHead.executeHead

/-- A complete request takes its place in the request queue, or is answered BUSY (R164). -/
def Part.enqueue (r : HostRequest) (x : Part) : Part :=
  match x.cmp.executing, x.cmp.staged with
  | none, _ => x.onCmp fun c => { c with executing := some r, staged := none }
  | some _, none => x.onCmp fun c => { c with staged := some r }
  | some _, some _ => x.entryReply r.tag .busy

end Sys2Proof.Machine
end

