-- ==== Sys2Proof/Machine/Port.lean ====
section
/-!
DEFINITION. The Control Message Port (chapter 9): the line receiver and the framing (R160, R161), the checks of a closed
frame (R162, R163), the transmitter (R166, R167, R169), and host frames as bytes (Table 9-5).
-/

namespace Sys2Proof.Machine

/-! ### Host frames as bytes (R161, Table 9-5) -/

/-- The escape of bytes between boundaries (R161). -/
def escapeBytes : List Nat → List Nat
  | [] => []
  | b :: bs => if b = 0xA5 ∨ b = 0xA6 then 0xA6 :: (b ^^^ 0x40) :: escapeBytes bs else b :: escapeBytes bs

/-- A frame's bytes: class, tag, code, fields and the check, high byte first (Table 9-5). -/
def frameBytes (cls tag code : Nat) (fields : List Nat) : List Nat :=
  let body := cls :: tag :: code :: fields
  body ++ beBytes 2 (crc16 body)

/-- A frame on the line: boundary, escaped bytes, boundary (R161). -/
def lineBytes (frame : List Nat) : List Nat :=
  0xA5 :: (escapeBytes frame ++ [0xA5])

/-- A request as the host sends it. -/
def requestFrame (r : HostRequest) : List Nat :=
  frameBytes 0x01 r.tag r.req.code r.req.fields

/-- The frame the part sends for a reply or a notice. The manual names a reply's and a notice's fields and fixes no byte
positions for them, so their bytes are an argument (log entry 17). -/
def OutMsg.frame (fields : OutMsg → List Nat) (m : OutMsg) : List Nat :=
  match m with
  | .reply r => frameBytes 0x02 r.tag r.code.num (fields m)
  | .notice n => frameBytes 0x03 0 n.kind (fields m)

/-! ### The receiver (R160, R161) -/

/-- The frame error count. -/
def Cmp.countError (c : Cmp) : Cmp :=
  { c with frameErrors := satInc c.frameErrors }

/-- The receiver becomes hunting, the frame in progress discarded. -/
def Cmp.hunt (c : Cmp) : Cmp :=
  { c with inFrame := false, bytes := [], escape := false }

/-- A damaged frame: counted, with a FRAME reply of tag 0 (R161 to R163). The requests before it on the line are carried
out first, as far as reply places allow (R164). -/
def Part.damaged (x : Part) : Part :=
  (x.drain.onCmp Cmp.countError).entryReply 0 .frame

/-- A byte added to the frame in progress; the 259th discards it (R161). -/
def Cmp.addByte (b : Nat) (c : Cmp) : Cmp :=
  if c.bytes.length < 258 then { c with bytes := c.bytes ++ [b], escape := false }
  else { c.hunt with rxDue := some .tooLong }

/-- A byte taken by the framing (R161). -/
def Cmp.takeByte (b : Nat) (c : Cmp) : Cmp :=
  if c.inFrame = false then
    if b = 0xA5 then { c with inFrame := true, bytes := [], escape := false } else c
  else if c.escape then
    if b = 0xA5 then { c with bytes := [], escape := false, rxDue := some .escapeBoundary }
    else c.addByte (b ^^^ 0x40)
  else if b = 0xA5 then
    { c with bytes := [], rxDue := if c.bytes = [] then c.rxDue else some (.closed c.bytes) }
  else if b = 0xA6 then { c with escape := true }
  else c.addByte b

/-- FRAMING_ERROR: the character and a frame in progress are discarded, and the receiver waits for the line to stand at 1
(R160). While it waits already, no character is looked for. The requests before it on the line are carried out first, as
far as reply places allow (R164). -/
def Part.framingError (x : Part) : Part :=
  if x.cmp.awaitIdle then x
  else
    let y := (x.drain.onCmp Cmp.countError).onCmp fun c => { c.hunt with awaitIdle := true }
    if x.cmp.inFrame = true ∧ x.cmp.bytes ≠ [] then y.entryReply 0 .frame else y

/-- The data byte of a character, least significant bit first, each bit by majority (R160). -/
def lineByte (c : LineChar) : Nat :=
  ofBits (c.data.reverse.map majority)

/-- A character on the receive line (R160): none with the start bit at 1 or while the receiver waits, a framing error with
the stop bit at 0, otherwise its byte goes to the framing. -/
def Part.character (c : LineChar) (x : Part) : Part :=
  if x.cmp.awaitIdle then x
  else if majority c.start then x
  else if majority c.stop then x.onCmp (Cmp.takeByte (lineByte c))
  else x.framingError

/-! ### A closed frame (R162 to R164) -/

/-- What the checks of R162 make of a closed frame. -/
inductive Closed where
  | damaged
  | malformed (tag : Nat)
  | unknown (tag : Nat)
  | request (r : HostRequest)
  deriving DecidableEq, Repr, Inhabited

/-- Checks 3 to 5 of R162 on the bytes before the check bytes. -/
def checkBody (body : List Nat) : Closed :=
  match body with
  | cls :: tag :: code :: fields =>
    if cls ≠ 0x01 then .malformed tag
    else
      match parseRequest code fields with
      | .unknown => .unknown tag
      | .malformed => .malformed tag
      | .ok r => .request ⟨tag, r⟩
  | _ => .damaged

/-- The checks of R162, in order. -/
def checkFrame (bytes : List Nat) : Closed :=
  if bytes.length < 5 then .damaged
  else
    let body := bytes.take (bytes.length - 2)
    if crc16 body ≠ beNat (bytes.drop (bytes.length - 2)) then .damaged else checkBody body

/-- The outcome of a closed frame: an entry reply, or a complete request offered to the request queue (R162 to R164). The
requests before it on the line are carried out first, as far as reply places allow. -/
def Part.closed (bytes : List Nat) (x : Part) : Part :=
  match checkFrame bytes with
  | .damaged => x.damaged
  | .malformed tag => x.drain.entryReply tag .malformed
  | .unknown tag => x.drain.entryReply tag .unknown
  | .request r => x.drain.enqueue r

/-- CMP_FRAME_CLOSED, if a closed frame waits. -/
def Part.takeClosed (x : Part) : Part :=
  match x.cmp.rxDue with
  | some (.closed bytes) => (x.onCmp fun c => { c with rxDue := none }).closed bytes
  | _ => x

/-- FRAME_TOO_LONG, if a discarded frame waits (R161). -/
def Part.takeTooLong (x : Part) : Part :=
  match x.cmp.rxDue with
  | some .tooLong => (x.onCmp fun c => { c with rxDue := none }).damaged
  | some .escapeBoundary => (x.onCmp fun c => { c with rxDue := none }).damaged
  | _ => x

/-- What the receiver has closed is taken before the line goes on. -/
def Part.settleLine (x : Part) : Part :=
  x.takeClosed.takeTooLong

/-- A request row of the table is a complete request offered to the request queue: a frame closed before it on the line
and what waits in the queue are taken first, then the request is carried out at once if both places are empty and its
reply has a place, and otherwise takes its place (R164, log entry 9). -/
def Part.submit (tag : Nat) (req : Request) (x : Part) : Part :=
  let y := x.settleLine.drain
  if y.cmp.executing = none ∧ 1 ≤ y.freeReplies then y.carryOut ⟨tag, req⟩ else y.enqueue ⟨tag, req⟩

/-! ### The transmitter (R166, R167, R169) -/

/-- The oldest notice leaves the queue; with the loss flag set, NOTICES_LOST takes the freed place (R169). -/
def Cmp.sendNotice (n : Notice) (rest : List Notice) (c : Cmp) : Cmp :=
  if c.lossFlag then
    { c with sending := some (.notice n), notices := rest ++ [.noticesLost c.lost], lossFlag := false, lost := 0 }
  else { c with sending := some (.notice n), notices := rest }

/-- The oldest notice begins, if there is one. -/
def Cmp.transmitNotice (c : Cmp) : Cmp :=
  match c.notices with
  | n :: rest => c.sendNotice n rest
  | [] => c

/-- A reply and a notice stand in their queues, and no reply stood there when the transmitter last became free to choose:
both joined while it was idle, and either may be taken first (R166, log entry 34). -/
def Cmp.eitherFirst (c : Cmp) : Bool :=
  !c.replyFirst && !c.replies.isEmpty && !c.notices.isEmpty

/-- The transmit arbiter's choice: the oldest reply, or else the oldest notice; where either may be taken first, as the
argument says (R166). -/
def Cmp.transmit (noticeFirst : Bool) (c : Cmp) : Cmp :=
  if c.eitherFirst && noticeFirst then c.transmitNotice
  else
    match c.replies with
    | r :: rest => { c with sending := some (.reply r), replies := rest }
    | [] => c.transmitNotice

/-- TRANSMIT_FRAME_START, if the transmitter is idle, HOLD and the reset pin are not asserted, and a queue holds a frame
(R3, R166, R167). Which of a reply and a notice goes first where either may is a free value (log entry 34). -/
def Part.takeTransmit (x : Part) : Part :=
  if x.dsc.resetPin = false ∧ x.cmp.hold = false ∧ x.cmp.sending = none then
    let y := x.onCmp (Cmp.transmit (Config.noticeFirst x.bus.freeCount))
    if x.cmp.eitherFirst then { y with bus := { y.bus with freeCount := y.bus.freeCount + 1 } } else y
  else x

/-- The transmitter is free to choose again: a reply that stands in the queue then goes before any notice (R166). -/
def Cmp.free (c : Cmp) : Cmp :=
  { c with replyFirst := !c.replies.isEmpty }

/-- TRANSMIT_FRAME_END, if a frame is being sent: the transmitter is idle (R166). -/
def Part.endTransmit (x : Part) : Part :=
  if x.cmp.sending = none then x else x.onCmp fun c => Cmp.free { c with sending := none }

/-- The level of the HOLD input (R167). -/
def Part.setHold (level : Bool) (x : Part) : Part :=
  x.onCmp fun c => if level then { c with hold := true } else Cmp.free { c with hold := false }

end Sys2Proof.Machine
end

