-- ==== Sys2Proof/Machine/Sample.lean ====
section
/-!
DEFINITION. The sample event (R15, R41): the steps that are due are taken, then every per-sample block takes its step (log
entries 2 and 7).
-/

namespace Sys2Proof.Machine

/-! ### Due steps (log entry 2) -/

/-- A step of both paths, path A's first. -/
def bothPaths (f : Path → Part → Part) (x : Part) : Part :=
  f .b (f .a x)

/-- Every complete lane record that waits is judged. -/
def Part.settleRecords (x : Part) : Part :=
  Part.takeRecords x.ple.done.length x

/-- The due steps of one path but its bring-up steps. -/
def Part.settlePath (p : Path) (x : Part) : Part :=
  ((((((x.takeLight p).takeSilence p).takeStall p).takeErrors p).takeRecovered p).takeBurst p).takeCycle p

/-- What is due before a frame of a path is taken. -/
def Part.settleFrame (p : Path) (x : Part) : Part :=
  (((x.takeReAnchor.takeLock p).takeIdent p).settleRecords).settlePath p

/-- The due steps of the paths, the lane and the merge. -/
def Part.settleLink (x : Part) : Part :=
  let a := bothPaths (fun p y => (y.takeLock p).takeIdent p) x.takeReAnchor
  let b := (a.settleRecords.onPle Ple.takeTailEnd).onPle Ple.takeGoBack
  bothPaths Part.settlePath b

/-- The freed contributions of a mix. -/
def Part.settleMix (x : Part) (m : Nat) : Part :=
  ((x.mix m).contribs.map fun c => c.ref).foldl (fun y r => y.takeFreed m r) x

/-- The due steps of the channels, the mixes and the talk arbiter. -/
def Part.settleTables (x : Part) : Part :=
  let a := channelNums.foldl (fun y n => y.takeWalkStep n) x
  let b := channelNums.foldl (fun y n => y.takeRiseEnd n) a
  let c := channelNums.foldl (fun y n => y.takeFallEnd n) b
  let d := mixNums.foldl Part.settleMix c
  let e := mixNums.foldl (fun y m => y.takeLeavingEnd m) d
  let f := mixNums.foldl (fun y m => y.takeArrivingEnd m) e
  let g := destNums.foldl (fun y k => y.takeFadeEnd k) f
  sources.foldl (fun y s => y.takeLatchedLimit s) g

/-- The due steps of the clock and the wake. -/
def Part.settleDevice (x : Part) : Part :=
  x.takeClockWindow.takeQualified.takeWake

/-- The due steps of the Control Message Port. -/
def Part.settlePort (x : Part) : Part :=
  x.settleLine.drain.takeTransmit

/-- Every due step, in the order of log entry 2. -/
def Part.settle (x : Part) : Part :=
  x.settleLink.settleDevice.settleTables.settlePort

/-! ### The ports (R15, R16) -/

/-- The sample in a slot of a port; a slot that is not given reads 0 (log entry 25). -/
def portSample (ports : List (List Slot32)) (port slot : Nat) : Sample :=
  slotSample ((ports.getD port []).getD slot 0)

/-- The number of audio slots a role takes from its ports: 64 microphones or 8 returns (Table 1-4). -/
def micCount : Role → Nat
  | .stage => 64
  | .desk => 8

/-- The API delivers the samples of the port frames just completed (R15, Table 1-4). -/
def Part.takePorts (i : SampleInput) (x : Part) : Part :=
  let mic := (List.range (micCount x.dsc.role)).map fun n => portSample i.ports (n / 8) (n % 8)
  let talk := (List.range 2).map fun n => portSample [i.talk] 0 n
  { x with bus := { x.bus with mic := mic, talkIn := talk, cellIn := none, cellOut := none, syms := [] } }

/-- Eight slots of an output port. -/
def portOf (vals : List Sample) (port : Nat) : List Slot32 :=
  (List.range 8).map fun s => sampleSlot (vals.getD (8 * port + s) 0)

/-- The API places the samples of the event into the next output port frames (R15, Table 1-4). -/
def Part.placePorts (x : Part) : Part :=
  match x.dsc.role with
  | .stage =>
    let outs := x.bus.mixOut.map fun o => o.1
    { x with api := { x.api with portsOut := (List.range 2).map (portOf outs), talkOut := [] } }
  | .desk =>
    let outs := (List.range 8).map (portOf (x.bus.played.take 64))
    { x with api := { x.api with portsOut := outs, talkOut := portOf [x.bus.played.getD 64 0] 0 } }

/-- The oldest preamp record is sent and removed (R17). -/
def Part.sendPreamp (x : Part) : Part :=
  match x.api.queue with
  | [] => { x with api := { x.api with sent := none } }
  | r :: rest => { x with api := { x.api with queue := rest, sent := some r } }

/-! ### Timers -/

/-- The timers of the event: wake, paths, word-clock window, walk and phantom timers, latch timers, resend timer. -/
def Part.timers (x : Part) : Part :=
  let a := x.wakeTick
  let b := { a with
    scu := a.scu.tick
    pa := a.pa.tick a.dsc.opState
    pb := a.pb.tick a.dsc.opState }
  let c := match b.dsc.role with
    | .stage => b.channelTicks.latchTicks
    | .desk => b
  c.onPle (Ple.timerTick (c.fmu.link.up && !c.quiet))

/-! ### Lane and playout -/

/-- The PLE gives four symbols and the ack when either transmitter is FULL (R41, R68, R73). -/
def Part.takeLane (x : Part) : Part :=
  if x.anyFull then
    let r := Ple.takeSyms x.quiet 4 x.ple
    { x with ple := { r.2 with ackSent := r.2.ack }, bus := { x.bus with syms := r.1 } }
  else x

/-- A good playout hands over its symbols, its ack and, at DESK, its meter cell (R47, R70, R76). -/
def Part.playGood (expiryFirst : Bool) (f : Frame) (x : Part) : Part :=
  let a := x.onPle fun l => l.takeInAll f.syms
  let b := if expiryFirst then a.onPle Ple.takeGoBack else a
  let c := (b.onPle (Ple.takeAck b.quiet f.ack)).refill
  match c.dsc.role with
  | .desk => { c with bus := { c.bus with cellIn := f.cell } }
  | .stage => c

/-- One playout with its concealment, and what it hands to the PLE (R45 to R50, R72, R80). -/
def Part.playout (expiryFirst : Bool) (x : Part) : Part :=
  let r := x.fmu.playout
  let v := r.2.concealed r.1
  let a := { x with fmu := v.2, bus := { x.bus with played := v.1 } }
  let b := match r.1 with
    | some f => a.playGood expiryFirst f
    | none => a.onPle Ple.breakRecord
  b.onPle Ple.tailTick

/-! ### Meters (R153 to R157) -/

/-- The meters at a sample event: at STAGE accumulation and emission in the order given, at DESK the cell received. -/
def Part.meters (emitFirst : Bool) (x : Part) : Part :=
  let a := x.ageMeters
  match x.dsc.role with
  | .stage => if emitFirst then a.emitCell.accumulate else a.accumulate.emitCell
  | .desk =>
    match x.bus.cellIn with
    | some c => a.applyCell c
    | none => a

/-! ### Composition and sending (R16, R37, R41) -/

/-- The audio slots of the frame: 64 conditioned samples and the cue talk slot, or 8 returns and the FOH talk slot while
the session mirror shows it open (R16, R41). -/
def Part.frameAudio (x : Part) : List Sample :=
  match x.dsc.role with
  | .stage => x.bus.conditioned.map (fun v => v.1) ++ [x.bus.cueSlot]
  | .desk => x.bus.mic ++ [if x.mirror.fohOpen then x.bus.talkIn.getD 0 0 else 0]

/-- The frame composed at the event (R41). -/
def Part.compose (x : Part) : Frame where
  seq := x.fmu.txSeq
  ack := x.ple.ackSent
  role := x.dsc.role
  restart := x.dsc.restartFlag
  restartAck := x.ple.ackRaised
  idle := false
  syms := x.bus.syms
  audio := x.frameAudio
  cell := match x.dsc.role with
    | .stage => if x.anyFull then x.bus.cellOut else none
    | .desk => none

/-- The idle form of a frame (R37). -/
def Frame.toIdle (f : Frame) : Frame :=
  { f with idle := true, syms := [], audio := [], cell := none }

/-- A transmitter sends the frame in the form its mode gives (R37, R38). -/
def PathCtl.transmit (f : Frame) (c : PathCtl) : PathCtl :=
  match c.tx with
  | .off => { c with sentFrame := none }
  | .full => { c with sentFrame := some f }
  | .burst =>
    { c with
      sentFrame := if c.burstCounter < 192 then some f.toIdle else none
      burstCounter := c.burstCounter + 1 }

/-- The frame is composed, handed to both transmitters, and the sequence advances (R41). -/
def Part.sendFrame (x : Part) : Part :=
  let f := x.compose
  { x with
    pa := x.pa.transmit f
    pb := x.pb.transmit f
    fmu := { x.fmu with txSeq := inc16 x.fmu.txSeq } }

/-! ### The event (R15) -/

/-- The work of the blocks that are live at STAGE only: talk samples and mixes (R2, R123, R130). -/
def Part.stageWork (x : Part) : Part :=
  match x.dsc.role with
  | .stage => x.talkSamples.mixAll
  | .desk => x

/-- The conditioning of the STAGE end (R90). -/
def Part.stageCondition (x : Part) : Part :=
  match x.dsc.role with
  | .stage => x.condition
  | .desk => x

/-- Every per-sample block takes its step (R15, log entry 7). -/
def Part.sampleWork (i : SampleInput) (x : Part) : Part :=
  let a := ((x.takePorts i).timers).stageCondition
  let b := (a.takeLane.playout i.expiryFirst).stageWork
  ((b.meters i.emitFirst).sendFrame.placePorts).sendPreamp

/-- SAMPLE_EVENT: nothing while the reset pin is asserted (R3), otherwise the due steps and the work. -/
def Part.sampleEvent (i : SampleInput) (x : Part) : Part :=
  if x.dsc.resetPin then x else x.settle.sampleWork i

end Sys2Proof.Machine
end

