-- ==== Sys2Proof/Machine/Events.lean ====
section
/-!
DEFINITION. The meanings of the power, clock, fibre and pin commands and of the steps that come due inside the part. A
step's command that is not due changes nothing (log entry 3). No command reads or writes the queue of commands.
-/

namespace Sys2Proof.Machine

/-- The outcome of a command: the part after it, the waiting commands as they stand. -/
def done (s : State) (x : Part) : Host.Outcome State Fault Refusal :=
  .next { s with part := x }

/-! ### Power and reset pin (R3) -/

/-- POWER_ON (R3). -/
def execPowerOn (st : Straps) (s : State) : Host.Outcome State Fault Refusal :=
  done s (s.part.restart st s.part.dsc.resetPin)

/-- RESET_PIN_ASSERT (R3). -/
def execResetPinAssert (s : State) : Host.Outcome State Fault Refusal :=
  done s s.part.assertPin

/-- RESET_PIN_RELEASE (R3). -/
def execResetPinRelease (st : Straps) (s : State) : Host.Outcome State Fault Refusal :=
  done s (s.part.restart st false)

/-! ### The sample event and the lane -/

/-- SAMPLE_EVENT (R15). -/
def execSampleEvent (i : SampleInput) (s : State) : Host.Outcome State Fault Refusal :=
  done s (s.part.sampleEvent i)

/-- LANE_RECORD_COMPLETE (R73). -/
def execLaneRecordComplete (s : State) : Host.Outcome State Fault Refusal :=
  done s s.part.takeRecord

/-! ### Fibre and merge -/

/-- FRAME_RECEIVED (R30). -/
def execFrameReceived (p : Path) (bits : List Bool) (s : State) : Host.Outcome State Fault Refusal :=
  done s ((s.part.settleFrame p).frame p bits)

/-- RE_ANCHOR (R54). -/
def execReAnchor (s : State) : Host.Outcome State Fault Refusal :=
  done s s.part.takeReAnchor

/-- LOCK_STEP_COMPLETE (R24). -/
def execLockStepComplete (p : Path) (s : State) : Host.Outcome State Fault Refusal :=
  done s (s.part.takeLock p)

/-- IDENT_STEP_COMPLETE (R25). -/
def execIdentStepComplete (p : Path) (s : State) : Host.Outcome State Fault Refusal :=
  done s (s.part.takeIdent p)

/-- QUIET_TAIL_END (R80). -/
def execQuietTailEnd (s : State) : Host.Outcome State Fault Refusal :=
  done s (s.part.onPle Ple.takeTailEnd)

/-- GO_BACK (R71). -/
def execGoBack (s : State) : Host.Outcome State Fault Refusal :=
  done s (s.part.onPle Ple.takeGoBack)

/-! ### Paths -/

/-- LIGHT_WINDOW_END (R22). -/
def execLightWindowEnd (p : Path) (s : State) : Host.Outcome State Fault Refusal :=
  done s (s.part.takeLight p)

/-- SILENCE_TIMEOUT (R31). -/
def execSilenceTimeout (p : Path) (s : State) : Host.Outcome State Fault Refusal :=
  done s (s.part.takeSilence p)

/-- BRINGUP_STALL (R28). -/
def execBringupStall (p : Path) (s : State) : Host.Outcome State Fault Refusal :=
  done s (s.part.takeStall p)

/-- ERROR_WINDOW_END (R33). -/
def execErrorWindowEnd (p : Path) (s : State) : Host.Outcome State Fault Refusal :=
  done s (s.part.takeErrors p)

/-- PATH_RECOVERED (R34). -/
def execPathRecovered (p : Path) (s : State) : Host.Outcome State Fault Refusal :=
  done s (s.part.takeRecovered p)

/-- BURST_ENTRY (R38). -/
def execBurstEntry (p : Path) (s : State) : Host.Outcome State Fault Refusal :=
  done s (s.part.takeBurst p)

/-- BURST_CYCLE_RESTART (R38). -/
def execBurstCycleRestart (p : Path) (s : State) : Host.Outcome State Fault Refusal :=
  done s (s.part.takeCycle p)

/-! ### Clock and wake -/

/-- CLOCK_WINDOW_END (R12). -/
def execClockWindowEnd (s : State) : Host.Outcome State Fault Refusal :=
  done s s.part.takeClockWindow

/-- CLOCK_QUALIFIED (R12). -/
def execClockQualified (s : State) : Host.Outcome State Fault Refusal :=
  done s s.part.takeQualified

/-- WAKE_COMPLETE (R8). -/
def execWakeComplete (s : State) : Host.Outcome State Fault Refusal :=
  done s s.part.takeWake

/-! ### Channels, mixes and talk -/

/-- GAIN_WALK_STEP (R92). -/
def execGainWalkStep (channel : Nat) (s : State) : Host.Outcome State Fault Refusal :=
  done s (s.part.takeWalkStep channel)

/-- PHANTOM_RISE_END (R98). -/
def execPhantomRiseEnd (channel : Nat) (s : State) : Host.Outcome State Fault Refusal :=
  done s (s.part.takeRiseEnd channel)

/-- PHANTOM_FALL_END (R99). -/
def execPhantomFallEnd (channel : Nat) (s : State) : Host.Outcome State Fault Refusal :=
  done s (s.part.takeFallEnd channel)

/-- CONTRIB_FREED (R115). -/
def execContribFreed (mix : Nat) (ref : SrcRef) (s : State) : Host.Outcome State Fault Refusal :=
  done s (s.part.takeFreed mix ref)

/-- LEAVING_END (R121). -/
def execLeavingEnd (mix : Nat) (s : State) : Host.Outcome State Fault Refusal :=
  done s (s.part.takeLeavingEnd mix)

/-- ARRIVING_END (R122). -/
def execArrivingEnd (mix : Nat) (s : State) : Host.Outcome State Fault Refusal :=
  done s (s.part.takeArrivingEnd mix)

/-- FADE_END (R139). -/
def execFadeEnd (dest : Nat) (s : State) : Host.Outcome State Fault Refusal :=
  done s (s.part.takeFadeEnd dest)

/-- LATCHED_LIMIT (R144). -/
def execLatchedLimit (src : Source) (s : State) : Host.Outcome State Fault Refusal :=
  done s (s.part.takeLatchedLimit src)

/-! ### The Control Message Port -/

/-- CMP_FRAME_CLOSED (R162). -/
def execCmpFrameClosed (s : State) : Host.Outcome State Fault Refusal :=
  done s s.part.takeClosed

/-- FRAMING_ERROR (R160). -/
def execFramingError (s : State) : Host.Outcome State Fault Refusal :=
  done s s.part.settleLine.framingError

/-- FRAME_TOO_LONG (R161). -/
def execFrameTooLong (s : State) : Host.Outcome State Fault Refusal :=
  done s s.part.takeTooLong

/-- REQUEST_EXECUTE (R164). -/
def execRequestExecute (s : State) : Host.Outcome State Fault Refusal :=
  done s s.part.executeHead

/-- TRANSMIT_FRAME_START (R166). -/
def execTransmitFrameStart (s : State) : Host.Outcome State Fault Refusal :=
  done s s.part.takeTransmit

/-- TRANSMIT_FRAME_END (R166). -/
def execTransmitFrameEnd (s : State) : Host.Outcome State Fault Refusal :=
  done s s.part.endTransmit

/-- HOLD_ASSERT (R167). -/
def execHoldAssert (s : State) : Host.Outcome State Fault Refusal :=
  done s (s.part.setHold true)

/-- HOLD_RELEASE: the arbiter chooses at once (R167). -/
def execHoldRelease (s : State) : Host.Outcome State Fault Refusal :=
  done s (s.part.setHold false).takeTransmit

/-- CHARACTER_RECEIVED (R160, R161). -/
def execCharacterReceived (c : LineChar) (s : State) : Host.Outcome State Fault Refusal :=
  done s (s.part.settleLine.character c)

/-- LINE_IDLE_CHARACTER_TIME (R160). -/
def execLineIdleCharacterTime (s : State) : Host.Outcome State Fault Refusal :=
  done s (s.part.settleLine.onCmp fun c => { c with awaitIdle := false })

/-! ### Input pins -/

/-- RECEIVER_LIGHT_CHANGE (R21); a light window that has ended is closed first. -/
def execReceiverLightChange (p : Path) (lit : Bool) (s : State) : Host.Outcome State Fault Refusal :=
  done s ((s.part.takeLight p).onPath p (PathCtl.lightChange lit))

/-- WORD_CLOCK_EDGE (R12); a window that has ended is closed first. -/
def execWordClockEdge (s : State) : Host.Outcome State Fault Refusal :=
  done s s.part.takeClockWindow.clockEdge

end Sys2Proof.Machine
end

