-- ==== Sys2Proof/Machine/HostRequests.lean ====
section
/-!
DEFINITION. The meanings of the 24 host requests: each is a complete request offered to the request queue (R164, log entry
9), which carries it out by the checks and the action of chapter 10.
-/

namespace Sys2Proof.Machine

/-- IDENTIFY (R175). -/
def execIdentify (tag : Nat) (s : State) : Host.Outcome State Fault Refusal :=
  done s (s.part.submit tag .identify)

/-- SET_STATE (R7). -/
def execSetState (tag target : Nat) (s : State) : Host.Outcome State Fault Refusal :=
  done s (s.part.submit tag (.setState target))

/-- RESET_SOFT (R4). -/
def execResetSoft (tag : Nat) (s : State) : Host.Outcome State Fault Refusal :=
  done s (s.part.submit tag .resetSoft)

/-- LINK_RESET (R5). -/
def execLinkReset (tag : Nat) (s : State) : Host.Outcome State Fault Refusal :=
  done s (s.part.submit tag .linkReset)

/-- SET_NOTICE_MASK (R168). -/
def execSetNoticeMask (tag mask : Nat) (s : State) : Host.Outcome State Fault Refusal :=
  done s (s.part.submit tag (.setNoticeMask mask))

/-- SET_PATH (R19). -/
def execSetPath (tag path : Nat) (f : PathSet) (s : State) : Host.Outcome State Fault Refusal :=
  done s (s.part.submit tag (.setPath path f))

/-- GET_PATH (R39). -/
def execGetPath (tag path : Nat) (s : State) : Host.Outcome State Fault Refusal :=
  done s (s.part.submit tag (.getPath path))

/-- SET_PLAYOUT (R51). -/
def execSetPlayout (tag delay : Nat) (s : State) : Host.Outcome State Fault Refusal :=
  done s (s.part.submit tag (.setPlayout delay))

/-- GET_LINK (R63). -/
def execGetLink (tag : Nat) (s : State) : Host.Outcome State Fault Refusal :=
  done s (s.part.submit tag .getLink)

/-- SET_CLOCK (R12). -/
def execSetClock (tag source : Nat) (s : State) : Host.Outcome State Fault Refusal :=
  done s (s.part.submit tag (.setClock source))

/-- SET_CHANNEL (R88, R178, R182). -/
def execSetChannel (tag channel : Nat) (f : ChanSet) (s : State) : Host.Outcome State Fault Refusal :=
  done s (s.part.submit tag (.update (.setChannel channel f)))

/-- GET_CHANNEL (R89). -/
def execGetChannel (tag channel : Nat) (s : State) : Host.Outcome State Fault Refusal :=
  done s (s.part.submit tag (.getChannel channel))

/-- SET_MIX (R116, R179, R182). -/
def execSetMix (tag mix : Nat) (f : MixSet) (s : State) : Host.Outcome State Fault Refusal :=
  done s (s.part.submit tag (.update (.setMix mix f)))

/-- GET_MIX (R128). -/
def execGetMix (tag mix : Nat) (s : State) : Host.Outcome State Fault Refusal :=
  done s (s.part.submit tag (.getMix mix))

/-- PUT_CONTRIB (R113, R182). -/
def execPutContrib (tag mix bank idx code : Nat) (s : State) : Host.Outcome State Fault Refusal :=
  done s (s.part.submit tag (.update (.putContrib mix bank idx code)))

/-- DROP_CONTRIB (R114, R182). -/
def execDropContrib (tag mix bank idx : Nat) (s : State) : Host.Outcome State Fault Refusal :=
  done s (s.part.submit tag (.update (.dropContrib mix bank idx)))

/-- CLEAR_MIX (R114, R182). -/
def execClearMix (tag mix : Nat) (s : State) : Host.Outcome State Fault Refusal :=
  done s (s.part.submit tag (.update (.clearMix mix)))

/-- OPEN_TALK (R135, R182). -/
def execOpenTalk (tag source priority mode requested : Nat) (s : State) : Host.Outcome State Fault Refusal :=
  done s (s.part.submit tag (.update (.openTalk source priority mode requested)))

/-- CLOSE_TALK (R143, R182). -/
def execCloseTalk (tag source : Nat) (s : State) : Host.Outcome State Fault Refusal :=
  done s (s.part.submit tag (.update (.closeTalk source)))

/-- SET_TALKCFG (R145, R182). -/
def execSetTalkCfg (tag : Nat) (f : TalkCfgSet) (s : State) : Host.Outcome State Fault Refusal :=
  done s (s.part.submit tag (.update (.setTalkCfg f)))

/-- GET_TALK (R151). -/
def execGetTalk (tag : Nat) (s : State) : Host.Outcome State Fault Refusal :=
  done s (s.part.submit tag .getTalk)

/-- SET_LOCK (R105, R182). -/
def execSetLock (tag : Nat) (f : LockSet) (s : State) : Host.Outcome State Fault Refusal :=
  done s (s.part.submit tag (.update (.setLock f)))

/-- GET_LOCK (R106). -/
def execGetLock (tag : Nat) (s : State) : Host.Outcome State Fault Refusal :=
  done s (s.part.submit tag .getLock)

/-- METER_READ (R158). -/
def execMeterRead (tag first count : Nat) (s : State) : Host.Outcome State Fault Refusal :=
  done s (s.part.submit tag (.meterRead first count))

end Sys2Proof.Machine
end

