-- ==== Sys2Proof/Machine/Dispatch.lean ====
section
/-!
DEFINITION. One arm per command, each one direct call of its meaning.
-/

namespace Sys2Proof.Machine

def exec (i : Instr) (s : State) : Host.Outcome State Fault Refusal :=
  match i with
  | .powerOn st => Sys2Proof.Machine.execPowerOn st s
  | .resetPinAssert => Sys2Proof.Machine.execResetPinAssert s
  | .resetPinRelease st => Sys2Proof.Machine.execResetPinRelease st s
  | .sampleEvent input => Sys2Proof.Machine.execSampleEvent input s
  | .laneRecordComplete => Sys2Proof.Machine.execLaneRecordComplete s
  | .frameReceived p bits => Sys2Proof.Machine.execFrameReceived p bits s
  | .reAnchor => Sys2Proof.Machine.execReAnchor s
  | .lockStepComplete p => Sys2Proof.Machine.execLockStepComplete p s
  | .identStepComplete p => Sys2Proof.Machine.execIdentStepComplete p s
  | .quietTailEnd => Sys2Proof.Machine.execQuietTailEnd s
  | .goBack => Sys2Proof.Machine.execGoBack s
  | .lightWindowEnd p => Sys2Proof.Machine.execLightWindowEnd p s
  | .silenceTimeout p => Sys2Proof.Machine.execSilenceTimeout p s
  | .bringupStall p => Sys2Proof.Machine.execBringupStall p s
  | .errorWindowEnd p => Sys2Proof.Machine.execErrorWindowEnd p s
  | .pathRecovered p => Sys2Proof.Machine.execPathRecovered p s
  | .burstEntry p => Sys2Proof.Machine.execBurstEntry p s
  | .burstCycleRestart p => Sys2Proof.Machine.execBurstCycleRestart p s
  | .clockWindowEnd => Sys2Proof.Machine.execClockWindowEnd s
  | .clockQualified => Sys2Proof.Machine.execClockQualified s
  | .wakeComplete => Sys2Proof.Machine.execWakeComplete s
  | .gainWalkStep channel => Sys2Proof.Machine.execGainWalkStep channel s
  | .phantomRiseEnd channel => Sys2Proof.Machine.execPhantomRiseEnd channel s
  | .phantomFallEnd channel => Sys2Proof.Machine.execPhantomFallEnd channel s
  | .contribFreed mix ref => Sys2Proof.Machine.execContribFreed mix ref s
  | .leavingEnd mix => Sys2Proof.Machine.execLeavingEnd mix s
  | .arrivingEnd mix => Sys2Proof.Machine.execArrivingEnd mix s
  | .fadeEnd dest => Sys2Proof.Machine.execFadeEnd dest s
  | .latchedLimit src => Sys2Proof.Machine.execLatchedLimit src s
  | .cmpFrameClosed => Sys2Proof.Machine.execCmpFrameClosed s
  | .framingError => Sys2Proof.Machine.execFramingError s
  | .frameTooLong => Sys2Proof.Machine.execFrameTooLong s
  | .requestExecute => Sys2Proof.Machine.execRequestExecute s
  | .transmitFrameStart => Sys2Proof.Machine.execTransmitFrameStart s
  | .transmitFrameEnd => Sys2Proof.Machine.execTransmitFrameEnd s
  | .holdAssert => Sys2Proof.Machine.execHoldAssert s
  | .holdRelease => Sys2Proof.Machine.execHoldRelease s
  | .identify tag => Sys2Proof.Machine.execIdentify tag s
  | .setState tag target => Sys2Proof.Machine.execSetState tag target s
  | .resetSoft tag => Sys2Proof.Machine.execResetSoft tag s
  | .linkReset tag => Sys2Proof.Machine.execLinkReset tag s
  | .setNoticeMask tag mask => Sys2Proof.Machine.execSetNoticeMask tag mask s
  | .setPath tag path f => Sys2Proof.Machine.execSetPath tag path f s
  | .getPath tag path => Sys2Proof.Machine.execGetPath tag path s
  | .setPlayout tag delay => Sys2Proof.Machine.execSetPlayout tag delay s
  | .getLink tag => Sys2Proof.Machine.execGetLink tag s
  | .setClock tag source => Sys2Proof.Machine.execSetClock tag source s
  | .setChannel tag channel f => Sys2Proof.Machine.execSetChannel tag channel f s
  | .getChannel tag channel => Sys2Proof.Machine.execGetChannel tag channel s
  | .setMix tag mix f => Sys2Proof.Machine.execSetMix tag mix f s
  | .getMix tag mix => Sys2Proof.Machine.execGetMix tag mix s
  | .putContrib tag mix bank idx code => Sys2Proof.Machine.execPutContrib tag mix bank idx code s
  | .dropContrib tag mix bank idx => Sys2Proof.Machine.execDropContrib tag mix bank idx s
  | .clearMix tag mix => Sys2Proof.Machine.execClearMix tag mix s
  | .openTalk tag source priority mode requested => Sys2Proof.Machine.execOpenTalk tag source priority mode requested s
  | .closeTalk tag source => Sys2Proof.Machine.execCloseTalk tag source s
  | .setTalkCfg tag f => Sys2Proof.Machine.execSetTalkCfg tag f s
  | .getTalk tag => Sys2Proof.Machine.execGetTalk tag s
  | .setLock tag f => Sys2Proof.Machine.execSetLock tag f s
  | .getLock tag => Sys2Proof.Machine.execGetLock tag s
  | .meterRead tag first count => Sys2Proof.Machine.execMeterRead tag first count s
  | .characterReceived c => Sys2Proof.Machine.execCharacterReceived c s
  | .lineIdleCharacterTime => Sys2Proof.Machine.execLineIdleCharacterTime s
  | .receiverLightChange p lit => Sys2Proof.Machine.execReceiverLightChange p lit s
  | .wordClockEdge => Sys2Proof.Machine.execWordClockEdge s

end Sys2Proof.Machine
end

