-- ==== Sys2Proof/WellFormed.lean ====
section
/-!
DEFINITION. Which commands are well formed: every operand within the size its field has (R173, Table 10-2), every step's
identifier naming an entry of the part, every port frame of 8 slots (1.6), every character of 8 data bits (9.1). Values out
of a request's range are well formed: the part answers them (R172).
-/

namespace Sys2Proof

/-- A one-byte value. -/
def isByte (n : Nat) : Bool :=
  decide (n < 256)

/-- A two-byte value. -/
def isWord (n : Nat) : Bool :=
  decide (n < 65536)

/-- An optional value of a size. -/
def optOk (p : Nat → Bool) (o : Option Nat) : Bool :=
  match o with
  | some n => p n
  | none => true

def PathSet.wf (f : PathSet) : Bool :=
  optOk isByte f.enabled && optOk isWord f.threshold && optOk isByte f.silenceSel && optOk isByte f.autoBurst &&
    optOk isByte f.preferred && optOk isByte f.revertive

def ChanSet.wf (f : ChanSet) : Bool :=
  optOk isByte f.gain && optOk isByte f.pad && optOk isByte f.polarity && optOk isByte f.mute && optOk isByte f.phantom

def MixSet.wf (f : MixSet) : Bool :=
  optOk isByte f.master && optOk isByte f.offset && optOk isByte f.dim && optOk isByte f.talkLevel &&
    optOk isByte f.talkMask

def TalkCfgSet.wf (f : TalkCfgSet) : Bool :=
  optOk isByte f.cueMask && optOk isByte f.cueLevel && optOk isWord f.limit

def LockSet.wf (f : LockSet) : Bool :=
  optOk isByte f.preamp && optOk isByte f.condition && optOk isByte f.mix && optOk isByte f.talk

/-- An update's fields fit their sizes. -/
def Update.wf : Update → Bool
  | .setChannel ch f => isByte ch && f.wf
  | .setMix m f => isByte m && f.wf
  | .putContrib m b i c => isByte m && isByte b && isByte i && isByte c
  | .dropContrib m b i => isByte m && isByte b && isByte i
  | .clearMix m => isByte m
  | .openTalk s p md set => isByte s && isByte p && isByte md && decide (set < 2 ^ 24)
  | .closeTalk s => isByte s
  | .setTalkCfg f => f.wf
  | .setLock f => f.wf

/-- A request's fields fit their sizes. -/
def Request.wf : Request → Bool
  | .setState t => isByte t
  | .setNoticeMask m => isWord m
  | .setPath p f => isByte p && f.wf
  | .getPath p => isByte p
  | .setPlayout d => isByte d
  | .setClock s => isByte s
  | .getChannel ch => isByte ch
  | .getMix m => isByte m
  | .meterRead a n => isByte a && isByte n
  | .update u => u.wf
  | _ => true

/-- A source reference names a relative channel to 63 or a return to 7 (R65). -/
def SrcRef.wf (r : SrcRef) : Bool :=
  match r.bank with
  | .input => decide (r.idx < 64)
  | .ret => decide (r.idx < 8)

/-- At most 8 ports are given, each of 8 slots, and a talk port of 8 slots or none (1.6, Table 1-4). -/
def SampleInput.wf (i : SampleInput) : Bool :=
  decide (i.ports.length ≤ 8) && (i.ports.all fun p => p.length == 8) && (i.talk.length == 8 || i.talk.isEmpty)

/-- A command is well formed. -/
def Instr.wf : Instr → Bool
  | .powerOn _ => true
  | .resetPinAssert => true
  | .resetPinRelease _ => true
  | .sampleEvent i => i.wf
  | .laneRecordComplete => true
  | .frameReceived _ _ => true
  | .reAnchor => true
  | .lockStepComplete _ => true
  | .identStepComplete _ => true
  | .quietTailEnd => true
  | .goBack => true
  | .lightWindowEnd _ => true
  | .silenceTimeout _ => true
  | .bringupStall _ => true
  | .errorWindowEnd _ => true
  | .pathRecovered _ => true
  | .burstEntry _ => true
  | .burstCycleRestart _ => true
  | .clockWindowEnd => true
  | .clockQualified => true
  | .wakeComplete => true
  | .gainWalkStep ch => decide (ch < 64)
  | .phantomRiseEnd ch => decide (ch < 64)
  | .phantomFallEnd ch => decide (ch < 64)
  | .contribFreed m r => decide (m < 16) && r.wf
  | .leavingEnd m => decide (m < 16)
  | .arrivingEnd m => decide (m < 16)
  | .fadeEnd d => decide (d < 17)
  | .latchedLimit _ => true
  | .cmpFrameClosed => true
  | .framingError => true
  | .frameTooLong => true
  | .requestExecute => true
  | .transmitFrameStart => true
  | .transmitFrameEnd => true
  | .holdAssert => true
  | .holdRelease => true
  | .identify tag => isByte tag
  | .setState tag t => isByte tag && (Request.setState t).wf
  | .resetSoft tag => isByte tag
  | .linkReset tag => isByte tag
  | .setNoticeMask tag m => isByte tag && (Request.setNoticeMask m).wf
  | .setPath tag p f => isByte tag && (Request.setPath p f).wf
  | .getPath tag p => isByte tag && (Request.getPath p).wf
  | .setPlayout tag d => isByte tag && (Request.setPlayout d).wf
  | .getLink tag => isByte tag
  | .setClock tag s => isByte tag && (Request.setClock s).wf
  | .setChannel tag ch f => isByte tag && (Update.setChannel ch f).wf
  | .getChannel tag ch => isByte tag && (Request.getChannel ch).wf
  | .setMix tag m f => isByte tag && (Update.setMix m f).wf
  | .getMix tag m => isByte tag && (Request.getMix m).wf
  | .putContrib tag m b i c => isByte tag && (Update.putContrib m b i c).wf
  | .dropContrib tag m b i => isByte tag && (Update.dropContrib m b i).wf
  | .clearMix tag m => isByte tag && (Update.clearMix m).wf
  | .openTalk tag s p md set => isByte tag && (Update.openTalk s p md set).wf
  | .closeTalk tag s => isByte tag && (Update.closeTalk s).wf
  | .setTalkCfg tag f => isByte tag && (Update.setTalkCfg f).wf
  | .getTalk tag => isByte tag
  | .setLock tag f => isByte tag && (Update.setLock f).wf
  | .getLock tag => isByte tag
  | .meterRead tag a n => isByte tag && (Request.meterRead a n).wf
  | .characterReceived c => c.data.length == 8
  | .lineIdleCharacterTime => true
  | .receiverLightChange _ _ => true
  | .wordClockEdge => true

end Sys2Proof
end

