-- ==== Sys2Proof/Safety.lean ====
section
/-!
DEFINITION. The terms claims are stated in: when a block is ready for a command, the row of each request, what a change at STAGE
produces, and the invariants the manual states of the whole part.
-/

namespace Sys2Proof.Machine

/-! ### Readiness -/

/-- No step is due: the steps that SAMPLE_EVENT takes first change nothing (log entry 2). -/
def Part.Settled (x : Part) : Prop :=
  x.settle = x

/-- No step of a path, the lane or the merge is due before a frame of the path (log entry 2). -/
def Part.FrameReady (p : Path) (x : Part) : Prop :=
  x.settleFrame p = x

/-- The receiver holds no closed frame that waits for its step (log entry 2). -/
def Part.LineReady (x : Part) : Prop :=
  x.cmp.rxDue = none

/-- A complete request is carried out at once: no closed frame and no request is before it and a reply place is free
(R164). -/
def Part.PortReady (x : Part) : Prop :=
  x.cmp.rxDue = none ∧ x.cmp.executing = none ∧ 1 ≤ x.freeReplies

/-! ### Request rows -/

/-- The row of the table that gives a request with its tag (chapter 10). -/
def requestRow (r : HostRequest) : Instr :=
  match r.req with
  | .identify => .identify r.tag
  | .setState target => .setState r.tag target
  | .resetSoft => .resetSoft r.tag
  | .linkReset => .linkReset r.tag
  | .setNoticeMask mask => .setNoticeMask r.tag mask
  | .setPath path f => .setPath r.tag path f
  | .getPath path => .getPath r.tag path
  | .setPlayout delay => .setPlayout r.tag delay
  | .getLink => .getLink r.tag
  | .setClock source => .setClock r.tag source
  | .getChannel channel => .getChannel r.tag channel
  | .getMix mix => .getMix r.tag mix
  | .getTalk => .getTalk r.tag
  | .getLock => .getLock r.tag
  | .meterRead first count => .meterRead r.tag first count
  | .update (.setChannel channel f) => .setChannel r.tag channel f
  | .update (.setMix mix f) => .setMix r.tag mix f
  | .update (.putContrib mix bank idx code) => .putContrib r.tag mix bank idx code
  | .update (.dropContrib mix bank idx) => .dropContrib r.tag mix bank idx
  | .update (.clearMix mix) => .clearMix r.tag mix
  | .update (.openTalk source priority mode requested) => .openTalk r.tag source priority mode requested
  | .update (.closeTalk source) => .closeTalk r.tag source
  | .update (.setTalkCfg f) => .setTalkCfg r.tag f
  | .update (.setLock f) => .setLock r.tag f

/-! ### What a change at STAGE produces -/

/-- The lane of a part once its blocks have produced an echo of each target, in order, with the values the part holds now,
where the lane stood as `old` holds it (R75, R87, R109, R132). -/
def Part.laneAfter (x old : Part) (targets : List Target) : Ple :=
  (targets.foldl (fun y t => Part.echo t y) { x with ple := old.ple }).ple

/-- The sources, in the order given, of whose session what ECHO_TALK carries differs between two parts (R132). -/
def Part.talkChanged (x old : Part) (order : List Source) : List Source :=
  order.filter fun src => (x.session src).map Session.echo != (old.session src).map Session.echo

/-- The Control Message Port once one TALK_STATE for each source so changed has been queued, in order, where it stood as
`old` holds it (R132, R150). -/
def Part.talkTold (x old : Part) (cause : TalkCause) (order : List Source) : Cmp :=
  (x.talkChanged old order).foldl
    (fun c src => c.notify (.talkState
      (talkNotice src ((old.session src).map Session.echo) (x.tka.source src).echo cause)))
    old.cmp

/-- The targets of the echoes of the sources so changed, in order (R132). -/
def Part.talkEchoes (x old : Part) (order : List Source) : List Target :=
  (x.talkChanged old order).map fun src => .talk (sourceNum src)

/-! ### Ramp targets of a destination -/

/-- A destination's ramps have the targets its state gives: for a mix destination, whose state the MXE has, the dim and talk
ramps of the mix (Table 6-3, R118), for FOH CUE the cue ramp (R147). -/
def Part.TargetsFollow (x : Part) (d : Nat) : Prop :=
  (d < 16 → (x.mix d).dest = (x.dest d).state ∧
    (x.mix d).dimRamp.target = (if (x.dest d).state = .held then faderK (x.mix d).dim else 65536) ∧
    (x.mix d).talkRamp.target = (if (x.dest d).state = .held then faderK (x.mix d).talkLevel else 0)) ∧
  (d = 16 → x.tka.cue.target = if (x.dest d).state = .held then faderK x.tka.cfg.cueLevel else 0)

/-! ### Messages that fit their layouts -/

/-- A frame of the direction a role receives, in the form Table 9-8 gives it: an idle frame carries nothing after its header, a
full one 4 lane symbols, the direction's audio slots and, house-bound, a meter cell; every value fits its field. -/
def Frame.fits (rx : Role) (f : Frame) : Prop :=
  f.seq < 65536 ∧ f.ack < 256 ∧
  (f.idle = true → f.syms = [] ∧ f.audio = [] ∧ f.cell = none) ∧
  (f.idle = false → f.syms.length = 4 ∧ (∀ y ∈ f.syms, y.data < 256) ∧ f.audio.length = rxSlots rx ∧
    (∀ v ∈ f.audio, sampleMin ≤ v ∧ v ≤ sampleMax) ∧
    match rx, f.cell with
    | .desk, some c => c.index < 128 ∧ c.level < 65536
    | .stage, none => True
    | _, _ => False)

/-- A house-bound record whose values fit the layout of its body (Table 9-9). -/
def LaneMsg.fitsHouse : LaneMsg → Prop
  | .update _ => False
  | .echoChannel ch e => ch < 256 ∧ e.version < 65536 ∧ e.gainTarget < 256
  | .echoMix m e => m < 256 ∧ e.version < 65536 ∧ e.master < 256 ∧ e.offset < 256 ∧ e.pendingOffset < 256 ∧ e.dim < 256 ∧
      e.talkLevel < 256 ∧ e.talkMask < 256
  | .echoContrib m r e => m < 256 ∧ r.idx < 256 ∧ e.version < 65536 ∧ ∀ c, e.live = some c → c < 256
  | .echoTalk _ e => e.version < 65536 ∧ (e.session.isSome = true → e.reason = .none) ∧
      ∀ z, e.session = some z → z.priority < 256 ∧ z.requested < 2 ^ 24 ∧ z.granted < 2 ^ 24
  | .echoTalkCfg c => c.version < 65536 ∧ c.cueMask < 256 ∧ c.cueLevel < 256 ∧ c.limit < 65536
  | .echoLock l => l.version < 65536
  | .refused id _ n => 1 ≤ id.kind ∧ id.kind ≤ 9 ∧ id.id1 < 256 ∧ id.id2 < 256 ∧ id.id3 < 256 ∧ n < 256
  | .dumpBegin => True
  | .dumpEnd => True

/-! ### Invariants -/

/-- At most 32 records, the oldest of them, at most 12, in flight with consecutive sequences up to the next one, and no two
unsent ones of one target (R68). -/
def Ple.QueueInv (l : Ple) : Prop :=
  l.nextSeq < 256 ∧ l.queue.length ≤ 32 ∧ l.inFlight ≤ 12 ∧
  (∀ i r, l.queue[i]? = some r →
    r.seq = if i < l.inFlight then some ((l.nextSeq + 256 - l.inFlight + i) % 256) else none) ∧
  ∀ (i j : Nat) (r q : LaneRec), l.queue[i]? = some r → l.queue[j]? = some q → r.seq = none → q.seq = none →
    r.msg.target = q.msg.target → i = j

/-- The link state and the reference path follow the usable paths (R55, R57). -/
def Part.LinkInv (x : Part) : Prop :=
  (x.fmu.link = .protect ↔ (x.pa.usable = true ∧ x.pb.usable = true)) ∧
  (x.fmu.link = .exposed ↔ (x.pa.usable ≠ x.pb.usable)) ∧
  (x.fmu.ref.isSome = x.fmu.link.up) ∧
  (∀ p, x.fmu.ref = some p → (x.path p).usable = true)

/-- At most 6 channels are RISING, and the phantom queue holds exactly the QUEUED channels, each once (R94). -/
def Part.PhantomInv (x : Part) : Prop :=
  x.chs.channels.length = 64 ∧ x.rising ≤ 6 ∧ x.chs.phantomQueue.Nodup ∧
  ∀ n, n ∈ x.chs.phantomQueue ↔ (n < 64 ∧ (x.channel n).phantom = .queued)

/-- The entries of every mix's list and the free entries number 384, no mix holds more than 48, and none holds two
contributions of one source reference (R110). -/
def Part.PoolInv (x : Part) : Prop :=
  x.mxe.mixes.length = 16 ∧ x.mxe.free + (x.mxe.mixes.map fun m => m.contribs.length).sum = 384 ∧
  ∀ m ∈ x.mxe.mixes, m.contribs.length ≤ 48 ∧ (m.contribs.map fun c => c.ref).Nodup

/-- The talk tables agree: a FREE destination has no holder and any other has one; a session's granted set is exactly the
destinations HELD with its source as holder, each requested and the session eligible for it; the MXE has the state of each mix
destination; and the DESK end has no session (R2, R118, R133, R134, R136 to R142). -/
def Part.TalkInv (x : Part) : Prop :=
  x.tka.dests.length = 17 ∧ x.mxe.mixes.length = 16 ∧
  (∀ d, (x.dest d).state = .free ↔ (x.dest d).holder = none) ∧
  (∀ d src, (x.dest d).state = .held → (x.dest d).holder = some src →
    ∃ z, x.session src = some z ∧ z.granted.testBit d = true) ∧
  (∀ src z d, x.session src = some z → z.granted.testBit d = true →
    d < 17 ∧ (x.dest d).state = .held ∧ (x.dest d).holder = some src ∧ x.eligible z d = true) ∧
  (∀ m, m < 16 → (x.mix m).dest = (x.dest m).state) ∧
  (x.dsc.role = .desk → ∀ src, x.session src = none)

/-- The reply queue has room for every held request, and neither it nor the notice queue is overrun (R165, R169). -/
def Part.QueueInv (x : Part) : Prop :=
  x.cmp.replies.length + x.dsc.heldState.isSome.toNat + x.dsc.heldLink.isSome.toNat ≤ 8 ∧ x.cmp.notices.length ≤ 32

/-- While the reset pin is asserted nothing is sent on either path or on the Control Message Port (R3). -/
def Part.PinInv (x : Part) : Prop :=
  x.dsc.resetPin = true → x.pa.sentFrame = none ∧ x.pb.sentFrame = none ∧ x.cmp.sending = none

end Sys2Proof.Machine
end

