-- ==== Sys2Proof/Certificates/Slice0/Obligations.lean ====
section
/-!
DEFINITION. The statements for the provers. Each says what numbered rules of the manual say, over every state that meets its
hypotheses.
-/

open Sys2Proof Sys2Proof.Machine

/-! ### The step, reset and power -/

/-- One step takes the command at the front of the queue and carries it out with the queue's rest; with no command waiting the
block idles (the queue and the idle step are the model's choice, log entry 4). Every command completes: none faults, none is
refused, and none touches the waiting commands. The command of a step that is not due changes nothing at all (the model's
choice, log entry 3): each such step is named here with the state in which it is not due. -/
def Obligations.StepTakesFrontCommand : Prop :=
  (∀ (c : Instr) (s : State), step { s with pending := c :: s.pending } = exec c s) ∧
  (∀ s : State, s.pending = [] → step s = .next s) ∧
  (∀ (c : Instr) (s : State), ∃ x : Part, exec c s = .next { s with part := x }) ∧
  ∀ s : State,
    let idle (c : Instr) : Prop := exec c s = .next s
    let x := s.part
    (∀ p,
      let c := x.path p
      (c.state ≠ .acquiring ∨ c.step ≠ .lock ∨ c.count < 8 → idle (.lockStepComplete p)) ∧
      (c.state ≠ .acquiring ∨ c.step ≠ .ident ∨ c.count < 8 → idle (.identStepComplete p)) ∧
      (c.state ≠ .acquiring ∨ c.stepTimer < 12000 → idle (.bringupStall p)) ∧
      (c.lightDue = false → idle (.lightWindowEnd p)) ∧ (c.errDue = false → idle (.errorWindowEnd p)) ∧
      (c.silenceDue = false ∨ (c.state ≠ .inService ∧ c.state ≠ .impaired) → idle (.silenceTimeout p)) ∧
      (c.state ≠ .impaired ∨ c.recovery < 10 → idle (.pathRecovered p)) ∧
      (c.state ≠ .dark ∨ x.dsc.opState ≠ .operate ∨ c.cfg.enabled = false ∨ c.cfg.autoBurst = false ∨
        c.darkTimer < 96000 ∨ c.tx = .burst → idle (.burstEntry p)) ∧
      (c.tx ≠ .burst ∨ c.burstCounter < 24000 → idle (.burstCycleRestart p))) ∧
    (x.fmu.reArrival = none → idle .reAnchor) ∧ (x.ple.done = [] → idle .laneRecordComplete) ∧
    (x.ple.tailDue = false → idle .quietTailEnd) ∧ (x.ple.goBackDue = false ∨ x.ple.inFlight = 0 → idle .goBack) ∧
    (x.scu.winDue = false → idle .clockWindowEnd) ∧
    (x.dsc.role = .stage ∨ x.scu.source = .loc ∨ x.scu.lock ≠ .free ∨ x.scu.qual < 16 → idle .clockQualified) ∧
    (x.dsc.opState ≠ .waking ∨ x.dsc.wakeTimer ≠ 0 → idle .wakeComplete) ∧
    (∀ n,
      ((x.channel n).walkDue = false → idle (.gainWalkStep n)) ∧
      ((x.channel n).phantom ≠ .rising ∨ (x.channel n).phantomTimer ≠ 0 → idle (.phantomRiseEnd n)) ∧
      ((x.channel n).phantom ≠ .falling ∨ (x.channel n).phantomTimer ≠ 0 → idle (.phantomFallEnd n))) ∧
    (∀ m r,
      ((∀ c ∈ (x.mix m).contribs, c.ref = r → c.freeDue = false ∨ c.live = true) → idle (.contribFreed m r)) ∧
      ((x.mix m).leavingDue = false → idle (.leavingEnd m)) ∧ ((x.mix m).arrivingDue = false → idle (.arrivingEnd m))) ∧
    (∀ d, (x.dest d).fadeDue = false ∨ (x.dest d).state ≠ .fading → idle (.fadeEnd d)) ∧
    (∀ src, (∀ z, x.session src = some z → z.latchDue = false ∨ z.latched = false) → idle (.latchedLimit src)) ∧
    (x.cmp.rxDue = none → idle .cmpFrameClosed ∧ idle .frameTooLong) ∧ (x.cmp.executing = none → idle .requestExecute) ∧
    (x.cmp.sending = none → idle .transmitFrameEnd) ∧
    (x.dsc.resetPin = true ∨ x.cmp.hold = true ∨ x.cmp.sending ≠ none ∨ (x.cmp.replies = [] ∧ x.cmp.notices = []) →
      idle .transmitFrameStart)

/-- Power-on gives every block its power-on values, with the role and the line speed read from the straps; the release of the
reset pin has the same effect. The light report of each receiver, the HOLD level and the model's count of free values stand as
they are (log entries 15 and 22); the window positions and the wake timer at 0 are the model's choice (log entry 33). -/
def Obligations.PowerOnValues : Prop :=
  ∀ (st : Straps) (s : State), ∃ x : Part,
    exec (.powerOn st) s = .next { s with part := { x with dsc := { x.dsc with resetPin := s.part.dsc.resetPin } } } ∧
    exec (.resetPinRelease st) s = .next { s with part := x } ∧
    x.dsc.role = st.role ∧ x.dsc.opState = .standby ∧ x.dsc.heldState = none ∧ x.dsc.heldLink = none ∧
    x.dsc.restartFlag = true ∧ x.dsc.resetPin = false ∧ x.dsc.wakeTimer = 0 ∧
    x.scu.source = .loc ∧ x.scu.lock = .free ∧ x.scu.qual = 0 ∧
    x.api.queue = (if st.role = .stage then (List.range 64).map fun n => ⟨n, 0, false, false⟩ else []) ∧
    (∀ p, (x.path p).cfg = ⟨true, 48, 1, true⟩ ∧ (x.path p).state = .dark ∧ (x.path p).step = .none ∧
      (x.path p).count = 0 ∧ (x.path p).stepTimer = 0 ∧ (x.path p).stallReported = false ∧
      (x.path p).silenceTimer = 0 ∧ (x.path p).badCount = 0 ∧ (x.path p).lateCount = 0 ∧ (x.path p).recovery = 0 ∧
      (x.path p).lastBad = 0 ∧ (x.path p).lastLate = 0 ∧
      (x.path p).cause = .none ∧ (x.path p).farRole = none ∧ (x.path p).tx = .off ∧ (x.path p).darkTimer = 0 ∧
      (x.path p).burstCounter = 0 ∧ (x.path p).hist = ⟨false, false, false⟩ ∧ (x.path p).light = false ∧
      (x.path p).lightPos = 0 ∧ (x.path p).errPos = 0 ∧ (x.path p).lightNow = (s.part.path p).lightNow ∧
      (x.path p).lightSeen = (s.part.path p).lightNow) ∧
    x.pair = ⟨.a, true⟩ ∧
    x.fmu.slots = List.replicate 16 MergeSlot.empty ∧ x.fmu.p = none ∧ x.fmu.anchor = none ∧ x.fmu.delay = 6 ∧
    x.fmu.ref = none ∧ x.fmu.link = .offline ∧ x.fmu.reCount = 0 ∧ x.fmu.conceal = ⟨0, 0, 0, 0⟩ ∧
    x.fmu.lastGood = List.replicate (if st.role = .desk then 65 else 9) 0 ∧ x.fmu.txSeq = 0 ∧ x.fmu.reArrival = none ∧
    x.fmu.earlyA = 0 ∧ x.fmu.earlyB = 0 ∧ x.fmu.dupA = 0 ∧ x.fmu.dupB = 0 ∧ x.fmu.gaps = 0 ∧ x.fmu.reTotal = 0 ∧
    x.ple.queue = [] ∧ x.ple.nextSeq = 0 ∧ x.ple.expSeq = 0 ∧ x.ple.cursor = none ∧ x.ple.resendTimer = 0 ∧
    x.ple.asm = .idle ∧ x.ple.ackRaised = false ∧ x.ple.episode = false ∧ x.ple.quietTail = 0 ∧ x.ple.marks = [] ∧
    x.ple.dump = .idle ∧ x.ple.done = [] ∧ x.ple.dups = 0 ∧ x.ple.outOfOrder = 0 ∧ x.ple.broken = 0 ∧
    x.ple.malformed = 0 ∧ x.ple.goBacks = 0 ∧
    x.mirror.state = .invalid ∧ x.mirror.channels = List.replicate 64 none ∧ x.mirror.mixes = List.replicate 16 none ∧
    x.mirror.contribs = List.replicate 16 (List.replicate 72 none) ∧ x.mirror.foh = none ∧ x.mirror.mon = none ∧
    x.mirror.stg = none ∧ x.mirror.cfg = none ∧ x.mirror.locks = none ∧
    (∀ n, (x.channel n).gainTarget = 0 ∧ (x.channel n).gain = 0 ∧ (x.channel n).walkTimer = 0 ∧
      (x.channel n).pad = false ∧ (x.channel n).inverted = false ∧ (x.channel n).mute = false ∧
      (x.channel n).request = false ∧ (x.channel n).phantom = .off ∧ (x.channel n).phantomTimer = 0 ∧
      (x.channel n).ramp = ⟨0, 0, 0, 0⟩ ∧ (x.channel n).version = 0) ∧
    x.chs.phantomQueue = [] ∧ x.chs.locks = ⟨false, false, false, false, 0⟩ ∧
    (∀ m, (x.mix m).master = 192 ∧ (x.mix m).masterRamp = ⟨0, 0, 0, 0⟩ ∧ (x.mix m).offset = 0 ∧
      (x.mix m).pendingOffset = 0 ∧ (x.mix m).phase = .steady ∧ (x.mix m).dim = 137 ∧
      (x.mix m).dimRamp = ⟨65536, 65536, 0, 0⟩ ∧ (x.mix m).talkLevel = 192 ∧ (x.mix m).talkRamp = ⟨0, 0, 0, 0⟩ ∧
      (x.mix m).talkMask = 0 ∧ (x.mix m).contribs = [] ∧ (x.mix m).clip = false ∧ (x.mix m).version = 0 ∧
      (x.mix m).dest = .free) ∧
    x.mxe.free = 384 ∧
    (∀ src, x.tka.source src = ⟨none, 0, .none⟩) ∧ (∀ d, (x.dest d).state = .free ∧ (x.dest d).holder = none) ∧
    x.tka.openCounter = 0 ∧ x.tka.cfg = ⟨0, 192, 60, 0⟩ ∧ x.tka.cue = ⟨0, 0, 0, 0⟩ ∧
    x.mtu.accs = List.replicate 80 ⟨0, false⟩ ∧ x.mtu.rot = 0 ∧ x.mtu.table = List.replicate 80 ⟨0, false, 321⟩ ∧
    x.cmp.speed1 = st.speed1 ∧ x.cmp.speed0 = st.speed0 ∧ x.cmp.inFrame = false ∧ x.cmp.escape = false ∧
    x.cmp.executing = none ∧ x.cmp.staged = none ∧ x.cmp.replies = [] ∧ x.cmp.notices = [] ∧
    x.cmp.mask = List.replicate 14 true ∧ x.cmp.lossFlag = false ∧ x.cmp.lost = 0 ∧ x.cmp.sending = none ∧
    x.cmp.frameErrors = 0 ∧ x.cmp.repliesLost = 0 ∧ x.cmp.bytes = [] ∧ x.cmp.awaitIdle = false ∧ x.cmp.rxDue = none ∧
    x.cmp.hold = s.part.cmp.hold ∧ x.bus.freeCount = s.part.bus.freeCount

/-- The machine of the model starts in the values of power-on, strapped as STAGE at 115,200 bit/s with no input active (the
straps and the pins are the model's choice, log entry 5), with no command waiting. -/
def Obligations.ResetIsPowerOnOfStage : Prop :=
  exec (.resetPinRelease ⟨.stage, false, false⟩) State.reset = .next State.reset ∧ State.reset.pending = [] ∧
  core.reset = State.reset ∧
  State.reset.part.LinkInv ∧ State.reset.part.PhantomInv ∧ State.reset.part.PoolInv ∧ State.reset.part.ple.QueueInv ∧
  State.reset.part.QueueInv ∧ State.reset.part.PinInv ∧ State.reset.part.TalkInv

/-- The reset pin asserted stops every transmission at once, and while it stays asserted a sample event has no effect and no
frame is begun on the Control Message Port. While the reset pin is asserted no transmission begins, whatever command comes:
that nothing is sent is an invariant of every step. -/
def Obligations.ResetPinSilences : Prop :=
  ((∀ s : State, exec .resetPinAssert s =
     .next { s with part :=
       { s.part with
         dsc := { s.part.dsc with resetPin := true }
         pa := { s.part.pa with sentFrame := none }
         pb := { s.part.pb with sentFrame := none }
         cmp := { s.part.cmp with sending := none } } }) ∧
   ∀ s : State, s.part.dsc.resetPin = true →
     (∀ i, exec (.sampleEvent i) s = .next s) ∧ exec .transmitFrameStart s = .next s) ∧
  (∀ s t : State, s.part.PinInv → step s = .next t → t.part.PinInv)

/-- The role changes at power-on and at the release of the reset pin, and at no other command. -/
def Obligations.RoleKeptByEveryOtherCommand : Prop :=
  ∀ (c : Instr) (s t : State), (∀ st, c ≠ .powerOn st ∧ c ≠ .resetPinRelease st) → exec c s = .next t →
    t.part.dsc.role = s.part.dsc.role

/-! ### The sample event -/

/-- A sample event with nothing due performs one playout: by the pointer and its slot it is good or a gap, the slot is emptied
and the pointer advances, the conceal ramp takes its target and advances, and each slot's output is the chosen value scaled by
the ramp. What the Parameter Lane does at a sample event with nothing due. The resend timer counts; with a transmitter FULL the
PLE gives four symbols and the ack. A good playout then hands it the played frame's symbols, in order, and its ack, and at
STAGE the places freed are filled; at a gap, and with no pointer, a record in progress is broken and no ack is taken. A go-back
that comes due at this event and the ack may come in either order, as the input says. Last the quiet tail counts. This order
within the event (timer, symbols sent, playout, quiet tail) is the model's choice (log entry 7). The receive assembler takes
one symbol: idle fill ends the record in progress, another marker ends it and begins one of its kind; with the marker clear the
symbol is ignored while it is idle, and else is the sequence, then the length (above 40 the record is broken, at 0 it is
complete), then a body byte, the last of which completes the record. A record ended before it was complete is discarded and
counted as broken. -/
def Obligations.SampleEventPlaysOneFrame : Prop :=
  (∀ (i : SampleInput) (s : State), s.part.dsc.resetPin = false → s.part.Settled →
     ∃ x : Part, exec (.sampleEvent i) s = .next { s with part := x } ∧
       let fm := s.part.fmu
       let got : Option Frame := match fm.p with
         | some q => if (fm.slots.getD (q % 16) MergeSlot.empty).seq = some q
             then (fm.slots.getD (q % 16) MergeSlot.empty).stored else none
         | none => none
       let vals : List Sample := match got with
         | some f => f.audio
         | none => fm.lastGood
       x.fmu.p = fm.p.map (fun q => (q + 1) % 65536) ∧
       (∀ j, x.fmu.slots.getD j MergeSlot.empty =
         if fm.p.isSome = true ∧ j = fm.p.getD 0 % 16 then MergeSlot.empty else fm.slots.getD j MergeSlot.empty) ∧
       x.fmu.gaps = (if fm.p.isSome = true ∧ got.isNone = true then min 65535 (fm.gaps + 1) else fm.gaps) ∧
       x.fmu.conceal = (fm.conceal.retarget (if got.isSome then 65536 else 0)).advance ∧
       x.fmu.lastGood = vals ∧
       x.bus.played = vals.map (fun v => (v * x.fmu.conceal.cur + 32768) / 65536) ∧
       x.fmu.ref = fm.ref ∧ x.fmu.link = fm.link ∧ x.fmu.delay = fm.delay ∧ x.fmu.anchor = fm.anchor ∧
       x.fmu.reTotal = fm.reTotal) ∧
  (∀ (i : SampleInput) (s : State), s.part.dsc.resetPin = false → s.part.Settled →
     ∃ x : Part, exec (.sampleEvent i) s = .next { s with part := x } ∧
       let fm := s.part.fmu
       let got : Option Frame := match fm.p with
         | some q => if (fm.slots.getD (q % 16) MergeSlot.empty).seq = some q
             then (fm.slots.getD (q % 16) MergeSlot.empty).stored else none
         | none => none
       let l := s.part.ple
       let runs := (fm.link = .protect ∨ fm.link = .exposed) ∧ s.part.quiet = false ∧ 0 < l.inFlight
       let timed : Ple := if runs then { l with
           resendTimer := min 192 (l.resendTimer + 1), goBackDue := l.goBackDue || decide (192 ≤ l.resendTimer + 1) } else l
       let sent : Ple := if s.part.pa.tx = .full ∨ s.part.pb.tx = .full
         then { (Ple.takeSyms s.part.quiet 4 timed).2 with ackSent := (l.expSeq + 255) % 256 } else timed
       let tail (a : Ple) : Ple := if 1 < a.quietTail then { a with quietTail := a.quietTail - 1 }
         else if a.quietTail = 1 then { a with tailDue := true } else a
       (got = none → x.ple = tail (if sent.asm = .idle then sent
         else { sent with asm := .idle, broken := min 65535 (sent.broken + 1) })) ∧
       (∀ f, got = some f →
         let taken := f.syms.foldl (fun a y => a.takeIn y) sent
         let back : Ple := if i.expiryFirst = true ∧ taken.goBackDue = true ∧ 0 < taken.inFlight then { taken with
             cursor := some (0, 0), resendTimer := 0, goBacks := min 65535 (taken.goBacks + 1), goBackDue := false } else taken
         x.ple = tail (Part.refill { s.part with ple := back.takeAck s.part.quiet f.ack }).ple)) ∧
  (∀ (l : Ple) (y : Sym),
     let broken : Ple := if l.asm = .idle then l else { l with asm := .idle, broken := min 65535 (l.broken + 1) }
     (y.marker = true → y.data = 0 → l.takeIn y = broken) ∧
     (y.marker = true → y.data ≠ 0 → l.takeIn y = { broken with asm := .header y.data }) ∧
     (y.marker = false →
       (l.asm = .idle → l.takeIn y = l) ∧
       (∀ k, l.asm = .header k → l.takeIn y = { l with asm := .sequence k y.data }) ∧
       (∀ k q, l.asm = .sequence k q →
         (40 < y.data → l.takeIn y = broken) ∧
         (y.data = 0 → l.takeIn y = { l with asm := .idle, done := l.done ++ [⟨k, q, []⟩] }) ∧
         (1 ≤ y.data → y.data ≤ 40 → l.takeIn y = { l with asm := .body k q y.data [] })) ∧
       (∀ k q n bytes, l.asm = .body k q n bytes →
         (bytes.length + 1 < n → l.takeIn y = { l with asm := .body k q n (bytes ++ [y.data]) }) ∧
         (n ≤ bytes.length + 1 → l.takeIn y = { l with asm := .idle, done := l.done ++ [⟨k, q, bytes ++ [y.data]⟩] }))))

/-- A sample event with nothing due composes one frame with the transmit sequence, this end's role, restart flag,
restart-acknowledged flag and lane ack, and each transmitter sends it by its mode: nothing in OFF, the full frame in FULL, an
idle frame in BURST during the first 192 events of its cycle. At DESK the audio is the 8 returns and the FOH talk slot, which
is 0 unless the session mirror shows the session open; at STAGE the conditioned samples and the cue talk slot, with the meter
cell emitted. With a transmitter FULL the frame takes four lane symbols and the ack of the records applied before this event's
playout (log entries 2 and 7), and a record so taken is in flight with its sequence, the queue and the cursor as the symbols
leave them until a good playout's ack; with none FULL it takes none of them and repeats the last ack. The lane symbols. A
record goes as its kind with the marker flag, its sequence, its length and its body. The lane gives idle fill while quiet;
under the cursor, the next symbol of that record, after whose last symbol the cursor goes to the next record in flight, or else
to rest, before an unsent record too (the model's reading of R68, log entry 19); from rest, with fewer than 12 in flight, the
first symbol of the oldest unsent record, which takes the next sequence and goes in flight (the resend timer returns to 0 with
none in flight before); otherwise idle fill. What a sample event with nothing due leaves at the ports and in the cue slot: at
STAGE slot k of output port 0 carries the output of mix k and of port 1 that of mix 8 + k, the cue ramp advances, and the cue
talk slot is the talk sample of FOH CUE's holder, while it is HELD or FADING, scaled by the ramp and clamped; at DESK slot k of
port n carries played slot 8 n + k, and talk slot 0 the played cue talk slot. -/
def Obligations.SampleEventSendsOneFrame : Prop :=
  (∀ (i : SampleInput) (s : State), s.part.dsc.resetPin = false → s.part.Settled →
     ∃ (x : Part) (f : Frame), exec (.sampleEvent i) s = .next { s with part := x } ∧
       x.fmu.txSeq = (s.part.fmu.txSeq + 1) % 65536 ∧
       f.seq = s.part.fmu.txSeq ∧ f.role = s.part.dsc.role ∧ f.restart = s.part.dsc.restartFlag ∧
       f.restartAck = s.part.ple.ackRaised ∧ f.idle = false ∧
       (s.part.pa.tx = .full ∨ s.part.pb.tx = .full →
         f.ack = (s.part.ple.expSeq + 255) % 256 ∧ f.syms.length = 4 ∧
         f.syms = (Ple.takeSyms s.part.quiet 4 (s.part.ple.timerTick (s.part.fmu.link.up && !s.part.quiet))).1) ∧
       (s.part.pa.tx ≠ .full → s.part.pb.tx ≠ .full → f.ack = s.part.ple.ackSent ∧ f.syms = [] ∧ f.cell = none) ∧
       (let full := s.part.pa.tx = .full ∨ s.part.pb.tx = .full
        let timed := s.part.ple.timerTick (s.part.fmu.link.up && !s.part.quiet)
        let sent := if full then (Ple.takeSyms s.part.quiet 4 timed).2 else s.part.ple
        x.ple.nextSeq = sent.nextSeq ∧ x.ple.ackSent = (if full then f.ack else s.part.ple.ackSent) ∧
        ((∀ q, s.part.fmu.p = some q → (s.part.fmu.slots.getD (q % 16) MergeSlot.empty).seq ≠ some q) →
          x.ple.queue = sent.queue ∧ x.ple.cursor = sent.cursor)) ∧
       (s.part.dsc.role = .stage →
         x.bus.conditioned.length = s.part.chs.channels.length ∧
         f.audio = x.bus.conditioned.map (fun v => v.1) ++ [x.bus.cueSlot] ∧
         (s.part.pa.tx = .full ∨ s.part.pb.tx = .full → f.cell = x.bus.cellOut)) ∧
       (s.part.dsc.role = .desk →
         f.cell = none ∧
         f.audio = (List.range 8).map (fun n => slotSample ((i.ports.getD 0 []).getD n 0)) ++
           [if s.part.mirror.fohOpen then slotSample (i.talk.getD 0 0) else 0]) ∧
       (∀ p, (x.path p).tx = (s.part.path p).tx ∧
         (x.path p).sentFrame = match (s.part.path p).tx with
           | .off => none
           | .full => some f
           | .burst => if (s.part.path p).burstCounter < 192
               then some { f with idle := true, syms := [], audio := [], cell := none } else none)) ∧
  ((∀ (msg : LaneMsg) (seq : Nat), recordSyms msg seq =
     [⟨true, msg.kind⟩, ⟨false, seq⟩, ⟨false, msg.body.length⟩] ++ msg.body.map fun b => ⟨false, b⟩) ∧
   (∀ (l : Ple) (quiet : Bool), Ple.takeSyms quiet 4 l =
     let a := l.takeSym quiet
     let b := a.2.takeSym quiet
     let c := b.2.takeSym quiet
     let d := c.2.takeSym quiet
     ([a.1, b.1, c.1, d.1], d.2)) ∧
   ∀ l : Ple,
     l.takeSym true = (⟨true, 0⟩, l) ∧
     (∀ i pos r seq y, l.cursor = some (i, pos) → l.queue[i]? = some r → r.seq = some seq →
       (recordSyms r.msg seq)[pos]? = some y →
       l.takeSym false = (y, { l with cursor :=
         if pos + 1 < (recordSyms r.msg seq).length then some (i, pos + 1)
         else if ((l.queue[i + 1]?).bind LaneRec.seq).isSome = true then some (i + 1, 0) else none })) ∧
     (∀ sent r rest, l.cursor = none → l.queue = sent ++ r :: rest → (∀ o ∈ sent, o.seq ≠ none) → r.seq = none →
       l.inFlight < 12 →
       l.takeSym false = (⟨true, r.msg.kind⟩, { l with
         queue := sent ++ ⟨r.msg, some l.nextSeq⟩ :: rest
         nextSeq := (l.nextSeq + 1) % 256
         cursor := some (sent.length, 1)
         resendTimer := if l.inFlight = 0 then 0 else l.resendTimer })) ∧
     (l.cursor = none → (∀ r ∈ l.queue, r.seq ≠ none) ∨ 12 ≤ l.inFlight → l.takeSym false = (⟨true, 0⟩, l))) ∧
  (∀ (i : SampleInput) (s : State), s.part.dsc.resetPin = false → s.part.Settled →
     ∃ x : Part, exec (.sampleEvent i) s = .next { s with part := x } ∧
       (let slot (v : Sample) : Slot32 := BitVec.ofInt 32 (v * 256)
        (s.part.dsc.role = .stage →
           x.api.portsOut.length = 2 ∧
           (∀ p k, p < 2 → k < 8 →
             (x.api.portsOut.getD p []).getD k 0 = slot (x.bus.mixOut.getD (8 * p + k) (0, false, false)).1) ∧
           x.tka.cue = s.part.tka.cue.advance ∧
           (let talk : Sample := match (s.part.dest 16).state, (s.part.dest 16).holder with
             | .free, _ => 0
             | _, none => 0
             | _, some .foh => x.bus.played.getD 8 0
             | _, some .mon => slotSample (i.talk.getD 0 0)
             | _, some .stg => slotSample (i.talk.getD 1 0)
            x.bus.cueSlot = clampInt (-8388608) 8388607 ((talk * x.tka.cue.cur + 32768) / 65536))) ∧
        (s.part.dsc.role = .desk →
           x.api.portsOut.length = 8 ∧
           (∀ p k, p < 8 → k < 8 → (x.api.portsOut.getD p []).getD k 0 = slot (x.bus.played.getD (8 * p + k) 0)) ∧
           x.api.talkOut.length = 8 ∧ x.api.talkOut.getD 0 0 = slot (x.bus.played.getD 64 0) ∧
           ∀ k, 1 ≤ k → k < 8 → x.api.talkOut.getD k 0 = 0)))

/-- A sample event with nothing due at STAGE conditions every channel: its ramp advances, and its sample is the rounded shift
of the raw sample by the advanced ramp, inverted if set, clamped; the walk and phantom timers count down. -/
def Obligations.SampleEventConditionsChannels : Prop :=
  ∀ (i : SampleInput) (s : State), s.part.dsc.resetPin = false → s.part.Settled → s.part.dsc.role = .stage →
    ∃ x : Part, exec (.sampleEvent i) s = .next { s with part := x } ∧
      (∀ n, (x.channel n).ramp = (s.part.channel n).ramp.advance ∧
        (x.channel n).walkTimer = (s.part.channel n).walkTimer - 1 ∧
        (x.channel n).phantomTimer = (s.part.channel n).phantomTimer - 1 ∧
        (x.channel n).echo = (s.part.channel n).echo ∧ (x.channel n).gain = (s.part.channel n).gain) ∧
      ∀ n, n < s.part.chs.channels.length → n < 64 →
        let raw := slotSample ((i.ports.getD (n / 8) []).getD (n % 8) 0)
        let v := (raw * (x.channel n).ramp.cur + 32768) / 65536
        x.bus.conditioned[n]? =
          some (clampInt (-8388608) 8388607 (if (s.part.channel n).inverted then -v else v),
            raw == -8388608 || raw == 8388607)

/-- A sample event with nothing due at STAGE gives each mix its output: every ramp of the mix advances; in STANDBY and WAKING
with master and talk ramps standing at 0 it is 0; otherwise it is stages 2 to 6 of the mix computation, with the talk sample of
the destination's holder while it is HELD or FADING. -/
def Obligations.SampleEventMixes : Prop :=
  ∀ (i : SampleInput) (s : State), s.part.dsc.resetPin = false → s.part.Settled → s.part.dsc.role = .stage →
    ∃ x : Part, exec (.sampleEvent i) s = .next { s with part := x } ∧ x.bus.mixOut.length = 16 ∧
      ∀ m, m < 16 → m < s.part.mxe.mixes.length →
        let old := s.part.mix m
        let a : Int := (old.contribs.map fun c =>
          (match c.ref.bank with
            | .input => (x.bus.conditioned.getD ((old.offset + c.ref.idx) % 64) (0, false)).1
            | .ret => x.bus.played.getD c.ref.idx 0) * c.ramp.advance.cur).sum
        let b0 := (a + 32768) / 65536
        let b := clampInt (-134217728) 134217727 b0
        let level := (old.masterRamp.advance.cur * old.dimRamp.advance.cur + 32768) / 65536
        let talk : Int := match (s.part.dest m).state, (s.part.dest m).holder with
          | .free, _ => 0
          | _, none => 0
          | _, some .foh => x.bus.played.getD 8 0
          | _, some .mon => slotSample (i.talk.getD 0 0)
          | _, some .stg => slotSample (i.talk.getD 1 0)
        let y := (b * level + 32768) / 65536 + (talk * old.talkRamp.advance.cur + 32768) / 65536
        let out := clampInt (-8388608) 8388607 y
        let held := s.part.dsc.opState ≠ .operate ∧ old.masterRamp.cur = 0 ∧ old.masterRamp.count = 0 ∧
          old.talkRamp.cur = 0 ∧ old.talkRamp.count = 0
        (held → x.bus.mixOut[m]? = some (0, false, false) ∧ (x.mix m).clip = old.clip) ∧
        (¬ held → x.bus.mixOut[m]? = some (out, b != b0, out != y) ∧
          (x.mix m).clip = (old.clip || b != b0 || out != y)) ∧
        (x.mix m).masterRamp = old.masterRamp.advance ∧ (x.mix m).dimRamp = old.dimRamp.advance ∧
        (x.mix m).talkRamp = old.talkRamp.advance ∧
        (x.mix m).contribs.map (fun c => (c.ref, c.code, c.live, c.ramp)) =
          old.contribs.map (fun c => (c.ref, c.code, c.live, c.ramp.advance)) ∧
        (x.mix m).echo = old.echo

/-- A sample event with nothing due at STAGE: every accumulator takes the greater of its peak and the level of its channel's
conditioned sample or its mix's output, and the clip indication of either; one cell is emitted, the cell of the rotation
position, whose accumulator starts again, the rotation advances; the input says which of accumulation and emission comes first;
the cell's entry of the STAGE table takes the greater level and the clip and age 0; every other entry ages by 1 to at most 321.
A sample event with nothing due at DESK accumulates and emits nothing: every table entry ages by 1 to at most 321, with no
pointer and at a gap too, and the cell of the frame that plays gives its entry the greater level and the clip, and age 0 unless
the link is SEVERED, when the age stands as it was aged. A sample event with nothing due at STAGE queues one CLIP notice,
naming the clamps that acted, for each mix one of whose clamps acts while its clip flag is clear, in mix order (the order is
the model's choice, log entry 39), and no other notice. -/
def Obligations.SampleEventEmitsMeterCell : Prop :=
  (∀ (i : SampleInput) (s : State), s.part.dsc.resetPin = false → s.part.Settled → s.part.dsc.role = .stage →
     ∃ (x : Part) (c : MeterCell), exec (.sampleEvent i) s = .next { s with part := x } ∧
       x.bus.cellOut = some c ∧ c.index = s.part.mtu.rot ∧
       x.mtu.rot = (if s.part.mtu.rot < 79 then s.part.mtu.rot + 1 else 0) ∧
       (let took (n : Nat) (a : Acc) : Acc :=
         let v : Sample × Bool := if n < 64 then x.bus.conditioned.getD n (0, false)
           else ((x.bus.mixOut.getD (n - 64) (0, false, false)).1,
             (x.bus.mixOut.getD (n - 64) (0, false, false)).2.1 || (x.bus.mixOut.getD (n - 64) (0, false, false)).2.2)
         ⟨max a.peak (min 8388607 v.1.natAbs), a.clip || v.2⟩
        ∀ n a, s.part.mtu.accs[n]? = some a →
         (i.emitFirst = true →
           (n = s.part.mtu.rot → c.level = a.peak / 128 ∧ c.clip = a.clip) ∧
           x.mtu.accs[n]? = some (if n = s.part.mtu.rot then took n ⟨0, false⟩ else took n a)) ∧
         (i.emitFirst = false →
           (n = s.part.mtu.rot → c.level = (took n a).peak / 128 ∧ c.clip = (took n a).clip) ∧
           x.mtu.accs[n]? = some (if n = s.part.mtu.rot then ⟨0, false⟩ else took n a))) ∧
       ∀ n e, s.part.mtu.table[n]? = some e →
         x.mtu.table[n]? = some (if n = c.index then ⟨max e.level c.level, e.clip || c.clip, 0⟩
           else ⟨e.level, e.clip, min 321 (e.age + 1)⟩)) ∧
  (∀ (i : SampleInput) (s : State), s.part.dsc.resetPin = false → s.part.Settled → s.part.dsc.role = .desk →
     ∃ x : Part, exec (.sampleEvent i) s = .next { s with part := x } ∧
       x.mtu.accs = s.part.mtu.accs ∧ x.mtu.rot = s.part.mtu.rot ∧ x.cmp = s.part.cmp ∧
       let fm := s.part.fmu
       let got : Option Frame := match fm.p with
         | some q => if (fm.slots.getD (q % 16) MergeSlot.empty).seq = some q
             then (fm.slots.getD (q % 16) MergeSlot.empty).stored else none
         | none => none
       ∀ n e, s.part.mtu.table[n]? = some e →
         let age := min 321 (e.age + 1)
         (∀ f c, got = some f → f.cell = some c → c.index = n →
           x.mtu.table[n]? =
             some ⟨max e.level c.level, e.clip || c.clip, if fm.link = .severed then age else 0⟩) ∧
         ((∀ f c, got = some f → f.cell = some c → c.index ≠ n) →
           x.mtu.table[n]? = some ⟨e.level, e.clip, age⟩)) ∧
  (∀ (i : SampleInput) (s : State), s.part.dsc.resetPin = false → s.part.Settled → s.part.dsc.role = .stage →
     ∃ x : Part, exec (.sampleEvent i) s = .next { s with part := x } ∧
       x.cmp = (List.range 16).foldl (fun c m =>
         let out := x.bus.mixOut.getD m (0, false, false)
         if (out.2.1 = true ∨ out.2.2 = true) ∧ (s.part.mix m).clip = false then c.notify (.clip m out.2.1 out.2.2) else c)
         s.part.cmp)

/-- A sample event with nothing due counts the part's timers: the wake timer in WAKING, each path's step timer while ACQUIRING
and silence timer while usable, its burst cycle counter in BURST, and at STAGE the latch timer of each LATCHED session. A
sample event with nothing due sends and removes the oldest preamp record. When a sample event with nothing due brings a step
due, on the paths and the clock: a light window ends at its 48th event and an error window at its 4,800th; silence at the limit
of Table 2-4, on a usable path; the dark timer runs to 96,000 in DARK in OPERATE on an enabled path; with the external word
clock a window opens at the first event and ends at every 48th after it. The events are counted from power-on or the change of
source (log entries 20 and 33). When a sample event with nothing due brings a step due, on the lane: the quiet tail decreases
by 1 at the event's playout, and its end comes due at the last; the resend timer runs with the link up, the lane not quiet and
a record in flight, and at 192 the go-back comes due. A record that goes in flight into an empty window at this event returns
it to 0, and so does an ack that removes records, which calls a go-back that came due back. The values are said for a gap, for
no pointer, and for a good playout before whose ack no go-back is taken; that the timer counts first, then the symbols are
taken, then the ack, is the model's choice (log entry 7). When a sample event with nothing due at STAGE brings a step due, in
the tables: a walk step with the walk timer at 0 and the applied gain off its target; a latched session's close at its limit
times 48,000 events; the freeing of a RETIRING contribution whose ramp then stands at 0; the end of LEAVING with every INPUT
contribution at 0, and of ARRIVING with every LIVE one settled; the end of a fade with the destination's talk ramp, or the cue
ramp, standing at 0. -/
def Obligations.SampleEventCountsTimers : Prop :=
  (∀ (i : SampleInput) (s : State), s.part.dsc.resetPin = false → s.part.Settled →
     ∃ x : Part, exec (.sampleEvent i) s = .next { s with part := x } ∧
       x.dsc = (if s.part.dsc.opState = .waking then { s.part.dsc with wakeTimer := s.part.dsc.wakeTimer - 1 } else s.part.dsc) ∧
       (∀ p, (x.path p).state = (s.part.path p).state ∧ (x.path p).step = (s.part.path p).step ∧
         (x.path p).stepTimer = (s.part.path p).stepTimer + (if (s.part.path p).state = .acquiring then 1 else 0) ∧
         (x.path p).silenceTimer = (s.part.path p).silenceTimer + (if (s.part.path p).usable then 1 else 0) ∧
         (x.path p).burstCounter = (s.part.path p).burstCounter + (if (s.part.path p).tx = .burst then 1 else 0)) ∧
       (s.part.dsc.role = .stage → ∀ src, (x.session src).map (fun z => (z.echo, z.order, z.latchTimer)) =
         (s.part.session src).map (fun z => (z.echo, z.order, if z.latched then z.latchTimer + 1 else z.latchTimer))) ∧
       (s.part.dsc.role = .desk → x.tka = s.part.tka ∧ x.chs = s.part.chs ∧ x.mxe = s.part.mxe)) ∧
  (∀ (i : SampleInput) (s : State), s.part.dsc.resetPin = false → s.part.Settled →
     ∃ x : Part, exec (.sampleEvent i) s = .next { s with part := x } ∧
       x.api.queue = s.part.api.queue.tail ∧ x.api.sent = s.part.api.queue.head?) ∧
  (∀ (i : SampleInput) (s : State), s.part.dsc.resetPin = false → s.part.Settled →
     ∃ x : Part, exec (.sampleEvent i) s = .next { s with part := x } ∧
       (∀ p,
         let c := s.part.path p
         let limit := match c.cfg.silenceSel with
           | 0 => 24
           | 1 => 48
           | 2 => 96
           | _ => 192
         ((x.path p).lightDue = true ↔ 47 ≤ c.lightPos) ∧ (x.path p).lightPos = (if c.lightPos < 47 then c.lightPos + 1 else 0) ∧
         ((x.path p).errDue = true ↔ 4799 ≤ c.errPos) ∧ (x.path p).errPos = (if c.errPos < 4799 then c.errPos + 1 else 0) ∧
         (c.cfg.silenceSel ≤ 3 → ((x.path p).silenceDue = true ↔ c.usable = true ∧ limit ≤ c.silenceTimer + 1)) ∧
         (x.path p).darkTimer = (if c.state = .dark ∧ s.part.dsc.opState = .operate ∧ c.cfg.enabled = true
           then min 96000 (c.darkTimer + 1) else c.darkTimer)) ∧
       x.scu = (if s.part.scu.source = .loc then s.part.scu
         else if s.part.scu.winOpen = false then { s.part.scu with winOpen := true, winPos := 0, edges := 0 }
         else if s.part.scu.winPos < 47 then { s.part.scu with winPos := s.part.scu.winPos + 1 }
         else { s.part.scu with winPos := 0, winDue := true })) ∧
  (∀ (i : SampleInput) (s : State), s.part.dsc.resetPin = false → s.part.Settled →
     ∃ x : Part, exec (.sampleEvent i) s = .next { s with part := x } ∧
       (s.part.ple.quietTail = 0 → x.ple.quietTail = 0 ∧ x.ple.tailDue = s.part.ple.tailDue) ∧
       (s.part.ple.quietTail = 1 → x.ple.quietTail = 1 ∧ x.ple.tailDue = true) ∧
       (1 < s.part.ple.quietTail → x.ple.quietTail = s.part.ple.quietTail - 1 ∧ x.ple.tailDue = s.part.ple.tailDue) ∧
       (let fm := s.part.fmu
        let got : Option Frame := match fm.p with
         | some q => if (fm.slots.getD (q % 16) MergeSlot.empty).seq = some q
             then (fm.slots.getD (q % 16) MergeSlot.empty).stored else none
         | none => none
        let full := s.part.pa.tx = .full ∨ s.part.pb.tx = .full
        let l := s.part.ple
        let sent := if full then (Ple.takeSyms s.part.quiet 4 l).2 else l
        let names (f : Frame) : Prop := s.part.quiet = false ∧ ∃ r ∈ sent.queue, r.seq = some f.ack
        let runs := (fm.link = .protect ∨ fm.link = .exposed) ∧ s.part.quiet = false ∧ 0 < l.inFlight
        ((∀ f, got = some f → i.expiryFirst = false ∧ ¬ names f) →
         (runs → x.ple.resendTimer = min 192 (l.resendTimer + 1) ∧
           (x.ple.goBackDue = true ↔ l.goBackDue = true ∨ 192 ≤ l.resendTimer + 1)) ∧
         (¬ runs → x.ple.goBackDue = l.goBackDue) ∧
         (¬ runs → 0 < l.inFlight ∨ s.part.quiet = true ∨ ¬ full ∨ l.queue = [] → x.ple.resendTimer = l.resendTimer) ∧
         (l.inFlight = 0 → s.part.quiet = false → full → l.queue ≠ [] → l.cursor = none → x.ple.resendTimer = 0)) ∧
        (∀ f, got = some f → i.expiryFirst = false → names f → x.ple.resendTimer = 0 ∧ x.ple.goBackDue = false))) ∧
  (∀ (i : SampleInput) (s : State), s.part.dsc.resetPin = false → s.part.Settled → s.part.dsc.role = .stage →
     ∃ x : Part, exec (.sampleEvent i) s = .next { s with part := x } ∧
       (∀ n, n < s.part.chs.channels.length → ((x.channel n).walkDue = true ↔
         (s.part.channel n).walkTimer ≤ 1 ∧ (s.part.channel n).gain ≠ (s.part.channel n).gainTarget)) ∧
       (∀ src z, s.part.session src = some z → ∃ y, x.session src = some y ∧
         (y.latchDue = true ↔ z.latchDue = true ∨ (z.latched = true ∧ s.part.tka.cfg.limit * 48000 ≤ z.latchTimer + 1))) ∧
       (∀ m, m < 16 → m < s.part.mxe.mixes.length →
         let z := s.part.mix m
         (x.mix m).contribs.map (fun c => c.freeDue) =
           z.contribs.map (fun c => !c.live && decide (c.ramp.advance.cur = 0)) ∧
         ((x.mix m).leavingDue = true ↔ z.phase = .leaving ∧
           ∀ c ∈ z.contribs, c.ref.bank = .input → c.ramp.advance.cur = 0) ∧
         ((x.mix m).arrivingDue = true ↔ z.phase = .arriving ∧
           ∀ c ∈ z.contribs, c.ref.bank = .input → c.live = true →
             c.ramp.advance.count = 0 ∧ c.ramp.advance.cur = c.ramp.advance.target) ∧
         (m < s.part.tka.dests.length → ((x.dest m).fadeDue = true ↔ (s.part.dest m).fadeDue = true ∨
           ((s.part.dest m).state = .fading ∧ z.talkRamp.advance.cur = 0 ∧ z.talkRamp.advance.count = 0)))) ∧
       (16 < s.part.tka.dests.length → ((x.dest 16).fadeDue = true ↔ (s.part.dest 16).fadeDue = true ∨
         ((s.part.dest 16).state = .fading ∧ s.part.tka.cue.advance.cur = 0 ∧ s.part.tka.cue.advance.count = 0))))

/-! ### Fibre frames and the merge -/

/-- A bad frame with nothing due is counted in every state but DISABLED and DARK, returns the consecutive-frame count to 0 at
LOCK and IDENT, and does nothing else. A good frame with nothing due on a path that is not usable, or of this end's own role:
DISABLED, DARK and MISMATCHED ignore it; LOCK counts it; IDENT counts it with the far role and keeps its two flags, or goes to
MISMATCHED with cause ROLE on this end's own role; ALIGN ignores an idle frame; a usable path goes to MISMATCHED on the own
role, and the frame does nothing else (the model's choice, log entry 46). That LOCK changes nothing but the count, the far role
standing, is the model's reading (log entry 31). -/
def Obligations.FramesBeforeService : Prop :=
  (∀ (p : Path) (bits : List Bool) (s : State), s.part.FrameReady p → decodeFrame s.part.dsc.role bits = none →
     exec (.frameReceived p bits) s = .next { s with part := s.part.onPath p fun c =>
       { c with
         badCount := if c.state = .disabled ∨ c.state = .dark then c.badCount else min 65535 (c.badCount + 1)
         count := if c.state = .acquiring ∧ c.step ≠ .align then 0 else c.count } }) ∧
  (∀ (p : Path) (bits : List Bool) (f : Frame) (s : State), s.part.FrameReady p →
     decodeFrame s.part.dsc.role bits = some f →
     ((s.part.path p).state = .disabled ∨ (s.part.path p).state = .dark ∨ (s.part.path p).state = .mismatched →
       exec (.frameReceived p bits) s = .next s) ∧
     ((s.part.path p).state = .acquiring → (s.part.path p).step = .lock →
       exec (.frameReceived p bits) s = .next { s with part := s.part.onPath p fun c => { c with count := c.count + 1 } }) ∧
     ((s.part.path p).state = .acquiring → (s.part.path p).step = .ident → f.role ≠ s.part.dsc.role →
       exec (.frameReceived p bits) s = .next { s with part := s.part.onPath p fun c =>
         { c with count := c.count + 1, farRole := some f.role, identFlags := some (f.restart, f.restartAck) } }) ∧
     ((s.part.path p).state = .acquiring ∧ (s.part.path p).step = .ident ∨ (s.part.path p).usable = true →
       f.role = s.part.dsc.role →
       exec (.frameReceived p bits) s = .next { s with part := (s.part.onPath p fun c =>
         { c with
           state := .mismatched, cause := .role, farRole := some f.role, step := .none, count := 0, stepTimer := 0
           identFlags := none, silenceDue := false, recovery := 0 }).report s.part }) ∧
     ((s.part.path p).state = .acquiring → (s.part.path p).step = .align → f.idle = true →
       exec (.frameReceived p bits) s = .next s))

/-- A good full frame of the far role with nothing due on a usable path, its flags asking for nothing, with the playout pointer
set and no anchoring pending: the silence timer returns to 0 and the arrival is judged by its distance from the pointer: late
from 32,768 (counted for the path), early from 16 (counted by the FMU), placed below. From the reference path the arrival is
handed to the FMU, which judges it so and keeps the re-anchor count. An arrival in the window takes an empty or stale slot as
its first copy, is noted as the second path's copy of a slot that holds its sequence, and is counted as a duplicate where its
own path's copy is already there; no other slot changes. -/
def Obligations.ArrivalJudgedByDistance : Prop :=
  (∀ (p : Path) (bits : List Bool) (f : Frame) (q : Nat) (s : State), s.part.FrameReady p →
     decodeFrame s.part.dsc.role bits = some f → f.idle = false → f.role ≠ s.part.dsc.role →
     (s.part.path p).usable = true →
     ((s.part.path p).state = .inService → f.restart = false ∧ s.part.ple.episode = false ∧
       (f.restartAck = false ∨ s.part.dsc.restartFlag = false)) →
     s.part.fmu.anchor = none → s.part.fmu.p = some q →
     let x := s.part.onPath p fun c => { c with silenceTimer := 0 }
     let d := (f.seq + 65536 - q) % 65536
     let y :=
       if 32768 ≤ d then x.onPath p fun c => { c with lateCount := min 65535 (c.lateCount + 1) }
       else if 16 ≤ d then { x with fmu := match p with
         | .a => { x.fmu with earlyA := min 65535 (x.fmu.earlyA + 1) }
         | .b => { x.fmu with earlyB := min 65535 (x.fmu.earlyB + 1) } }
       else { x with fmu := x.fmu.place p f }
     (s.part.fmu.ref ≠ some p → exec (.frameReceived p bits) s = .next { s with part := y }) ∧
     (s.part.fmu.ref = some p → exec (.frameReceived p bits) s = .next { s with part := (x.arrive p f).2 })) ∧
  (∀ (p : Path) (f : Frame) (fm : Fmu), f.seq % 16 < fm.slots.length →
     let slot := fm.slots.getD (f.seq % 16) MergeSlot.empty
     let now := (fm.place p f).slots.getD (f.seq % 16) MergeSlot.empty
     (slot.seq ≠ some f.seq → now = ⟨some f.seq, p == .a, p == .b, some f⟩) ∧
     (slot.seq = some f.seq → now.seq = slot.seq ∧ now.stored = slot.stored ∧
       now.goodA = (slot.goodA || p == .a) ∧ now.goodB = (slot.goodB || p == .b)) ∧
     (∀ j, j ≠ f.seq % 16 → (fm.place p f).slots[j]? = fm.slots[j]?) ∧
     (slot.seq = some f.seq → slot.good p = true → (fm.place p f).slots = fm.slots) ∧
     (fm.place p f).dupA = (if slot.seq = some f.seq ∧ p = .a ∧ slot.goodA = true then min 65535 (fm.dupA + 1) else fm.dupA) ∧
     (fm.place p f).dupB = (if slot.seq = some f.seq ∧ p = .b ∧ slot.goodB = true then min 65535 (fm.dupB + 1) else fm.dupB) ∧
     (fm.place p f).p = fm.p)

/-- Where an arrival at distance 0 and the playout of the same event meet, either order leaves the slot empty and the pointer
one higher; with the arrival first its frame plays as a good frame, with the playout first the arrival is then at distance
65535. An arrival at distance 1 to 15 has another slot than the one played. -/
def Obligations.ArrivalAndPlayoutInEitherOrder : Prop :=
  ∀ (p : Path) (f : Frame) (fm : Fmu), f.seq < 65536 → fm.slots.length = 16 → fm.p = some f.seq →
    ((fm.slots.getD (f.seq % 16) MergeSlot.empty).seq = some f.seq →
      (fm.slots.getD (f.seq % 16) MergeSlot.empty).stored.isSome = true) →
    let first := (fm.place p f).playout
    let second := fm.playout.2
    first.1.isSome = true ∧
    ((fm.slots.getD (f.seq % 16) MergeSlot.empty).seq ≠ some f.seq → first.1 = some f) ∧
    first.2.slots.getD (f.seq % 16) MergeSlot.empty = MergeSlot.empty ∧ first.2.p = some ((f.seq + 1) % 65536) ∧
    second.slots.getD (f.seq % 16) MergeSlot.empty = MergeSlot.empty ∧ second.p = some ((f.seq + 1) % 65536) ∧
    fm.playout.1 = (if (fm.slots.getD (f.seq % 16) MergeSlot.empty).seq = some f.seq
      then (fm.slots.getD (f.seq % 16) MergeSlot.empty).stored else none) ∧
    distance f.seq ((f.seq + 1) % 65536) = 65535 ∧
    (∀ x : Part, x.judgeArrival p f (distance f.seq ((f.seq + 1) % 65536)) =
      x.onPath p fun c => { c with lateCount := min 65535 (c.lateCount + 1) }) ∧
    ∀ q, q < 65536 → 1 ≤ distance f.seq q → distance f.seq q ≤ 15 → f.seq % 16 ≠ q % 16

/-- Re-anchoring: an arrival from the reference path is judged as any other (late, early or placed in its slot, and counted),
and at distance 1 to 15 returns the re-anchor count to 0; any other raises it by 1; RE_ANCHOR, on the arrival that brought it
to 48, sets the pointer to that arrival's sequence less D and stores it. Between the two the arrival waits, with the count at
48 and the pointer where it stood, not placed at distance 0 (the model's reading, log entry 13). While anchoring is pending,
the first arrival from the anchoring path sets the pointer to its sequence less D and is stored at distance D; arrivals from
the other path, and every arrival with no pointer and no anchoring, are dropped uncounted. -/
def Obligations.PointerAnchored : Prop :=
  ((∀ (p : Path) (f : Frame) (q : Nat) (x : Part), x.fmu.anchor = none → x.fmu.p = some q → x.fmu.ref = some p →
     x.fmu.reCount < 48 →
     let d := (f.seq + 65536 - q) % 65536
     let y := (x.arrive p f).2
     (x.arrive p f).1 = some d ∧
     y.fmu.reCount = (if 1 ≤ d ∧ d ≤ 15 then 0 else x.fmu.reCount + 1) ∧ y.fmu.p = some q ∧
     (y.fmu.reCount = 48 → y.fmu.reArrival = some (p, f)) ∧
     (let judged :=
       if 32768 ≤ d then x.onPath p fun c => { c with lateCount := min 65535 (c.lateCount + 1) }
       else if 16 ≤ d then { x with fmu := match p with
         | .a => { x.fmu with earlyA := min 65535 (x.fmu.earlyA + 1) }
         | .b => { x.fmu with earlyB := min 65535 (x.fmu.earlyB + 1) } }
       else { x with fmu := x.fmu.place p f }
      (1 ≤ d ∧ d ≤ 15 ∨ x.fmu.reCount < 47 → y = { judged with fmu :=
       { judged.fmu with reCount := if 1 ≤ d ∧ d ≤ 15 then 0 else x.fmu.reCount + 1 } }) ∧
      (15 < d → x.fmu.reCount = 47 → y = { judged with fmu := { judged.fmu with reCount := 48, reArrival := some (p, f) } }) ∧
      (d = 0 → x.fmu.reCount = 47 → y = { x with fmu := { x.fmu with reCount := 48, reArrival := some (p, f) } }))) ∧
   ∀ (p : Path) (f : Frame) (s : State), s.part.fmu.reArrival = some (p, f) →
     let fm : Fmu :=
       { s.part.fmu with
         p := some ((f.seq + 65536 - s.part.fmu.delay) % 65536)
         reCount := 0
         reTotal := min 65535 (s.part.fmu.reTotal + 1)
         reArrival := none }
     exec .reAnchor s = .next { s with part := { s.part with fmu := fm.place p f } }) ∧
  (∀ (p : Path) (f : Frame) (x : Part),
     let fm : Fmu :=
       { x.fmu with
         p := some ((f.seq + 65536 - x.fmu.delay) % 65536)
         anchor := none
         reCount := 0
         reArrival := none }
     (x.fmu.anchor = some p → x.arrive p f = (some x.fmu.delay, { x with fmu := fm.place p f })) ∧
     (x.fmu.anchor = some (otherPath p) → x.arrive p f = (none, x)) ∧
     (x.fmu.anchor = none → x.fmu.p = none → x.arrive p f = (none, x)))

/-- A good frame, idle or full, with nothing due, on an IN_SERVICE path: what its flags do comes first, and then a full frame's
arrival (they touch no field in common). The far end's restart flag raised outside an episode: the acknowledgement is raised,
the episode begins, the lane is emptied and its sequences return to 0; the DESK mirror becomes INVALID with every entry
unknown, MIRROR_STATE before LANE_RESET and at STAGE TALK_STATE before it too (the model's choice, log entry 11); the STAGE
closes the FOH session with reason LINK, its destinations FADING, queues LANE_RESET and dumps DUMP_BEGIN and the first 31
channels. An acknowledgement in the same frame, while this end's restart flag is raised, acts after it (the model's choice, log
entry 37). IDENT_STEP_COMPLETE with the far restart flag raised, outside an episode: the restart is handled before ALIGN is
judged, as on an IN_SERVICE path. With no path usable the path is then IN_SERVICE at once: the DESK queues MIRROR_STATE (unless
INVALID already), LANE_RESET, PATH_STATE and LINK_STATE, in this order, and the STAGE starts its dump and locks its clock to
the path. On an IN_SERVICE path with nothing to handle: the far flag raised inside an episode raises the acknowledgement again
and does nothing else; the far flag down ends an episode: mark cleared, acknowledgement lowered, quiet tail 16; and an
acknowledgement, while this end's restart flag is raised, lowers the flag, answers a held LINK_RESET OK and sets the quiet tail
to 16; the STAGE also starts its dump, which empties the queue and puts DUMP_BEGIN and the first 31 channels in it. -/
def Obligations.RestartHandshake : Prop :=
  (∀ (p : Path) (bits : List Bool) (f : Frame) (s : State), s.part.FrameReady p →
     decodeFrame s.part.dsc.role bits = some f → f.role ≠ s.part.dsc.role →
     (s.part.path p).state = .inService → f.restart = true → s.part.ple.episode = false →
     let acked := f.restartAck = true ∧ s.part.dsc.restartFlag = true
     let held : List Reply := match s.part.dsc.heldLink with
       | some tag => if acked then [⟨tag, .ok, .none⟩] else []
       | none => []
     ∃ x : Part, exec (.frameReceived p bits) s = .next { s with part := if f.idle = true then x else (x.arrive p f).2 } ∧
       x.dsc = (if acked then { s.part.dsc with restartFlag := false, heldLink := none } else s.part.dsc) ∧
       (∀ k, x.path k = if k = p then { s.part.path p with silenceTimer := 0 } else s.part.path k) ∧
       x.fmu = s.part.fmu ∧ x.chs = s.part.chs ∧
       x.ple.ackRaised = true ∧ x.ple.episode = true ∧ x.ple.nextSeq = 0 ∧ x.ple.expSeq = 0 ∧ x.ple.cursor = none ∧
       x.ple.resendTimer = 0 ∧ x.ple.asm = .idle ∧ x.ple.marks = [] ∧
       x.ple.quietTail = (if acked then 16 else s.part.ple.quietTail) ∧
       (s.part.dsc.role = .desk →
         x.ple.queue = [] ∧ x.mirror = { Mirror.powerOn with state := .invalid } ∧ x.tka = s.part.tka ∧
         x.cmp = (let c := if s.part.mirror.state = .invalid then s.part.cmp
                   else s.part.cmp.notify (.mirrorState .invalid s.part.mirror.state)
                  { c.notify (.laneReset .farRestart s.part.ple.queue.length) with replies := s.part.cmp.replies ++ held })) ∧
       (s.part.dsc.role = .stage →
         x.session .foh = none ∧ (s.part.session .foh = none → x.tka = s.part.tka) ∧
         (s.part.TalkInv →
           (∀ z, s.part.session .foh = some z →
             x.tka.foh = ⟨none, (s.part.tka.foh.version + 1) % 65536, .link⟩ ∧
             ∀ d, d < 17 → x.dest d =
               if z.granted.testBit d = true then ⟨.fading, some .foh, false⟩ else s.part.dest d) ∧
           (∀ src, src ≠ .foh → x.tka.source src = s.part.tka.source src) ∧
           (∀ d, d < 17 → x.dest d ≠ s.part.dest d → x.TargetsFollow d) ∧
           x.cmp = { (x.talkTold s.part .link [.foh]).notify (.laneReset .farRestart s.part.ple.queue.length) with
             replies := s.part.cmp.replies ++ held }) ∧
         x.ple.dump = .channel 31 ∧
         x.ple.queue = ⟨.dumpBegin, none⟩ ::
           (List.range 31).map fun n => ⟨.echoChannel n (s.part.channel n).echo, none⟩)) ∧
  (∀ (p : Path) (ack : Bool) (s : State), s.part.LinkInv → (s.part.path p).state = .acquiring → (s.part.path p).step = .ident →
     8 ≤ (s.part.path p).count → (s.part.path p).identFlags = some (true, ack) → s.part.ple.episode = false →
     ∃ x : Part, exec (.identStepComplete p) s = .next { s with part := x } ∧
       x.ple.ackRaised = true ∧ x.ple.episode = true ∧ x.ple.nextSeq = 0 ∧ x.ple.expSeq = 0 ∧ x.ple.cursor = none ∧
       x.ple.resendTimer = 0 ∧ x.ple.asm = .idle ∧ x.ple.marks = [] ∧ x.dsc = s.part.dsc ∧
       (s.part.anyUsable = true → (x.path p).state = .acquiring ∧ (x.path p).step = .align ∧ (x.path p).count = 0) ∧
       (s.part.dsc.role = .desk →
         x.ple.queue = [] ∧ x.mirror = { Mirror.powerOn with state := .invalid } ∧
         (s.part.anyUsable = false → (s.part.path (otherPath p)).atAlign = false →
           x.cmp = ((if s.part.mirror.state = .invalid then [] else [Notice.mirrorState .invalid s.part.mirror.state]) ++
             [Notice.laneReset .farRestart s.part.ple.queue.length, Notice.pathState p .inService .acquiring .bringup none,
              Notice.linkState .exposed s.part.fmu.link (some p) (p == .a) (p == .b)]).foldl
               (fun c n => c.notify n) s.part.cmp)) ∧
       (s.part.dsc.role = .stage →
         x.session .foh = none ∧ x.ple.dump = .channel 31 ∧
         x.ple.queue = ⟨.dumpBegin, none⟩ ::
           (List.range 31).map (fun n => ⟨.echoChannel n (s.part.channel n).echo, none⟩) ∧
         (s.part.anyUsable = false → (s.part.path (otherPath p)).atAlign = false → x.scu.lock = .locked)) ∧
       (s.part.anyUsable = false → (s.part.path (otherPath p)).atAlign = false →
         (x.path p).state = .inService ∧ x.fmu.anchor = some p ∧ x.fmu.link = .exposed ∧ x.fmu.ref = some p)) ∧
  (∀ (p : Path) (bits : List Bool) (f : Frame) (s : State), s.part.FrameReady p →
     decodeFrame s.part.dsc.role bits = some f → f.role ≠ s.part.dsc.role →
     (s.part.path p).state = .inService → f.restart = false ∨ s.part.ple.episode = true →
     let acked := f.restartAck = true ∧ s.part.dsc.restartFlag = true
     let arrived (y : Part) : State := { s with part := if f.idle = true then y else (y.arrive p f).2 }
     let x := s.part.onPath p fun c => { c with silenceTimer := 0 }
     let heard : Ple := if f.restart = true then { x.ple with ackRaised := true }
       else if s.part.ple.episode = true then { x.ple with episode := false, ackRaised := false, quietTail := 16, tailDue := false }
       else x.ple
     let lowered : Part :=
       { x with
         dsc := { x.dsc with restartFlag := false, heldLink := none }
         cmp := { x.cmp with replies := x.cmp.replies ++ (match s.part.dsc.heldLink with
           | some tag => [⟨tag, .ok, .none⟩]
           | none => []) } }
     (¬ acked → exec (.frameReceived p bits) s = .next (arrived { x with ple := heard })) ∧
     (acked → s.part.dsc.role = .desk →
       exec (.frameReceived p bits) s = .next (arrived { lowered with ple := { heard with quietTail := 16, tailDue := false } })) ∧
     (acked → s.part.dsc.role = .stage →
       exec (.frameReceived p bits) s = .next (arrived { lowered with
         ple := { heard with
           quietTail := 16
           tailDue := false
           queue := ⟨.dumpBegin, none⟩ :: (List.range 31).map fun n => ⟨.echoChannel n (s.part.channel n).echo, none⟩
           marks := []
           cursor := none
           goBackDue := false
           dump := .channel 31 } })))

/-- IDENT_STEP_COMPLETE with the far flag down makes the step ALIGN and reports it; with no path usable, the path becomes
IN_SERVICE at once, with cause BRINGUP and zero error counts, as the anchoring path of an EXPOSED link. At ALIGN, with nothing
due, a good full frame is offered; ALIGN completes at a reported distance of 1 to 15, with cause BRINGUP, zero error counts and
silence timer, and the change is reported; at any other the path stays, and what the FMU did with the arrival stands. SET_STATE
STANDBY at a ready DESK port in OPERATE, with one path usable and the other at ALIGN: STANDBY takes the last usable path, so
ALIGN completes at that event, and the served path then goes to DARK as every enabled path does: path A's notice of the first
two comes before path B's, then the served path's, then LINK_STATE (how the two meet is the model's choice, log entry 10). -/
def Obligations.AlignStepCompletes : Prop :=
  (∀ (p : Path) (s : State), (s.part.path p).state = .acquiring → (s.part.path p).step = .ident →
     8 ≤ (s.part.path p).count → (∀ fl, (s.part.path p).identFlags = some fl → fl.1 = false) →
     exec (.identStepComplete p) s = .next { s with part := (s.part.onPath p fun c =>
       { c with step := .align, count := 0, stepTimer := 0, identFlags := none }).report s.part } ∧
     (s.part.anyUsable = false → (s.part.path (otherPath p)).atAlign = false →
       ∃ x : Part, exec (.identStepComplete p) s = .next { s with part := x } ∧
         (x.path p).state = .inService ∧ (x.path p).cause = .bringup ∧ (x.path p).step = .none ∧ (x.path p).count = 0 ∧
         (x.path p).stepTimer = 0 ∧ (x.path p).stallReported = false ∧ (x.path p).badCount = 0 ∧ (x.path p).lateCount = 0 ∧
         (x.path p).silenceTimer = 0 ∧ (x.path p).errPos = (s.part.path p).errPos ∧
         x.fmu.anchor = some p ∧ x.fmu.link = .exposed ∧ x.fmu.ref = some p ∧ x.fmu.p = s.part.fmu.p)) ∧
  (∀ (p : Path) (bits : List Bool) (f : Frame) (s : State), s.part.FrameReady p →
     decodeFrame s.part.dsc.role bits = some f → f.idle = false →
     (s.part.path p).state = .acquiring → (s.part.path p).step = .align →
     let y := s.part.arrive p f
     let z := y.2.onPath p fun c =>
       { c with
         state := .inService, cause := .bringup, step := .none, count := 0, stepTimer := 0, identFlags := none
         silenceDue := false, recovery := 0, stallReported := false, badCount := 0, lateCount := 0, silenceTimer := 0 }
     ((∃ d, y.1 = some d ∧ 1 ≤ d ∧ d ≤ 15) → exec (.frameReceived p bits) s = .next { s with part := z.report y.2 }) ∧
     ((∀ d, y.1 = some d → d = 0 ∨ 15 < d) → exec (.frameReceived p bits) s = .next { s with part := y.2 })) ∧
  (∀ (tag : Nat) (p : Path) (s : State), s.part.PortReady → s.part.LinkInv → s.part.dsc.role = .desk →
     s.part.dsc.opState = .operate → (s.part.path p).atAlign = true → (s.part.path (otherPath p)).usable = true →
     let fallen : Notice := .pathState (otherPath p) .dark (s.part.path (otherPath p)).state .standby none
     let served : Notice := .pathState p .inService .acquiring .bringup none
     let firstTwo : List Notice := match p with
       | .a => [served, fallen]
       | .b => [fallen, served]
     ∃ x : Part, exec (.setState tag 0) s = .next { s with part := x.answer tag .ok } ∧
       (x.path p).state = .dark ∧ (x.path p).cause = .standby ∧ (x.path (otherPath p)).state = .dark ∧ x.fmu.link = .offline ∧
       x.cmp = (firstTwo ++ [Notice.pathState p .dark .inService .standby none,
         Notice.linkState .offline .exposed none false false]).foldl (fun c n => c.notify n) s.part.cmp)

/-! ### Path Controllers and the link -/

/-- At LOCK each good frame increases the consecutive-frame count by 1 and each bad frame sets it to 0, idle or full alike;
when the count stands at 8, LOCK_STEP_COMPLETE makes the step IDENT, with the count and the step timer at 0. -/
def Obligations.LockStepCounts : Prop :=
  ∀ (p : Path) (s : State), (s.part.path p).state = .acquiring → (s.part.path p).step = .lock →
    (∀ bits f, s.part.FrameReady p → decodeFrame s.part.dsc.role bits = some f →
      ∃ x : Part, exec (.frameReceived p bits) s = .next { s with part := x } ∧
        (x.path p).count = (s.part.path p).count + 1 ∧ (x.path p).step = .lock) ∧
    (∀ bits, s.part.FrameReady p → decodeFrame s.part.dsc.role bits = none →
      ∃ x : Part, exec (.frameReceived p bits) s = .next { s with part := x } ∧
        (x.path p).count = 0 ∧ (x.path p).step = .lock) ∧
    ((s.part.path p).count = 8 → exec (.lockStepComplete p) s =
      .next { s with part := s.part.onPath p fun c => { c with step := .ident, count := 0, stepTimer := 0 } })

/-- A report of the paths, with no path completing ALIGN by it: path A's PATH_STATE before path B's, then the link state by the
number of usable paths, the reference by the choice, and one LINK_STATE notice when either changed. At DESK those are all its
notices. A pending anchoring lasts while its path is usable; a change of reference returns the re-anchor count to 0; the
pointer, the buffer and the conceal ramp stand. The reference path: none with no path usable; the present one while it is
IN_SERVICE and revertive is off; else the preferred path if IN_SERVICE, else the other if IN_SERVICE; else the present one if
still usable, else the usable path. The loss of the last usable path, here by silence, as the blocks that read the link take
it. The path's notice and LINK_STATE come first. The STAGE clock goes from LOCKED to HOLDOVER with CLOCK_STATE; then the FOH
session closes with reason LINK, its destinations FADING, and FOH CUE held by another source becomes FADING and leaves that
source's granted set; the ramps of each destination changed take its targets, TALK_STATE tells of each, FOH's first, and an
echo of each is produced (the clock before talk is the model's choice, log entry 44). At DESK every meter entry's age is 321.
An episode of the lane ends with the quiet tail at 16. The return of the link, here by a path whose IDENT completes with no
path usable and its far flag down, as the blocks that read the link take it: PATH_STATE and LINK_STATE first; a record in
flight makes a go-back due; the STAGE clock is LOCKED, with CLOCK_STATE if it was not; then a FREE FOH CUE goes to the waiting
eligible session that comes before every other, of which an echo is produced, and the cue ramp's target is its level; with none
it stays FREE (the clock before talk is the model's choice, log entry 44). -/
def Obligations.ReportGivesLinkAndReference : Prop :=
  (∀ (old x : Part), x.anyUsable = true ∨ (x.pa.atAlign = false ∧ x.pb.atAlign = false) →
     let y := x.report old
     y.pa = x.pa ∧ y.pb = x.pb ∧
     y.fmu.link = (if x.pa.usable = true ∧ x.pb.usable = true then .protect
       else if x.pa.usable = true ∨ x.pb.usable = true then .exposed
       else if x.fmu.link = .protect ∨ x.fmu.link = .exposed then .severed else x.fmu.link) ∧
     y.fmu.ref = chooseRef x.pa x.pb x.pair x.fmu.ref ∧
     y.fmu.anchor = (if (∃ p, x.fmu.anchor = some p ∧ (x.path p).usable = true) then x.fmu.anchor else none) ∧
     y.fmu.reCount = (if y.fmu.ref = x.fmu.ref then x.fmu.reCount else 0) ∧
     y.fmu.p = x.fmu.p ∧ y.fmu.slots = x.fmu.slots ∧ y.fmu.conceal = x.fmu.conceal ∧ y.fmu.delay = x.fmu.delay ∧
     (x.dsc.role = .desk → y.cmp =
       ((pathNotice .a old.pa x.pa).toList ++ (pathNotice .b old.pb x.pb).toList ++
         (if y.fmu.link ≠ x.fmu.link ∨ y.fmu.ref ≠ x.fmu.ref then
           [Notice.linkState y.fmu.link x.fmu.link y.fmu.ref x.pa.usable x.pb.usable] else [])).foldl
         (fun c n => c.notify n) x.cmp)) ∧
  (∀ (a b : PathCtl) (pair : PairCfg) (cur : Option Path),
     let st : Path → PathCtl := fun p => match p with
       | .a => a
       | .b => b
     let r := chooseRef a b pair cur
     (r = none ↔ a.usable = false ∧ b.usable = false) ∧
     (∀ p, r = some p → (st p).usable = true) ∧
     (∀ p, cur = some p → pair.revertive = false → (st p).state = .inService → r = some p) ∧
     ((pair.revertive = true ∨ ∀ p, cur = some p → (st p).state ≠ .inService) →
       ((st pair.preferred).state = .inService → r = some pair.preferred) ∧
       ((st pair.preferred).state ≠ .inService → (st (otherPath pair.preferred)).state = .inService →
         r = some (otherPath pair.preferred)) ∧
       (a.state ≠ .inService → b.state ≠ .inService → ∀ p, cur = some p → (st p).usable = true → r = some p))) ∧
  (∀ (p : Path) (s : State), s.part.LinkInv → s.part.TalkInv → (s.part.path p).silenceDue = true →
     (s.part.path p).usable = true → (s.part.path (otherPath p)).usable = false → (s.part.path (otherPath p)).atAlign = false →
     ∃ x : Part, exec (.silenceTimeout p) s = .next { s with part := x } ∧
       x.fmu.link = .severed ∧ x.fmu.ref = none ∧
       (s.part.ple.episode = true → x.ple.episode = false ∧ x.ple.ackRaised = false ∧ x.ple.quietTail = 16) ∧
       (s.part.ple.episode = false → x.ple.ackRaised = s.part.ple.ackRaised ∧ x.ple.quietTail = s.part.ple.quietTail) ∧
       (let paths : List Notice := [.pathState p .acquiring (s.part.path p).state .silence none,
          .linkState .severed .exposed none false false]
        (s.part.dsc.role = .desk →
          x.cmp = paths.foldl (fun c n => c.notify n) s.part.cmp ∧ x.scu = s.part.scu ∧ x.tka = s.part.tka ∧
          x.mtu = { s.part.mtu with table := s.part.mtu.table.map fun e => { e with age := 321 } }) ∧
        (s.part.dsc.role = .stage →
          let clock : List Notice := if s.part.scu.lock = .locked then [.clockState ⟨.stage, none, .holdover, none⟩] else []
          let foh : List Notice := match s.part.session .foh with
            | some z => [.talkState ⟨.foh, .closed, none, some .link, 0, z.granted, (s.part.tka.foh.version + 1) % 65536, .link⟩]
            | none => []
          let cueHeld (src : Source) : Prop := (s.part.dest 16).state = .held ∧ (s.part.dest 16).holder = some src
          x.mtu = s.part.mtu ∧ x.scu.lock = (if s.part.scu.lock = .locked then .holdover else s.part.scu.lock) ∧
          (∀ z, s.part.session .foh = some z → x.tka.foh = ⟨none, (s.part.tka.foh.version + 1) % 65536, .link⟩) ∧
          (s.part.session .foh = none → x.tka.foh = s.part.tka.foh) ∧
          (∀ d, d < 17 → x.dest d =
            if (s.part.dest d).state = .held ∧ ((s.part.dest d).holder = some .foh ∨ d = 16)
            then ⟨.fading, (s.part.dest d).holder, false⟩ else s.part.dest d) ∧
          (∀ src z, src ≠ .foh → cueHeld src → s.part.session src = some z →
            let v := ((s.part.tka.source src).version + 1) % 65536
            let now : SessionEcho := ⟨z.priority, z.latched, z.requested, z.granted ^^^ 65536⟩
            (x.session src).map Session.echo = some now ∧ (x.tka.source src).version = v ∧
            (∀ other, other ≠ .foh → other ≠ src → x.tka.source other = s.part.tka.source other) ∧
            x.cmp = (paths ++ clock ++ foh ++
              [Notice.talkState ⟨src, .preempted, some now, none, 0, 65536, v, .arbiter⟩]).foldl (fun c n => c.notify n) s.part.cmp) ∧
          x.ple.queue = (x.laneAfter s.part (x.talkEchoes s.part [.foh, .mon, .stg])).queue ∧
          x.ple.marks = (x.laneAfter s.part (x.talkEchoes s.part [.foh, .mon, .stg])).marks ∧
          (∀ d, d < 17 → x.dest d ≠ s.part.dest d → x.TargetsFollow d) ∧
          (¬ cueHeld .mon → ¬ cueHeld .stg → x.tka.mon = s.part.tka.mon ∧ x.tka.stg = s.part.tka.stg ∧
            x.cmp = (paths ++ clock ++ foh).foldl (fun c n => c.notify n) s.part.cmp)))) ∧
  (∀ (p : Path) (s : State), s.part.LinkInv → s.part.TalkInv → (s.part.path p).state = .acquiring →
     (s.part.path p).step = .ident → 8 ≤ (s.part.path p).count →
     (∀ fl, (s.part.path p).identFlags = some fl → fl.1 = false) → s.part.anyUsable = false →
     (s.part.path (otherPath p)).atAlign = false →
     ∃ x : Part, exec (.identStepComplete p) s = .next { s with part := x } ∧ x.fmu.link = .exposed ∧
       (x.ple.goBackDue = true ↔ s.part.ple.goBackDue = true ∨ 0 < s.part.ple.inFlight) ∧
       (let paths : List Notice := [.pathState p .inService .acquiring .bringup none,
          .linkState .exposed s.part.fmu.link (some p) (p == .a) (p == .b)]
        let clock : List Notice := if s.part.scu.lock = .locked then [] else [.clockState ⟨.stage, none, .locked, some p⟩]
        (s.part.dsc.role = .desk →
          x.cmp = paths.foldl (fun c n => c.notify n) s.part.cmp ∧ x.scu = s.part.scu ∧ x.tka = s.part.tka ∧
          x.mtu = s.part.mtu) ∧
        (s.part.dsc.role = .stage →
          let wants (z : Session) : Prop := z.requested.testBit 16 = true ∧ (s.part.tka.cfg.cueMask < z.priority ∨ z.priority = 7)
          x.scu.lock = .locked ∧ (∀ d, d ≠ 16 → x.dest d = s.part.dest d) ∧
          x.ple.queue = (x.laneAfter s.part (x.talkEchoes s.part [.foh, .mon, .stg])).queue ∧
          x.ple.marks = (x.laneAfter s.part (x.talkEchoes s.part [.foh, .mon, .stg])).marks ∧
          ((s.part.dest 16).state ≠ .free ∨ (∀ src z, s.part.session src = some z → ¬ wants z) →
            x.dest 16 = s.part.dest 16 ∧ x.tka.foh = s.part.tka.foh ∧ x.tka.mon = s.part.tka.mon ∧ x.tka.stg = s.part.tka.stg ∧
            x.cmp = (paths ++ clock).foldl (fun c n => c.notify n) s.part.cmp) ∧
          ∀ src z, (s.part.dest 16).state = .free → s.part.session src = some z → wants z →
            (∀ src' z', src' ≠ src → s.part.session src' = some z' → wants z' →
              z'.priority < z.priority ∨ (z'.priority = z.priority ∧ newer16 z'.order z.order = true)) →
            let v := ((s.part.tka.source src).version + 1) % 65536
            let now : SessionEcho := ⟨z.priority, z.latched, z.requested, z.granted ||| 65536⟩
            x.dest 16 = ⟨.held, some src, false⟩ ∧ x.tka.cue.target = faderK s.part.tka.cfg.cueLevel ∧ (x.session src).map Session.echo = some now ∧
            (∀ src', src' ≠ src → x.tka.source src' = s.part.tka.source src') ∧
            x.cmp = (paths ++ clock ++ [Notice.talkState ⟨src, .granted, some now, none, 65536, 0, v, .arbiter⟩]).foldl
              (fun c n => c.notify n) s.part.cmp)))

/-- A light window that ends joins its result to the history, the oldest leaves, and light is judged present on two of three.
Judged absent, a path that is neither DARK nor DISABLED goes to DARK with cause LIGHT_LOST and its bring-up abandoned; judged
present in OPERATE, a DARK path goes to ACQUIRING at LOCK with cause LIGHT and its transmitter to FULL; otherwise the path
stays. The change is reported. A change of the receiver's report, with no window to close first, sets the report, and light
marks the window in progress. -/
def Obligations.LightWindowJudged : Prop :=
  (∀ (p : Path) (s : State), (s.part.path p).lightDue = true →
     let c := s.part.path p
     let seen := (c.hist.middle && c.hist.newest) || (c.hist.middle && c.lightSeen) || (c.hist.newest && c.lightSeen)
     let base := { c with
       hist := ⟨c.hist.middle, c.hist.newest, c.lightSeen⟩, light := seen, lightSeen := c.lightNow, lightDue := false }
     let now :=
       if seen = false ∧ c.state ≠ .disabled ∧ c.state ≠ .dark then
         { base with
           state := .dark, cause := .lightLost, step := .none, count := 0, stepTimer := 0, identFlags := none
           silenceDue := false, recovery := 0, stallReported := false, farRole := none, darkTimer := 0 }
       else if seen = true ∧ c.state = .dark ∧ s.part.dsc.opState = .operate then
         { base with
           state := .acquiring, step := .lock, cause := .light, count := 0, stepTimer := 0, identFlags := none
           silenceDue := false, recovery := 0, tx := .full }
       else base
     exec (.lightWindowEnd p) s = .next { s with part := (s.part.onPath p fun _ => now).report s.part }) ∧
  (∀ (p : Path) (lit : Bool) (s : State), (s.part.path p).lightDue = false →
     exec (.receiverLightChange p lit) s = .next { s with part := s.part.onPath p fun c =>
       { c with lightNow := lit, lightSeen := c.lightSeen || lit } })

/-- An error window that ends: an IN_SERVICE path with a count at the threshold becomes IMPAIRED, with cause ERRORS before SKEW
and recovery count 0; an IMPAIRED path counts a clean window, or takes the cause and recovery count 0; the counts are kept for
GET_PATH and return to 0. The change is reported. An IMPAIRED path with ten clean windows becomes IN_SERVICE with cause
RECOVERED and recovery count 0, its silence timer back at 0, and the change is reported (that a silence timeout already due
stands is the model's choice, log entry 45). -/
def Obligations.ErrorWindowJudged : Prop :=
  (∀ (p : Path) (s : State), (s.part.path p).errDue = true →
     let c := s.part.path p
     let bad := decide (c.cfg.threshold ≤ c.badCount)
     let late := decide (c.cfg.threshold ≤ c.lateCount)
     let base := { c with lastBad := c.badCount, lastLate := c.lateCount, badCount := 0, lateCount := 0, errDue := false }
     let now :=
       if c.usable = false then base
       else if bad then { base with state := .impaired, cause := .errors, recovery := 0 }
       else if late then { base with state := .impaired, cause := .skew, recovery := 0 }
       else if c.state = .impaired then { base with recovery := c.recovery + 1 }
       else base
     exec (.errorWindowEnd p) s = .next { s with part := (s.part.onPath p fun _ => now).report s.part }) ∧
  (∀ (p : Path) (s : State), (s.part.path p).state = .impaired → (s.part.path p).recovery = 10 →
     exec (.pathRecovered p) s = .next { s with part := (s.part.onPath p fun c =>
       { c with state := .inService, cause := .recovered, recovery := 0, silenceTimer := 0 }).report s.part })

/-- A stalled bring-up restarts at LOCK with count and step timer at 0, and sets the stall-reported flag with one BRINGUP_STALL
notice naming the step; with the flag set already there is no notice. A usable path whose silence timer has reached its limit
goes back to ACQUIRING at LOCK with cause SILENCE, and the change is reported. Bursts: a DARK enabled path in OPERATE with
auto-burst on and its dark timer at 96,000 enters BURST with counter 0; the counter returns to 0 after 23,999. -/
def Obligations.PathTimersAct : Prop :=
  (∀ (p : Path) (s : State), (s.part.path p).state = .acquiring → 12000 ≤ (s.part.path p).stepTimer →
     let x := s.part.onPath p fun c =>
       { c with step := .lock, count := 0, stepTimer := 0, identFlags := none, stallReported := true }
     exec (.bringupStall p) s = .next { s with part :=
       { x with cmp := if (s.part.path p).stallReported then x.cmp else x.cmp.notify (.bringupStall p (s.part.path p).step) } }) ∧
  (∀ (p : Path) (s : State), (s.part.path p).silenceDue = true → (s.part.path p).usable = true →
     exec (.silenceTimeout p) s = .next { s with part := (s.part.onPath p fun c =>
       { c with
         state := .acquiring, step := .lock, cause := .silence, count := 0, stepTimer := 0, identFlags := none
         silenceDue := false, recovery := 0 }).report s.part }) ∧
  (∀ (p : Path) (s : State),
     ((s.part.path p).state = .dark → s.part.dsc.opState = .operate → (s.part.path p).cfg.enabled = true →
       (s.part.path p).cfg.autoBurst = true → (s.part.path p).darkTimer = 96000 → (s.part.path p).tx ≠ .burst →
       exec (.burstEntry p) s = .next { s with part := s.part.onPath p fun c => { c with tx := .burst, burstCounter := 0 } }) ∧
     ((s.part.path p).tx = .burst → (s.part.path p).burstCounter = 24000 →
       exec (.burstCycleRestart p) s = .next { s with part := s.part.onPath p fun c => { c with burstCounter := 0 } }))

/-! ### Clock, operating states and resets -/

/-- The word clock at DESK with source EXTERNAL: an edge counts in the open window; a window that ends with 47, 48 or 49 edges
raises the qualification count to at most 16; any other returns it to 0 and takes LOCKED to FREE with CLOCK_STATE; at a count
of 16, FREE becomes LOCKED with CLOCK_STATE. SET_CLOCK at a ready port: answered STATE at STAGE; at DESK RANGE above 1, ALREADY
for the current source, and otherwise the source is taken with lock state FREE and count 0, CLOCK_STATE is queued and the
answer is OK. -/
def Obligations.WordClockQualifies : Prop :=
  (∀ s : State, s.part.dsc.role = .desk → s.part.scu.source = .ext →
     (s.part.scu.winDue = false → s.part.scu.winOpen = true → exec .wordClockEdge s =
       .next { s with part := { s.part with scu := { s.part.scu with edges := s.part.scu.edges + 1 } } }) ∧
     (s.part.scu.winDue = true → 47 ≤ s.part.scu.edges → s.part.scu.edges ≤ 49 → exec .clockWindowEnd s =
       .next { s with part := { s.part with scu :=
         { s.part.scu with qual := min 16 (s.part.scu.qual + 1), edges := 0, winDue := false } } }) ∧
     (s.part.scu.winDue = true → s.part.scu.edges < 47 ∨ 49 < s.part.scu.edges → exec .clockWindowEnd s =
       .next { s with part := { s.part with
         scu := { s.part.scu with
           qual := 0, edges := 0, winDue := false, lock := if s.part.scu.lock = .locked then .free else s.part.scu.lock }
         cmp := if s.part.scu.lock = .locked then s.part.cmp.notify (.clockState ⟨.desk, some .ext, .free, none⟩)
           else s.part.cmp } }) ∧
     (s.part.scu.lock = .free → s.part.scu.qual = 16 → exec .clockQualified s =
       .next { s with part := { s.part with
         scu := { s.part.scu with lock := .locked }
         cmp := s.part.cmp.notify (.clockState ⟨.desk, some .ext, .locked, none⟩) } })) ∧
  (∀ (tag n : Nat) (s : State), s.part.PortReady →
     (s.part.dsc.role = .stage → exec (.setClock tag n) s = .next { s with part := s.part.answer tag .state }) ∧
     (s.part.dsc.role = .desk → 1 < n → exec (.setClock tag n) s = .next { s with part := s.part.answer tag .range }) ∧
     (s.part.dsc.role = .desk → (n = 0 ∧ s.part.scu.source = .loc ∨ n = 1 ∧ s.part.scu.source = .ext) →
       exec (.setClock tag n) s = .next { s with part := s.part.answer tag .already }) ∧
     (s.part.dsc.role = .desk → (n = 0 ∧ s.part.scu.source = .ext ∨ n = 1 ∧ s.part.scu.source = .loc) →
       ∃ x : Part, exec (.setClock tag n) s = .next { s with part := x.answer tag .ok } ∧
         x.scu.source = (if n = 0 then .loc else .ext) ∧ x.scu.lock = .free ∧ x.scu.qual = 0 ∧
         { x with scu := s.part.scu } = s.part.notify (.clockState ⟨.desk, some (if n = 0 then .loc else .ext), .free, none⟩)))

/-- SET_STATE at a ready port, by operating state and target: RANGE above 1; OPERATE in STANDBY begins the wake with its timer
at 3,840 and its tag held, and refreshes the preamp settings at STAGE; STANDBY in STANDBY, and OPERATE in WAKING or OPERATE,
are ALREADY; STANDBY in WAKING answers the held request ABORTED and itself OK; STANDBY in OPERATE answers OK; both enter
STANDBY. -/
def Obligations.SetStateByTable : Prop :=
  ∀ (tag n : Nat) (s : State), s.part.PortReady →
    (1 < n → exec (.setState tag n) s = .next { s with part := s.part.answer tag .range }) ∧
    (n = 0 → s.part.dsc.opState = .standby → exec (.setState tag n) s = .next { s with part := s.part.answer tag .already }) ∧
    (n = 1 → s.part.dsc.opState ≠ .standby → exec (.setState tag n) s = .next { s with part := s.part.answer tag .already }) ∧
    (n = 1 → s.part.dsc.opState = .standby → exec (.setState tag n) s = .next { s with part :=
      { s.part with
        dsc := { s.part.dsc with opState := .waking, wakeTimer := 3840, heldState := some tag }
        api := { s.part.api with queue := if s.part.dsc.role = .stage then (List.range 64).map s.part.preampRecord
          else s.part.api.queue } } }) ∧
    (n = 0 → s.part.dsc.opState ≠ .standby →
      ∃ x : Part, exec (.setState tag n) s = .next { s with part := x } ∧ x.dsc.opState = .standby ∧
        (s.part.dsc.opState = .waking → x.dsc.heldState = none ∧
          x.cmp.replies = s.part.cmp.replies ++
            (match s.part.dsc.heldState with
              | some held => [⟨held, .aborted, .none⟩]
              | none => []) ++ [⟨tag, .ok, .none⟩]) ∧
        (s.part.dsc.opState = .operate → x.cmp.replies = s.part.cmp.replies ++ [⟨tag, .ok, .none⟩]) ∧
        x.dsc.role = s.part.dsc.role ∧ x.dsc.restartFlag = s.part.dsc.restartFlag ∧ x.mtu.table = s.part.mtu.table)

/-- STANDBY entry by SET_STATE from OPERATE: each enabled path is DARK, with cause STANDBY unless it was DARK already, a
DISABLED one stays so; every path's transmitter is OFF, its bring-up abandoned, its dark and silence timers and recovery count
at 0, its far role and stall flag cleared; the link is OFFLINE with no reference, no pointer and an empty buffer, and D, the
counts and the conceal ramp are kept; at STAGE a QUEUED channel is OFF, a RISING or ON one FALLING for 24,000 events with its
request kept, every conditioning and master target is 0, and every session has closed with reason STANDBY; the ramps of its
destinations take their targets; each QUEUED channel, in queue order, and then each session closed gives one echo (channels
before sessions is the model's choice, log entry 10). That a re-anchoring due before it is cancelled is the model's choice (log
entry 36). -/
def Obligations.StandbyEntryEffects : Prop :=
  ∀ (tag : Nat) (s : State), s.part.PortReady → s.part.PhantomInv → s.part.dsc.opState = .operate →
    ∃ x : Part, exec (.setState tag 0) s = .next { s with part := x } ∧
      (∀ p, (x.path p).state = (if (s.part.path p).state = .disabled then .disabled else .dark) ∧
        (x.path p).cause = (if (s.part.path p).state = .disabled ∨ (s.part.path p).state = .dark
          then (s.part.path p).cause else .standby) ∧
        (x.path p).tx = .off ∧ (x.path p).darkTimer = 0 ∧ (x.path p).silenceTimer = 0 ∧ (x.path p).recovery = 0 ∧
        (x.path p).farRole = none ∧ (x.path p).stallReported = false ∧ (x.path p).step = .none ∧ (x.path p).count = 0 ∧
        (x.path p).stepTimer = 0 ∧ (x.path p).cfg = (s.part.path p).cfg) ∧
      x.fmu = { s.part.fmu with
        slots := List.replicate 16 MergeSlot.empty, p := none, anchor := none, ref := none, link := .offline, reCount := 0
        reArrival := none } ∧
      (s.part.dsc.role = .stage →
        x.chs.phantomQueue = [] ∧
        (∀ n, n < 64 → (x.channel n).ramp.target = 0 ∧ (x.channel n).request = (s.part.channel n).request ∧
          (x.channel n).gainTarget = (s.part.channel n).gainTarget ∧
          (x.channel n).phantom = (match (s.part.channel n).phantom with
            | .off => .off
            | .queued => .off
            | .rising => .falling
            | .on => .falling
            | .falling => .falling) ∧
          ((s.part.channel n).phantom = .rising ∨ (s.part.channel n).phantom = .on →
            (x.channel n).phantomTimer = 24000 ∧ (x.channel n).version = (s.part.channel n).version)) ∧
        (∀ m, m < s.part.mxe.mixes.length → (x.mix m).masterRamp.target = 0 ∧ (x.mix m).contribs = (s.part.mix m).contribs) ∧
        (∀ src, x.session src = none ∧ ((s.part.session src).isSome = true → (x.tka.source src).reason = .standby)) ∧
        (s.part.TalkInv →
          (∀ d, d < 17 → (s.part.dest d).state = .held →
            x.dest d = ⟨.fading, (s.part.dest d).holder, false⟩ ∧ x.TargetsFollow d) ∧
          let told : List Target := s.part.chs.phantomQueue.map Target.channel ++ x.talkEchoes s.part [.foh, .mon, .stg]
          x.ple.queue = (x.laneAfter s.part told).queue ∧ x.ple.marks = (x.laneAfter s.part told).marks))

/-- WAKE_COMPLETE when the wake timer stands at 0: the state is OPERATE, the held request is answered OK, each enabled path's
transmitter is FULL with its dark timer at 0; at STAGE every mix's master ramp takes the target of its master code, and with no
channel RISING or QUEUED, the six lowest channels OFF with their request on rise and the others wait in channel order. -/
def Obligations.WakeCompletes : Prop :=
  ∀ s : State, s.part.dsc.opState = .waking → s.part.dsc.wakeTimer = 0 →
    ∃ x : Part, exec .wakeComplete s = .next { s with part := x } ∧ x.dsc.opState = .operate ∧ x.dsc.heldState = none ∧
      x.cmp.replies = s.part.cmp.replies ++ (match s.part.dsc.heldState with
        | some tag => [⟨tag, .ok, .none⟩]
        | none => []) ∧
      (∀ p, (x.path p).state = (s.part.path p).state ∧
        ((s.part.path p).cfg.enabled = true → (x.path p).tx = .full ∧ (x.path p).darkTimer = 0)) ∧
      x.fmu = s.part.fmu ∧
      (s.part.dsc.role = .stage →
        (∀ m, m < s.part.mxe.mixes.length → (x.mix m).masterRamp.target = faderK (s.part.mix m).master) ∧
        (s.part.chs.channels.length = 64 → s.part.rising = 0 → s.part.chs.phantomQueue = [] →
          let offered := (List.range 64).filter fun n =>
            (s.part.channel n).request && ((s.part.channel n).phantom == .off)
          x.chs.phantomQueue = offered.drop 6 ∧
          ∀ n, n < 64 →
            (x.channel n).phantom = (if n ∈ offered.take 6 then .rising
              else if n ∈ offered then .queued else (s.part.channel n).phantom) ∧
            (n ∈ offered.take 6 → (x.channel n).phantomTimer = 12000) ∧
            (x.channel n).version = (s.part.channel n).version))

/-- RESET_SOFT at a ready port: the held requests are answered ABORTED (of the two SET_STATE first, the model's choice, log
entry 35), then it is answered OK; every block takes its RESET_SOFT values; the role, the path configuration, the window
boundaries, D, the clock source, the mask, the line speed and the frame being sent are kept; requests, notices and the CMP's
counts are cleared. -/
def Obligations.ResetSoftValues : Prop :=
  ∀ (tag : Nat) (s : State), s.part.PortReady →
    ∃ x : Part, exec (.resetSoft tag) s = .next { s with part := x } ∧
      x.dsc.role = s.part.dsc.role ∧ x.dsc.opState = .standby ∧ x.dsc.heldState = none ∧ x.dsc.heldLink = none ∧
      x.dsc.restartFlag = true ∧
      x.cmp.replies = s.part.cmp.replies ++
        (match s.part.dsc.heldState with
          | some held => [⟨held, .aborted, .none⟩]
          | none => []) ++
        (match s.part.dsc.heldLink with
          | some held => [⟨held, .aborted, .none⟩]
          | none => []) ++ [⟨tag, .ok, .none⟩] ∧
      x.cmp.notices = [] ∧ x.cmp.executing = none ∧ x.cmp.staged = none ∧ x.cmp.lossFlag = false ∧ x.cmp.lost = 0 ∧
      x.cmp.frameErrors = 0 ∧ x.cmp.repliesLost = 0 ∧ x.cmp.mask = s.part.cmp.mask ∧ x.cmp.sending = s.part.cmp.sending ∧
      x.cmp.speed1 = s.part.cmp.speed1 ∧ x.cmp.speed0 = s.part.cmp.speed0 ∧ x.cmp.bytes = s.part.cmp.bytes ∧
      (∀ p, (x.path p).cfg = (s.part.path p).cfg ∧ (x.path p).tx = .off ∧ (x.path p).hist = ⟨false, false, false⟩ ∧
        (x.path p).light = false ∧ (x.path p).errPos = (s.part.path p).errPos ∧
        (x.path p).lightPos = (s.part.path p).lightPos ∧
        (x.path p).state = (if (s.part.path p).cfg.enabled then .dark else .disabled)) ∧
      x.pair = s.part.pair ∧
      x.fmu = { Fmu.powerOn s.part.dsc.role with delay := s.part.fmu.delay } ∧
      x.ple = Ple.powerOn ∧ x.mirror = Mirror.powerOn ∧ x.chs = Chs.powerOn ∧ x.mxe = Mxe.powerOn ∧ x.tka = Tka.powerOn ∧
      x.mtu = Mtu.powerOn ∧
      x.api.queue = (if s.part.dsc.role = .stage then (List.range 64).map fun n => ⟨n, 0, false, false⟩ else s.part.api.queue) ∧
      x.scu = (if s.part.dsc.role = .stage ∧ s.part.scu.lock = .locked then { s.part.scu with lock := .holdover } else s.part.scu)

/-- LINK_RESET at a ready port: ALREADY with the restart flag raised; otherwise the flag is raised, the tag is held with no
reply, the lane is emptied with its sequences at 0, its handshake flags, quiet tail and counts standing, and LANE_RESET is
queued. At DESK the mirror becomes INVALID, with MIRROR_STATE before LANE_RESET if it was not. At STAGE an open FOH session
closes with reason LINK: its destinations become FADING, its echo joins the emptied queue, and TALK_STATE comes before
LANE_RESET; the MON and STAGE sessions stand. The paths, the merge, the clock, the channels, the meters and the preamp queue
stand, and with no FOH session the mixes and talk too. Both notice orders and the echo after the emptying are the model's
choice (log entry 11). -/
def Obligations.LinkResetHeld : Prop :=
  ∀ (tag : Nat) (s : State), s.part.PortReady → s.part.TalkInv →
    (s.part.dsc.restartFlag = true → exec (.linkReset tag) s = .next { s with part := s.part.answer tag .already }) ∧
    (s.part.dsc.restartFlag = false →
      let reset : Notice := .laneReset .loc s.part.ple.queue.length
      ∃ x : Part, exec (.linkReset tag) s = .next { s with part := x } ∧
        x.dsc = { s.part.dsc with restartFlag := true, heldLink := some tag } ∧
        x.ple = { s.part.ple with
          queue := x.ple.queue, marks := [], nextSeq := 0, expSeq := 0, cursor := none, resendTimer := 0, goBackDue := false
          asm := .idle, dump := .idle } ∧
        x.cmp.replies = s.part.cmp.replies ∧
        x.pa = s.part.pa ∧ x.pb = s.part.pb ∧ x.pair = s.part.pair ∧ x.fmu = s.part.fmu ∧ x.scu = s.part.scu ∧
        x.chs = s.part.chs ∧ x.mtu = s.part.mtu ∧ x.api = s.part.api ∧ x.bus = s.part.bus ∧
        (s.part.dsc.role = .desk →
          x.ple.queue = [] ∧ x.mirror = { Mirror.powerOn with state := .invalid } ∧ x.tka = s.part.tka ∧ x.mxe = s.part.mxe ∧
          x.cmp = (if s.part.mirror.state = .invalid then s.part.cmp
            else s.part.cmp.notify (.mirrorState .invalid s.part.mirror.state)).notify reset) ∧
        (s.part.dsc.role = .stage →
          x.mirror = s.part.mirror ∧ x.tka.mon = s.part.tka.mon ∧ x.tka.stg = s.part.tka.stg ∧ x.tka.cfg = s.part.tka.cfg ∧
          x.tka.openCounter = s.part.tka.openCounter ∧ x.mxe.free = s.part.mxe.free ∧
          (s.part.session .foh = none →
            x.ple.queue = [] ∧ x.tka = s.part.tka ∧ x.mxe = s.part.mxe ∧ x.cmp = s.part.cmp.notify reset) ∧
          ∀ z, s.part.session .foh = some z →
            let v := (s.part.tka.foh.version + 1) % 65536
            x.tka.foh = ⟨none, v, .link⟩ ∧ x.ple.queue = [⟨.echoTalk .foh ⟨v, none, .link⟩, none⟩] ∧
            x.cmp = (s.part.cmp.notify (.talkState ⟨.foh, .closed, none, some .link, 0, z.granted, v, .link⟩)).notify reset ∧
            (∀ d, d < 17 → x.dest d = if z.granted.testBit d = true then ⟨.fading, some .foh, false⟩ else s.part.dest d) ∧
            ∀ m, m < 16 → x.mix m = if z.granted.testBit m = true
              then { s.part.mix m with
                dest := .fading
                dimRamp := (s.part.mix m).dimRamp.retarget 65536
                talkRamp := (s.part.mix m).talkRamp.retarget 0 }
              else s.part.mix m))

/-! ### The Control Message Port -/

/-- A character on the line, with no closed frame waiting: while the receiver waits for the line to stand at 1, or with the
start bit's majority at 1, nothing is taken; with the stop bit's majority at 1 its byte goes to the framing; with it at 0 it is
a framing error. The byte is of the eight data bits, the first the least significant, each by its majority. The framing:
hunting ignores all but a boundary, which opens a frame; in a frame a boundary closes it, and it waits to be checked unless it
is empty, an escape is noted, any other byte is added; after an escape a boundary discards the frame and any other byte is
added exclusive-ORed with 0x40; the 259th byte discards the frame and the receiver hunts. A framing error with no closed frame
waiting raises the frame error count, makes the receiver hunt and wait for the line to stand at 1, and gives a FRAME reply when
a frame with at least one byte was in progress (counted as lost with fewer than three places free); the count rises once for
the error and the frame it discards (the model's reading, log entry 30), and requests that wait with reply places free are
carried out before it (log entry 9); a character time at 1 ends the wait. -/
def Obligations.LineReceiverFrames : Prop :=
  (∀ (c : LineChar) (s : State), s.part.LineReady →
     let two : Bool × Bool × Bool → Prop := fun b => b.1 = true ∧ b.2.1 = true ∨ b.1 = true ∧ b.2.2 = true ∨ b.2.1 = true ∧ b.2.2 = true
     (c.data.length = 8 → lineByte c < 256 ∧
       ∀ i b, c.data[i]? = some b → ((lineByte c).testBit i = true ↔ two b)) ∧
     (s.part.cmp.awaitIdle = true ∨ two c.start → exec (.characterReceived c) s = .next s) ∧
     (s.part.cmp.awaitIdle = false → ¬ two c.start → two c.stop →
       exec (.characterReceived c) s = .next { s with part := s.part.onCmp (Cmp.takeByte (lineByte c)) }) ∧
     (s.part.cmp.awaitIdle = false → ¬ two c.start → ¬ two c.stop →
       exec (.characterReceived c) s = exec .framingError s)) ∧
  (∀ (b : Nat) (c : Cmp),
     let added (v : Nat) : Cmp := if c.bytes.length < 258 then { c with bytes := c.bytes ++ [v], escape := false }
       else { c with inFrame := false, bytes := [], escape := false, rxDue := some .tooLong }
     (c.inFrame = false → b ≠ 0xA5 → c.takeByte b = c) ∧
     (c.inFrame = false → b = 0xA5 → c.takeByte b = { c with inFrame := true, bytes := [], escape := false }) ∧
     (c.inFrame = true → c.escape = false → b = 0xA5 → c.bytes = [] → c.takeByte b = c) ∧
     (c.inFrame = true → c.escape = false → b = 0xA5 → c.bytes ≠ [] →
       c.takeByte b = { c with bytes := [], rxDue := some (.closed c.bytes) }) ∧
     (c.inFrame = true → c.escape = false → b = 0xA6 → c.takeByte b = { c with escape := true }) ∧
     (c.inFrame = true → c.escape = false → b ≠ 0xA5 → b ≠ 0xA6 → c.takeByte b = added b) ∧
     (c.inFrame = true → c.escape = true → b = 0xA5 →
       c.takeByte b = { c with bytes := [], escape := false, rxDue := some .escapeBoundary }) ∧
     (c.inFrame = true → c.escape = true → b ≠ 0xA5 → c.takeByte b = added (b ^^^ 0x40))) ∧
  (∀ s : State, s.part.LineReady →
     (s.part.cmp.awaitIdle = false →
       let x := s.part.drain
       let c := { x.cmp with
         frameErrors := min 65535 (x.cmp.frameErrors + 1)
         inFrame := false, bytes := [], escape := false, awaitIdle := true }
       let now : Cmp :=
         if s.part.cmp.inFrame = false ∨ s.part.cmp.bytes = [] then c
         else if 3 ≤ x.freeReplies then { c with replies := c.replies ++ [⟨0, .frame, .none⟩] }
         else { c with repliesLost := min 65535 (c.repliesLost + 1) }
       exec .framingError s = .next { s with part := { x with cmp := now } }) ∧
     exec .lineIdleCharacterTime s =
       .next { s with part := { s.part with cmp := { s.part.cmp with awaitIdle := false } } })

/-- A closed frame of fewer than 5 bytes or with a wrong check, and a frame discarded as too long or by a boundary after an
escape, is counted and answered FRAME with tag 0; another class is answered MALFORMED, an unknown code UNKNOWN, a bad shape
MALFORMED, with the frame's tag. Such an entry reply is lost and counted with fewer than three reply places free. The requests
that wait before it on the line, as far as reply places are free, are carried out first (log entry 9). -/
def Obligations.DamagedFramesAnswered : Prop :=
  ∀ (bytes : List Nat) (s : State),
    let x : Part := Part.drain { s.part with cmp := { s.part.cmp with rxDue := none } }
    let entry (tag : Nat) (code : ReplyCode) (y : Part) : Part :=
      if 3 ≤ y.freeReplies then { y with cmp := { y.cmp with replies := y.cmp.replies ++ [⟨tag, code, .none⟩] } }
      else { y with cmp := { y.cmp with repliesLost := min 65535 (y.cmp.repliesLost + 1) } }
    let counted : Part := { x with cmp := { x.cmp with frameErrors := min 65535 (x.cmp.frameErrors + 1) } }
    let body := bytes.take (bytes.length - 2)
    (s.part.cmp.rxDue = some (.closed bytes) →
      bytes.length < 5 ∨ crc16 body ≠ beNat (bytes.drop (bytes.length - 2)) →
      exec .cmpFrameClosed s = .next { s with part := entry 0 .frame counted }) ∧
    (s.part.cmp.rxDue = some .tooLong ∨ s.part.cmp.rxDue = some .escapeBoundary →
      exec .frameTooLong s = .next { s with part := entry 0 .frame counted }) ∧
    (s.part.cmp.rxDue = some (.closed bytes) → crc16 body = beNat (bytes.drop (bytes.length - 2)) →
      ∀ cls tag code fields, body = cls :: tag :: code :: fields →
        (cls ≠ 1 → exec .cmpFrameClosed s = .next { s with part := entry tag .malformed x }) ∧
        (cls = 1 → parseRequest code fields = .unknown →
          exec .cmpFrameClosed s = .next { s with part := entry tag .unknown x }) ∧
        (cls = 1 → parseRequest code fields = .malformed →
          exec .cmpFrameClosed s = .next { s with part := entry tag .malformed x }))

/-- A closed frame that is a complete request enters the executing place if it is empty; with it occupied and no reply place
free it is staged, and with both places occupied it is answered BUSY, which is lost and counted. REQUEST_EXECUTE: the executing
request is carried out and the staged one moves up, once a reply place is free; RESET_SOFT with a request staged needs two, and
that request is answered ABORTED after RESET_SOFT's OK (of two held requests SET_STATE's ABORTED comes first, the model's
choice, log entry 35). With too few places nothing changes. A request row of the table is a complete request, given after a
closed frame and the requests before it have been taken (the model's choice, log entry 9): at a ready port it is carried out at
once, as REQUEST_EXECUTE carries one out; with no reply place free it takes an empty executing place; behind a request that
waits for reply places it is staged, and with both places occupied answered BUSY, which is lost and counted. A waiting request
that has its places executes first, and a closed frame is taken first. -/
def Obligations.RequestsExecuteInOrder : Prop :=
  (∀ (bytes : List Nat) (r : HostRequest) (s : State),
     s.part.cmp.rxDue = some (.closed bytes) → checkFrame bytes = .request r →
     (s.part.cmp.executing = none → exec .cmpFrameClosed s =
       .next { s with part := { s.part with cmp := { s.part.cmp with rxDue := none, executing := some r, staged := none } } }) ∧
     (∀ q, s.part.cmp.executing = some q → s.part.freeReplies = 0 → s.part.cmp.staged = none → exec .cmpFrameClosed s =
       .next { s with part := { s.part with cmp := { s.part.cmp with rxDue := none, staged := some r } } }) ∧
     (∀ q q', s.part.cmp.executing = some q → s.part.freeReplies = 0 → s.part.cmp.staged = some q' → exec .cmpFrameClosed s =
       .next { s with part := { s.part with cmp := { s.part.cmp with
         rxDue := none, repliesLost := min 65535 (s.part.cmp.repliesLost + 1) } } })) ∧
  (∀ (r : HostRequest) (s : State), s.part.cmp.executing = some r →
     (1 ≤ s.part.freeReplies → (r.req ≠ .resetSoft ∨ s.part.cmp.staged = none) →
       let x : Part := { s.part with cmp := { s.part.cmp with executing := s.part.cmp.staged, staged := none } }
       exec .requestExecute s = .next { s with part := x.carryOut r }) ∧
     (s.part.freeReplies = 0 → exec .requestExecute s = .next s) ∧
     (∀ q, r.req = .resetSoft → s.part.cmp.staged = some q → s.part.freeReplies = 1 → exec .requestExecute s = .next s) ∧
     (∀ q, r.req = .resetSoft → s.part.cmp.staged = some q → 2 ≤ s.part.freeReplies →
       ∃ x : Part, exec .requestExecute s = .next { s with part := x } ∧ x.cmp.executing = none ∧ x.cmp.staged = none ∧
         x.dsc.opState = .standby ∧
         x.cmp.replies = s.part.cmp.replies ++
           (match s.part.dsc.heldState with
             | some held => [⟨held, .aborted, .none⟩]
             | none => []) ++
           (match s.part.dsc.heldLink with
             | some held => [⟨held, .aborted, .none⟩]
             | none => []) ++ [⟨r.tag, .ok, .none⟩, ⟨q.tag, .aborted, .none⟩])) ∧
  (∀ (r : HostRequest) (s : State),
     (s.part.PortReady → exec (requestRow r) s = .next { s with part := s.part.carryOut r }) ∧
     (s.part.cmp.rxDue = none →
       (s.part.cmp.executing = none → s.part.freeReplies = 0 → exec (requestRow r) s =
         .next { s with part := { s.part with cmp := { s.part.cmp with executing := some r, staged := none } } }) ∧
       (∀ q, s.part.cmp.executing = some q →
         s.part.freeReplies = 0 ∨ (s.part.freeReplies = 1 ∧ q.req = .resetSoft ∧ s.part.cmp.staged ≠ none) →
         (s.part.cmp.staged = none → exec (requestRow r) s =
           .next { s with part := { s.part with cmp := { s.part.cmp with staged := some r } } }) ∧
         (s.part.cmp.staged ≠ none → exec (requestRow r) s =
           .next { s with part := { s.part with cmp := { s.part.cmp with
             repliesLost := min 65535 (s.part.cmp.repliesLost + 1) } } })) ∧
       (∀ t, exec .requestExecute s = .next t → exec (requestRow r) s = exec (requestRow r) t)) ∧
     (∀ bytes t, s.part.cmp.rxDue = some (.closed bytes) → exec .cmpFrameClosed s = .next t → exec (requestRow r) s = exec (requestRow r) t) ∧
     (∀ t, s.part.cmp.rxDue = some .tooLong ∨ s.part.cmp.rxDue = some .escapeBoundary → exec .frameTooLong s = .next t →
       exec (requestRow r) s = exec (requestRow r) t))

/-- The transmitter: idle, with neither HOLD nor the reset pin asserted, it begins the oldest reply, or with no reply the
oldest notice, and with the loss flag set NOTICES_LOST with the count takes the freed place. Where a reply and a notice both
joined while it was idle, either may begin: a free value says which, and a reply that stood in its queue when the transmitter
last became free to choose goes first (how the model gives R166's choice: log entry 34). While it sends or is held, or with
nothing to send, none begins; a frame's end leaves it idle (with none being sent it changes nothing, the model's choice, log
entry 3); HOLD's release lets it choose at once, the reply first. -/
def Obligations.TransmitterChooses : Prop :=
  ∀ s : State,
    let c := s.part.cmp
    let reply (r : Reply) (rest : List Reply) : Part :=
      { s.part with cmp := { c with sending := some (.reply r), replies := rest } }
    let notice (n : Notice) (rest : List Notice) : Part := { s.part with cmp :=
      if c.lossFlag = true then
        { c with sending := some (.notice n), notices := rest ++ [.noticesLost c.lost], lossFlag := false, lost := 0 }
      else { c with sending := some (.notice n), notices := rest } }
    let drawn (x : Part) : Part := { x with bus := { x.bus with freeCount := x.bus.freeCount + 1 } }
    (s.part.dsc.resetPin = false → c.hold = false → c.sending = none →
      (∀ r rest, c.replies = r :: rest → c.replyFirst = true ∨ c.notices = [] →
        exec .transmitFrameStart s = .next { s with part := reply r rest }) ∧
      (∀ n rest, c.notices = n :: rest → c.replies = [] →
        exec .transmitFrameStart s = .next { s with part := notice n rest }) ∧
      (∀ r rest n rest', c.replies = r :: rest → c.notices = n :: rest' → c.replyFirst = false →
        let x := if Config.noticeFirst s.part.bus.freeCount = true then notice n rest' else reply r rest
        exec .transmitFrameStart s = .next { s with part := drawn x }) ∧
      (c.replies = [] → c.notices = [] → exec .transmitFrameStart s = .next s)) ∧
    (c.hold = true ∨ c.sending.isSome = true → exec .transmitFrameStart s = .next s) ∧
    (c.sending = none → exec .transmitFrameEnd s = .next s) ∧
    (c.sending ≠ none → exec .transmitFrameEnd s = .next { s with part := { s.part with cmp :=
      { c with sending := none, replyFirst := decide (c.replies ≠ []) } } }) ∧
    exec .holdAssert s = .next { s with part := { s.part with cmp := { c with hold := true } } } ∧
    exec .holdRelease s = exec .transmitFrameStart { s with part := { s.part with cmp :=
      { c with hold := false, replyFirst := decide (c.replies ≠ []) } } }

/-- SET_NOTICE_MASK at a ready port writes all 14 enables, kind k at bit k − 1, and is answered OK when any changed and ALREADY
otherwise. A notice is tested against the mask when it is queued: of a disabled kind it is discarded uncounted; otherwise it
joins the tail of at most 32, or the loss flag is set and the loss counted. NOTICES_LOST has no enable. -/
def Obligations.NoticesMaskedAndCounted : Prop :=
  (∀ (tag mask : Nat) (s : State), s.part.PortReady →
    let enables := (List.range 14).map fun k => mask.testBit k
    (enables = s.part.cmp.mask → exec (.setNoticeMask tag mask) s = .next { s with part := s.part.answer tag .already }) ∧
    (enables ≠ s.part.cmp.mask →
      let x := { s.part with cmp := { s.part.cmp with mask := enables } }
      exec (.setNoticeMask tag mask) s = .next { s with part := x.answer tag .ok })) ∧
  ∀ (n : Notice) (x : Part),
    let enabled := n.kind = 0x0F ∨ x.cmp.mask.getD (n.kind - 1) true = true
    (¬ enabled → x.notify n = x) ∧
    (enabled → x.cmp.notices.length < 32 →
      x.notify n = { x with cmp := { x.cmp with notices := x.cmp.notices ++ [n] } }) ∧
    (enabled → 32 ≤ x.cmp.notices.length →
      x.notify n = { x with cmp := { x.cmp with lossFlag := true, lost := min 65535 (x.cmp.lost + 1) } })

/-- No command overruns the reply queue, with a place kept for each held request, or the notice queue. -/
def Obligations.QueueInvariantKept : Prop :=
  ∀ s t : State, s.part.QueueInv → step s = .next t → t.part.QueueInv

/-! ### The Parameter Lane -/

/-- A complete lane record, the oldest that waits: discarded while the lane is quiet; with the expected sequence applied when
it fits this end's direction, and counted as malformed when not, the expected sequence rising either way; an older one counted
as a duplicate, any other as out of order. -/
def Obligations.LaneRecordJudged : Prop :=
  ∀ (r : RawRecord) (rest : List RawRecord) (s : State), s.part.ple.done = r :: rest →
    let l : Ple := { s.part.ple with done := rest }
    let d := (s.part.ple.expSeq + 256 - r.seq % 256) % 256
    (s.part.quiet = true → exec .laneRecordComplete s = .next { s with part := { s.part with ple := l } }) ∧
    (s.part.quiet = false → r.seq ≠ s.part.ple.expSeq → 1 ≤ d → d ≤ 127 →
      exec .laneRecordComplete s = .next { s with part := { s.part with ple := { l with dups := min 65535 (l.dups + 1) } } }) ∧
    (s.part.quiet = false → r.seq ≠ s.part.ple.expSeq → d = 0 ∨ 127 < d →
      exec .laneRecordComplete s =
        .next { s with part := { s.part with ple := { l with outOfOrder := min 65535 (l.outOfOrder + 1) } } }) ∧
    (s.part.quiet = false → r.seq = s.part.ple.expSeq → readRecord s.part.dsc.role r.kind r.bytes = none →
      exec .laneRecordComplete s = .next { s with part := { s.part with ple :=
        { l with expSeq := (l.expSeq + 1) % 256, malformed := min 65535 (l.malformed + 1) } } }) ∧
    (∀ msg, s.part.quiet = false → r.seq = s.part.ple.expSeq → readRecord s.part.dsc.role r.kind r.bytes = some msg →
      let x : Part := { s.part with ple := { l with expSeq := (l.expSeq + 1) % 256 } }
      exec .laneRecordComplete s = .next { s with part := x.applyMsg msg })

/-- A REFUSED record applied at the DESK end queues UPDATE_REFUSED with its kind, identifier, reason and count in any mirror
state, and changes the mirror in nothing. -/
def Obligations.RefusedRecordNotifies : Prop :=
  ∀ (r : RawRecord) (rest : List RawRecord) (id : RefusedId) (why : RefuseReason) (n : Nat) (s : State),
    s.part.dsc.role = .desk → s.part.ple.done = r :: rest → s.part.quiet = false → r.seq = s.part.ple.expSeq →
    readRecord .desk r.kind r.bytes = some (.refused id why n) →
    exec .laneRecordComplete s = .next { s with part := { s.part with
      ple := { s.part.ple with done := rest, expSeq := (s.part.ple.expSeq + 1) % 256 }
      cmp := s.part.cmp.notify (.updateRefused id why n) } }

/-- A stage-bound record that the STAGE refuses produces a REFUSED record with count 1: OPEN_TALK for FOH outside OPERATE or
with the link down gives STATE, PUT_CONTRIB for a new reference with no free entry or 48 entries in the mix gives FULL; with
room in the queue it joins the tail, and with the queue full it is marked; nothing else changes. -/
def Obligations.RefusedUpdateReported : Prop :=
  ∀ (u : Update) (id : RefusedId) (why : RefuseReason) (x : Part),
    ((∃ pri md set, u = .openTalk 0 pri md set ∧ id = ⟨6, 0, 0, 0⟩ ∧ why = .state ∧
        (x.dsc.opState ≠ .operate ∨ (x.fmu.link ≠ .protect ∧ x.fmu.link ≠ .exposed))) ∨
      (∃ m b i r code, refOf b i = some r ∧ u = .putContrib m b i code ∧ id = ⟨3, m, b, i⟩ ∧ why = .full ∧
        (x.mxe.free = 0 ∨ 48 ≤ (x.mix m).contribs.length) ∧ (x.mix m).find r = none)) →
    (∀ m ∈ x.ple.marks, m.target ≠ .refusal id.target) →
    (∀ r ∈ x.ple.queue, r.seq = none → r.msg.target ≠ .refusal id.target) →
    (x.ple.queue.length < 32 → x.applyMsg (.update u) =
      { x with ple := { x.ple with queue := x.ple.queue ++ [⟨.refused id why 1, none⟩] } }) ∧
    (32 ≤ x.ple.queue.length → x.applyMsg (.update u) =
      { x with ple := { x.ple with marks := x.ple.marks ++ [.refused id.target id why 1] } })

/-- An echo of any of the six kinds applied at DESK is ignored in INVALID, and accepted in FILLING and VALID when its entry is
unknown or older by serial comparison; an accepted one replaces the entry, and in VALID queues the notice of its kind (for a
channel whose phantom state became ON or OFF, PHANTOM_DONE after it). A contribution out of range has no entry (log entry 18).
DUMP_BEGIN makes every entry unknown and the state FILLING, with MIRROR_STATE unless it is FILLING already. A STAGE block
produces an echo of a target. Before a running dump has passed the target nothing is done; a target that is marked stays marked
as it is; otherwise the echo, with the values held now, replaces the oldest unsent record of its target, or joins the tail of
fewer than 32, or leaves a mark behind the others. The dump, running, has passed a channel below the pointer's, a mix once past
the channels and below the pointer's, and so on in the order of the dump; it has passed a contribution of the mix under the
pointer when its entry stands before the pointer. Places freed in the STAGE's transmit queue are filled from the pending marks,
oldest first, each with the values its target holds then: the queue's free places take as many, and the rest stay marked; no
dump record goes while a mark waits. Here no marked target has an unsent record and no target is marked twice. The dump's
records, taken one after another over values that stand, are DUMP_BEGIN, the 64 channels, the 16 mixes, every LIVE contribution
by mix and list order, the talk configuration, the three sources, the locks and DUMP_END, and the dump is then over. -/
def Obligations.EchoAcceptedByVersion : Prop :=
  (∀ x : Part,
     let newer (v w : Nat) : Prop := 1 ≤ (v + 65536 - w % 65536) % 65536 ∧ (v + 65536 - w % 65536) % 65536 ≤ 32767
     (∀ ch e, ch < x.mirror.channels.length →
       let old := x.mirror.channels.getD ch none
       let taken := x.mirror.state ≠ .invalid ∧ ∀ o, old = some o → newer e.version o.version
       let notices : List Notice := .channelChanged ch e .echo ::
         (match old with
           | some o => if (e.phantom = .on ∨ e.phantom = .off) ∧ o.phantom ≠ e.phantom then [.phantomDoneDesk ch e.phantom] else []
           | none => [])
       (¬ taken → x.applyMsg (.echoChannel ch e) = x) ∧
       (taken → x.applyMsg (.echoChannel ch e) =
         { x with
           mirror := { x.mirror with channels := x.mirror.channels.set ch (some e) }
           cmp := if x.mirror.state = .valid then notices.foldl (fun c n => c.notify n) x.cmp else x.cmp })) ∧
     (∀ m e, m < x.mirror.mixes.length →
       let old := x.mirror.mixes.getD m none
       let taken := x.mirror.state ≠ .invalid ∧ ∀ o, old = some o → newer e.version o.version
       (¬ taken → x.applyMsg (.echoMix m e) = x) ∧
       (taken → x.applyMsg (.echoMix m e) =
         { x with
           mirror := { x.mirror with mixes := x.mirror.mixes.set m (some e) }
           cmp := if x.mirror.state = .valid then x.cmp.notify (.mixChanged m e .echo) else x.cmp })) ∧
     (∀ (m : Nat) (r : SrcRef) (e : ContribEcho) (row : List (Option ContribEcho)), x.mirror.contribs[m]? = some row →
       let at_ := match r.bank with
         | .input => r.idx
         | .ret => 64 + r.idx
       let inRange := match r.bank with
         | .input => r.idx ≤ 63
         | .ret => r.idx ≤ 7
       let taken := x.mirror.state ≠ .invalid ∧ ∀ o, row.getD at_ none = some o → newer e.version o.version
       (¬ inRange ∨ ¬ taken → x.applyMsg (.echoContrib m r e) = x) ∧
       (inRange → taken → x.applyMsg (.echoContrib m r e) =
         { x with
           mirror := { x.mirror with contribs := x.mirror.contribs.set m (row.set at_ (some e)) }
           cmp := if x.mirror.state = .valid then x.cmp.notify (.contribChanged m r e .echo) else x.cmp })) ∧
     (∀ (src : Source) (e : TalkEcho),
       let old := match src with
         | .foh => x.mirror.foh
         | .mon => x.mirror.mon
         | .stg => x.mirror.stg
       let taken := x.mirror.state ≠ .invalid ∧ ∀ o, old = some o → newer e.version o.version
       let held (s : Option SessionEcho) : Nat := match s with
         | some z => z.granted
         | none => 0
       let was := held (old.bind TalkEcho.session)
       let now := held e.session
       let lost := was ^^^ (was &&& now)
       let event : TalkEvent := match e.session with
         | none => .closed
         | some z => if lost &&& z.requested ≠ 0 then .preempted else if z.granted ≠ 0 then .granted else .waiting
       let notice : TalkNotice := ⟨src, event, e.session, if e.session.isSome = true then none else some e.reason,
         now ^^^ (now &&& was), lost, e.version, .echo⟩
       (¬ taken → x.applyMsg (.echoTalk src e) = x) ∧
       (taken → x.applyMsg (.echoTalk src e) =
         { x with
           mirror := match src with
             | .foh => { x.mirror with foh := some e }
             | .mon => { x.mirror with mon := some e }
             | .stg => { x.mirror with stg := some e }
           cmp := if x.mirror.state = .valid then x.cmp.notify (.talkState notice) else x.cmp })) ∧
     (∀ c : TalkCfg,
       let taken := x.mirror.state ≠ .invalid ∧ ∀ o, x.mirror.cfg = some o → newer c.version o.version
       (¬ taken → x.applyMsg (.echoTalkCfg c) = x) ∧
       (taken → x.applyMsg (.echoTalkCfg c) =
         { x with
           mirror := { x.mirror with cfg := some c }
           cmp := if x.mirror.state = .valid then x.cmp.notify (.talkCfgState c .echo) else x.cmp })) ∧
     (∀ e,
       let taken := x.mirror.state ≠ .invalid ∧ ∀ o, x.mirror.locks = some o → newer e.version o.version
       (¬ taken → x.applyMsg (.echoLock e) = x) ∧
       (taken → x.applyMsg (.echoLock e) =
         { x with
           mirror := { x.mirror with locks := some e }
           cmp := if x.mirror.state = .valid then x.cmp.notify (.lockChanged e) else x.cmp })) ∧
     (x.mirror.state ≠ .filling → x.applyMsg .dumpBegin =
       { x with
         mirror := { Mirror.powerOn with state := .filling }
         cmp := x.cmp.notify (.mirrorState .filling x.mirror.state) }) ∧
     (x.mirror.state = .filling → x.applyMsg .dumpBegin = { x with mirror := { Mirror.powerOn with state := .filling } }) ∧
     (x.mirror.state ≠ .filling → x.applyMsg .dumpEnd = x) ∧
     (x.mirror.state = .filling →
       (x.applyMsg .dumpEnd).mirror.state = .valid ∧
       (x.applyMsg .dumpEnd).cmp = x.cmp.notify (.mirrorState .valid .filling) ∧
       (x.applyMsg .dumpEnd).mirror.channels = x.mirror.channels ∧
       ∀ (m : Nat) (row : List (Option ContribEcho)) (e : MixEcho), x.mirror.contribs[m]? = some row → x.mirror.mixes.getD m none = some e →
         (x.applyMsg .dumpEnd).mirror.contribs[m]? = some (row.map fun c => some (c.getD ⟨e.version, none⟩)))) ∧
  ((∀ (t : Target) (msg : LaneMsg) (x : Part), x.buildEcho t = some msg → msg.target = t →
     (x.dumpPassed t = false → x.echo t = x) ∧
     (x.dumpPassed t = true →
       ((∃ k ∈ x.ple.marks, k.target = t) → x.echo t = x) ∧
       ((∀ k ∈ x.ple.marks, k.target ≠ t) →
         (∀ before r after, x.ple.queue = before ++ r :: after → r.seq = none → r.msg.target = t →
           (∀ b ∈ before, b.seq = none → b.msg.target ≠ t) →
           x.echo t = { x with ple := { x.ple with queue := before ++ ⟨msg, none⟩ :: after } }) ∧
         ((∀ r ∈ x.ple.queue, r.seq = none → r.msg.target ≠ t) →
           (x.ple.queue.length < 32 → x.echo t = { x with ple := { x.ple with queue := x.ple.queue ++ [⟨msg, none⟩] } }) ∧
           (32 ≤ x.ple.queue.length → x.echo t = { x with ple := { x.ple with marks := x.ple.marks ++ [.echo t] } }))))) ∧
   (∀ (m : Mix) (v : Nat) (r : SrcRef), m.version = v → m.contribEcho r = ⟨v, (m.find r).bind fun c =>
     if c.live = true then some c.code else none⟩) ∧
   ∀ (x : Part) (n m b i : Nat) (src : Source), n < 64 → m < 16 →
     let passed (pos : DumpPos) (t : Target) : Prop := Part.dumpPassed { x with ple := { x.ple with dump := pos } } t = true
     (∀ t, passed .idle t) ∧ ¬ passed .begin (.channel n) ∧ ¬ passed .begin .locks ∧
     (∀ k, k < 64 → ((passed (.channel k) (.channel n) ↔ n < k) ∧ ¬ passed (.channel k) (.mix m))) ∧
     (∀ k, k < 16 → (passed (.mix k) (.channel n) ∧ (passed (.mix k) (.mix m) ↔ m < k) ∧ ¬ passed (.mix k) (.contrib m b i) ∧
       ¬ passed (.mix k) .talkCfg)) ∧
     (∀ k j r, refOf b i = some r →
       (passed (.contrib k j) (.mix m) ∧ ¬ passed (.contrib k j) .talkCfg ∧
         (passed (.contrib k j) (.contrib m b i) ↔ m < k ∨ (m = k ∧ ∃ e, (x.mix m).indexOf r = some e ∧ e < j)))) ∧
     passed .talkCfg (.contrib m b i) ∧ ¬ passed .talkCfg .talkCfg ∧ passed (.talk src) .talkCfg ∧
     ¬ passed (.talk src) (.talk (sourceNum src)) ∧ ¬ passed (.talk src) .locks ∧
     passed .locks (.talk (sourceNum src)) ∧ ¬ passed .locks .locks ∧ passed .finish .locks) ∧
  (∀ (targets : List Target) (msgs : List LaneMsg) (x : Part), x.dsc.role = .stage → x.ple.marks = targets.map Mark.echo →
     targets.map x.buildEcho = msgs.map some → msgs.map LaneMsg.target = targets → targets.Nodup →
     (∀ r ∈ x.ple.queue, r.seq = none → r.msg.target ∉ targets) →
     let free := 32 - x.ple.queue.length
     (free ≤ targets.length → x.refill = { x with ple := { x.ple with
       queue := x.ple.queue ++ (msgs.take free).map fun m => ⟨m, none⟩
       marks := (targets.drop free).map Mark.echo } }) ∧
     (targets.length < free → x.ple.dump = .idle → x.refill = { x with ple := { x.ple with
       queue := x.ple.queue ++ msgs.map fun m => ⟨m, none⟩, marks := [] } })) ∧
  (∀ x : Part,
     let take (a : List LaneMsg × DumpPos) : List LaneMsg × DumpPos :=
       match Part.dumpNext { x with ple := { x.ple with dump := a.2 } } with
       | some (msg, pos) => (a.1 ++ [msg], pos)
       | none => a
     let live : List LaneMsg := (List.range 16).flatMap fun m =>
       ((x.mix m).contribs.filter fun c => c.live).map fun c => .echoContrib m c.ref ((x.mix m).contribEcho c.ref)
     (List.range (87 + live.length)).foldl (fun a _ => take a) ([], .begin) =
       ([LaneMsg.dumpBegin] ++ (List.range 64).map (fun n => LaneMsg.echoChannel n (x.channel n).echo) ++
         (List.range 16).map (fun m => LaneMsg.echoMix m (x.mix m).echo) ++ live ++
         [.echoTalkCfg x.tka.cfg, .echoTalk .foh x.tka.foh.echo, .echoTalk .mon x.tka.mon.echo, .echoTalk .stg x.tka.stg.echo,
          .echoLock x.chs.locks, .dumpEnd], .idle))

/-- The quiet tail ends at 0; a go-back due with a record in flight moves the cursor to the oldest in-flight record, returns
the resend timer to 0 and is counted; an ack that names an in-flight record removes it and every older one and returns the
timer to 0: a cursor past them keeps its place, and one on a record removed goes to the oldest remaining in-flight record, or
to rest with none; any other ack, or one while the lane is quiet, changes nothing. -/
def Obligations.AcksAndGoBack : Prop :=
  (∀ s : State, s.part.ple.tailDue = true → exec .quietTailEnd s =
    .next { s with part := { s.part with ple := { s.part.ple with quietTail := 0, tailDue := false } } }) ∧
  (∀ s : State, s.part.ple.goBackDue = true → 0 < s.part.ple.inFlight → exec .goBack s =
    .next { s with part := { s.part with ple := { s.part.ple with
      cursor := some (0, 0), resendTimer := 0, goBacks := min 65535 (s.part.ple.goBacks + 1), goBackDue := false } } }) ∧
  ∀ (l : Ple) (ack : Nat),
    l.takeAck true ack = l ∧
    ((∀ r ∈ l.queue, r.seq ≠ some ack) → l.takeAck false ack = l) ∧
    ∀ (older rest : List LaneRec) (r : LaneRec), l.queue = older ++ r :: rest → r.seq = some ack →
      (∀ o ∈ older, o.seq ≠ some ack) →
      (l.takeAck false ack).queue = rest ∧ (l.takeAck false ack).resendTimer = 0 ∧
      (l.takeAck false ack).nextSeq = l.nextSeq ∧
      (∀ i pos, l.cursor = some (i, pos) → older.length < i →
        (l.takeAck false ack).cursor = some (i - (older.length + 1), pos)) ∧
      (∀ i pos, l.cursor = some (i, pos) → i ≤ older.length →
        (l.takeAck false ack).cursor = if (rest.head?.bind LaneRec.seq).isSome = true then some (0, 0) else none) ∧
      (l.cursor = none → (l.takeAck false ack).cursor = none)

/-- The transmit queue holds at most 32 records, the oldest of them, at most 12, in flight with consecutive sequences: every
step keeps this. -/
def Obligations.LaneQueueInvariantKept : Prop :=
  ∀ s t : State, s.part.ple.QueueInv → step s = .next t → t.part.ple.QueueInv

/-! ### Channels, mixes and talk: the steps that come due -/

/-- A due gain walk step moves the applied gain 1 dB toward its target, sets the walk timer to 96 and hands the API one record
of the channel's present values, in place of one that waits; nothing else changes. -/
def Obligations.GainWalkSteps : Prop :=
  ∀ (n : Nat) (s : State), n < s.part.chs.channels.length → (s.part.channel n).walkDue = true →
    (s.part.channel n).gain ≠ (s.part.channel n).gainTarget →
    let c := s.part.channel n
    let gain := if c.gain < c.gainTarget then c.gain + 1 else c.gain - 1
    let record : PreampRecord := ⟨n, gain, c.pad, c.phantom == .rising || c.phantom == .on⟩
    exec (.gainWalkStep n) s = .next { s with part := { s.part with
      chs := { s.part.chs with
        channels := s.part.chs.channels.set n { c with gain := gain, walkTimer := 96, walkDue := false } }
      api := { s.part.api with queue :=
        if (s.part.api.queue.any fun e => e.channel == n) = true
        then s.part.api.queue.map fun e => if e.channel = n then record else e
        else s.part.api.queue ++ [record] } } }

/-- The end of a rise makes the channel ON, raises its version by 1, produces one echo of it, queues CHANNEL_CHANGED with cause
PHANTOM and PHANTOM_DONE, and the head of the phantom queue enters RISING with its timer at 12,000, handing the API a record
(the counts PHANTOM_DONE carries are those before the promotion, log entry 23). The end of a fall with the request on in
OPERATE offers the channel: RISING with its timer at 12,000 and a preamp record with fewer than 6 RISING, otherwise QUEUED at
the tail, with no version, echo or notice; any other makes the channel OFF, raises its version by 1, produces one echo and
queues CHANNEL_CHANGED with cause PHANTOM and PHANTOM_DONE. -/
def Obligations.PhantomTimersEnd : Prop :=
  (∀ (n : Nat) (s : State), n < 64 → s.part.PhantomInv → (s.part.channel n).phantom = .rising →
     (s.part.channel n).phantomTimer = 0 →
     ∃ x : Part, exec (.phantomRiseEnd n) s = .next { s with part := x } ∧
       (x.channel n).phantom = .on ∧ (x.channel n).phantomTimer = 0 ∧
       (x.channel n).version = ((s.part.channel n).version + 1) % 65536 ∧
       (x.channel n).ramp.target = (if (s.part.channel n).mute = false ∧ s.part.dsc.opState = .operate then 65536 else 0) ∧
       x.chs.phantomQueue = s.part.chs.phantomQueue.tail ∧
       (∀ k, k < 64 → k ≠ n → s.part.chs.phantomQueue.head? = some k →
         (x.channel k).phantom = .rising ∧ (x.channel k).phantomTimer = 12000 ∧
         (x.channel k).version = (s.part.channel k).version) ∧
       (∀ k, k ≠ n → s.part.chs.phantomQueue.head? ≠ some k → x.channel k = s.part.channel k) ∧
       x.cmp = (s.part.cmp.notify (.channelChanged n
           { (s.part.channel n).echo with phantom := .on, version := ((s.part.channel n).version + 1) % 65536 } .phantom)).notify
         (.phantomDone n .on .timer (s.part.rising - 1) s.part.chs.phantomQueue.length) ∧
       x.ple = x.laneAfter s.part [.channel n] ∧
       x.api = (match s.part.chs.phantomQueue.head? with
         | some k =>
           let record : PreampRecord := ⟨k, (s.part.channel k).gain, (s.part.channel k).pad, true⟩
           { s.part.api with queue :=
             if (s.part.api.queue.any fun e => e.channel == k) = true
             then s.part.api.queue.map fun e => if e.channel = k then record else e
             else s.part.api.queue ++ [record] }
         | none => s.part.api)) ∧
  (∀ (n : Nat) (s : State), n < s.part.chs.channels.length → (s.part.channel n).phantom = .falling →
     (s.part.channel n).phantomTimer = 0 →
     ∃ x : Part, exec (.phantomFallEnd n) s = .next { s with part := x } ∧
       (∀ k, k ≠ n → x.channel k = s.part.channel k) ∧ (x.channel n).request = (s.part.channel n).request ∧
       ((s.part.channel n).request = true → s.part.dsc.opState = .operate → s.part.rising < 6 →
         (x.channel n).phantom = .rising ∧ (x.channel n).phantomTimer = 12000 ∧
         (x.channel n).version = (s.part.channel n).version ∧
         x.chs.phantomQueue = s.part.chs.phantomQueue ∧ x.cmp = s.part.cmp ∧ x.ple = s.part.ple ∧
         (let record : PreampRecord := ⟨n, (s.part.channel n).gain, (s.part.channel n).pad, true⟩
          x.api = { s.part.api with queue :=
           if (s.part.api.queue.any fun e => e.channel == n) = true
           then s.part.api.queue.map fun e => if e.channel = n then record else e
           else s.part.api.queue ++ [record] })) ∧
       ((s.part.channel n).request = true → s.part.dsc.opState = .operate → 6 ≤ s.part.rising →
         (x.channel n).phantom = .queued ∧ (x.channel n).phantomTimer = 0 ∧
         (x.channel n).version = (s.part.channel n).version ∧
         x.chs.phantomQueue = s.part.chs.phantomQueue ++ [n] ∧ x.cmp = s.part.cmp ∧ x.ple = s.part.ple ∧
         x.api = s.part.api) ∧
       ((s.part.channel n).request = false ∨ s.part.dsc.opState ≠ .operate →
         (x.channel n).phantom = .off ∧ (x.channel n).phantomTimer = 0 ∧
         (x.channel n).version = ((s.part.channel n).version + 1) % 65536 ∧
         x.chs.phantomQueue = s.part.chs.phantomQueue ∧
         x.cmp = (s.part.cmp.notify (.channelChanged n
             { (s.part.channel n).echo with phantom := .off, version := ((s.part.channel n).version + 1) % 65536 } .phantom)).notify
           (.phantomDone n .off .timer s.part.rising s.part.chs.phantomQueue.length) ∧
         x.ple = x.laneAfter s.part [.channel n] ∧ x.api = s.part.api))

/-- A RETIRING contribution to be freed leaves its mix's list, the entries behind it close up, and the free count rises by 1;
no version, echo or notice comes of it. A dump pointer past the entry in this mix's list moves back by one, and stands in every
other position. The offset phases: LEAVING ends with every INPUT contribution at 0: the offset takes the pending offset, the
phase is ARRIVING and every LIVE INPUT contribution's target is K of its code; ARRIVING ends with every LIVE INPUT contribution
settled: the phase is STEADY and the pending offset equals the offset. Each raises the version by 1, produces one echo and
queues MIX_CHANGED with cause OFFSET. -/
def Obligations.MixStepsTaken : Prop :=
  (∀ (m : Nat) (c : Contrib) (before after : List Contrib) (s : State), m < s.part.mxe.mixes.length →
     (s.part.mix m).contribs = before ++ c :: after → (∀ b ∈ before, b.ref ≠ c.ref) → c.live = false → c.freeDue = true →
     let pos : DumpPos := match s.part.ple.dump with
       | .contrib n k => if n = m ∧ before.length < k then .contrib n (k - 1) else .contrib n k
       | stands => stands
     exec (.contribFreed m c.ref) s = .next { s with part := { s.part with
       mxe := ⟨s.part.mxe.mixes.set m { s.part.mix m with contribs := before ++ after }, s.part.mxe.free + 1⟩
       ple := { s.part.ple with dump := pos } } }) ∧
  (∀ (m : Nat) (s : State), m < s.part.mxe.mixes.length →
     let z := s.part.mix m
     (z.leavingDue = true → z.phase = .leaving → (∀ c ∈ z.contribs, c.ref.bank = .input → c.ramp.cur = 0) →
       ∃ x : Part, exec (.leavingEnd m) s = .next { s with part := x } ∧
         (x.mix m).echo = { z.echo with offset := z.pendingOffset, phase := .arriving, version := (z.version + 1) % 65536 } ∧
         (x.mix m).contribs = z.contribs.map (fun c =>
           { c with ramp := c.ramp.retarget (if c.live then faderK c.code else 0) }) ∧
         (∀ k, k ≠ m → x.mix k = s.part.mix k) ∧ x.mxe.free = s.part.mxe.free ∧ x.tka = s.part.tka ∧ x.chs = s.part.chs ∧
         x.cmp = s.part.cmp.notify (.mixChanged m (x.mix m).echo .offset) ∧ x.ple = x.laneAfter s.part [.mix m]) ∧
     (z.arrivingDue = true → z.phase = .arriving →
       (∀ c ∈ z.contribs, c.ref.bank = .input → c.live = true → c.ramp.count = 0 ∧ c.ramp.cur = c.ramp.target) →
       ∃ x : Part, exec (.arrivingEnd m) s = .next { s with part := x } ∧
         (x.mix m).echo = { z.echo with pendingOffset := z.offset, phase := .steady, version := (z.version + 1) % 65536 } ∧
         (x.mix m).contribs = z.contribs ∧
         (∀ k, k ≠ m → x.mix k = s.part.mix k) ∧ x.mxe.free = s.part.mxe.free ∧ x.tka = s.part.tka ∧ x.chs = s.part.chs ∧
         x.cmp = s.part.cmp.notify (.mixChanged m (x.mix m).echo .offset) ∧ x.ple = x.laneAfter s.part [.mix m]))

/-- A fade's end makes the destination FREE with no holder and arbitrates it at once: with no eligible session waiting it stays
FREE and every session stands (FOH CUE at an event of a severance too, the model's choice, log entry 42); a waiting eligible
session that comes before every other by priority, then by open order, holds it, its granted set gains it, and one echo and one
TALK_STATE with cause ARBITER tell of it (each fade end an event of its own, the model's choice, log entry 49). The dim and
talk ramps of the mix, or the cue ramp, take the targets of the state it then has. A latched session at its limit closes with
reason LIMIT: its record is removed, its version rises by 1, and each destination of its granted set becomes FADING; no other
destination changes; one echo and one TALK_STATE with cause LIMIT tell of each session changed, and the dim, talk and cue ramps
of each destination changed take its targets. That a limit raised since does not call it back is the model's choice (log entry
41). -/
def Obligations.TalkStepsTaken : Prop :=
  (∀ (d : Nat) (s : State), d < 17 → s.part.tka.dests.length = 17 → (s.part.dest d).fadeDue = true →
     (s.part.dest d).state = .fading →
     ∃ x : Part, exec (.fadeEnd d) s = .next { s with part := x } ∧
       (∀ k, k ≠ d → x.dest k = s.part.dest k) ∧ (s.part.mxe.mixes.length = 16 → x.TargetsFollow d) ∧
       ((∀ src z, s.part.session src = some z → z.waits d = true → s.part.eligible z d = false) →
         (x.dest d).state = .free ∧ (x.dest d).holder = none ∧ (∀ src, x.tka.source src = s.part.tka.source src) ∧
         x.cmp = s.part.cmp ∧ x.ple = s.part.ple) ∧
       ∀ src z, s.part.session src = some z → z.waits d = true → s.part.eligible z d = true →
         (∀ src' z', src' ≠ src → s.part.session src' = some z' → z'.waits d = true → s.part.eligible z' d = true →
           z'.priority < z.priority ∨ (z'.priority = z.priority ∧ newer16 z'.order z.order = true)) →
         (x.dest d).state = .held ∧ (x.dest d).holder = some src ∧
         x.session src = some { z with granted := z.granted ||| (1 <<< d) } ∧
         (x.tka.source src).version = ((s.part.tka.source src).version + 1) % 65536 ∧
         (∀ src', src' ≠ src → x.tka.source src' = s.part.tka.source src') ∧
         x.cmp = x.talkTold s.part .arbiter [src] ∧ x.ple = x.laneAfter s.part [.talk (sourceNum src)]) ∧
  (∀ (src : Source) (z : Session) (s : State), s.part.tka.dests.length = 17 → s.part.session src = some z →
     z.latched = true → z.latchDue = true →
     ∃ x : Part, exec (.latchedLimit src) s = .next { s with part := x } ∧
       x.tka.source src = ⟨none, ((s.part.tka.source src).version + 1) % 65536, .limit⟩ ∧
       (∀ d, d < 17 → x.dest d =
         if z.granted.testBit d = true then ⟨.fading, (s.part.dest d).holder, false⟩ else s.part.dest d) ∧
       x.tka.openCounter = s.part.tka.openCounter ∧ x.tka.cfg = s.part.tka.cfg ∧
       (s.part.mxe.mixes.length = 16 → ∀ d, d < 17 → z.granted.testBit d = true → x.TargetsFollow d) ∧
       x.cmp = x.talkTold s.part .limit [.foh, .mon, .stg] ∧
       x.ple = x.laneAfter s.part (x.talkEchoes s.part [.foh, .mon, .stg]))

/-! ### Host requests -/

/-- A read request at a ready port is answered OK with the fields its rule lists, and changes nothing else, but that GET_MIX at
STAGE clears the mix's clip flag; GET_MIX at DESK lists every contribution known LIVE, INPUT before RETURN, each with its gain
code and version; an identifier out of range is answered RANGE. METER_READ at a ready port: RANGE above meter 79; otherwise OK
with the entries first, first + 1 and so on modulo 80, as many as the count clamped to 80 gives and all 80 at a count of 0; the
held level and clip of each entry read are cleared, its age and every entry not read stand. -/
def Obligations.ReadRequestsReport : Prop :=
  (∀ (tag n : Nat) (s : State), s.part.PortReady →
     let x := s.part
     let lane : LaneStatus :=
       { queued := x.ple.queue.length
         inFlight := (x.ple.queue.filter fun r => r.seq.isSome).length
         marks := x.ple.marks.length
         nextSeq := x.ple.nextSeq
         expSeq := x.ple.expSeq
         ackRaised := x.ple.ackRaised
         episode := x.ple.episode
         quietTail := x.ple.quietTail
         dump := x.ple.dump
         mirror := if x.dsc.role = .desk then some x.mirror.state else none
         dups := x.ple.dups
         outOfOrder := x.ple.outOfOrder
         broken := x.ple.broken
         malformed := x.ple.malformed
         goBacks := x.ple.goBacks }
     let identity : IdentifyInfo :=
       { device := 0x6416
         revision := Config.siliconRevision.val + 1
         role := x.dsc.role
         lineSpeed := match x.cmp.speed1, x.cmp.speed0 with
           | false, false => 115200
           | false, true => 230400
           | true, false => 460800
           | true, true => 921600
         strap1 := x.cmp.speed1
         strap0 := x.cmp.speed0
         opState := x.dsc.opState
         wakeLeft := if x.dsc.opState = .waking then some x.dsc.wakeTimer else none
         heldState := x.dsc.heldState
         heldLink := x.dsc.heldLink
         restartFlag := x.dsc.restartFlag
         clock := match x.dsc.role with
           | .desk => ⟨.desk, some x.scu.source, x.scu.lock, none⟩
           | .stage => ⟨.stage, none, x.scu.lock, x.fmu.ref⟩
         qual := if x.dsc.role = .desk then some x.scu.qual else none
         lane := lane
         mask := x.cmp.mask
         lossFlag := x.cmp.lossFlag
         lost := x.cmp.lost
         frameErrors := x.cmp.frameErrors
         repliesLost := x.cmp.repliesLost }
     let usable (c : PathCtl) : Bool := decide (c.state = .inService ∨ c.state = .impaired)
     let linkFields : LinkInfo :=
       { link := x.fmu.link
         ref := x.fmu.ref
         usableA := usable x.pa
         usableB := usable x.pb
         p := x.fmu.p
         anchor := x.fmu.anchor
         delay := x.fmu.delay
         conceal := x.fmu.conceal.cur
         earlyA := x.fmu.earlyA
         earlyB := x.fmu.earlyB
         dupA := x.fmu.dupA
         dupB := x.fmu.dupB
         gaps := x.fmu.gaps
         reTotal := x.fmu.reTotal
         txSeq := x.fmu.txSeq }
     let pathFields (p : Path) : PathInfo :=
       let c := x.path p
       { cfg := c.cfg
         pair := x.pair
         state := c.state
         acquiring := if c.state = .acquiring then some (c.step, c.count, c.stepTimer) else none
         cause := c.cause
         light := c.light
         hist := c.hist
         tx := c.tx
         farRole := c.farRole
         lastBad := c.lastBad
         lastLate := c.lastLate
         recovery := c.recovery
         stallReported := c.stallReported }
     let chanFields : ChanInfo :=
       let c := x.channel n
       { gainTarget := c.gainTarget
         gain := c.gain
         walkTimer := c.walkTimer
         pad := c.pad
         inverted := c.inverted
         mute := c.mute
         request := c.request
         phantom := c.phantom
         phantomTimer := c.phantomTimer
         rampCur := c.ramp.cur
         rampTarget := c.ramp.target
         version := c.version
         queuePos := (x.chs.phantomQueue.findIdx? fun k => k == n).map fun k => k + 1
         rising := (x.chs.channels.filter fun c => c.phantom == .rising).length }
     let mixFields : MixInfo :=
       let z := x.mix n
       { fields := ⟨z.version, z.master, z.offset, z.pendingOffset, z.phase, z.dim, z.talkLevel, z.talkMask⟩
         masterCur := z.masterRamp.cur
         masterTarget := z.masterRamp.target
         dimCur := z.dimRamp.cur
         dimTarget := z.dimRamp.target
         talkCur := z.talkRamp.cur
         talkTarget := z.talkRamp.target
         dest := z.dest
         entries := z.contribs.length
         free := x.mxe.free
         contribs := z.contribs.map fun c => ⟨c.ref, c.live, c.code, c.ramp.cur⟩
         clip := z.clip }
     let sourceFields (r : SourceRec) : SourceInfo :=
       { session := r.session.map fun z =>
           (⟨z.priority, z.latched, z.requested, z.granted⟩, decide (z.granted ≠ 0), z.order, z.latchTimer)
         version := r.version
         reason := r.reason }
     let talkFields : TalkInfo :=
       { foh := sourceFields x.tka.foh
         mon := sourceFields x.tka.mon
         stg := sourceFields x.tka.stg
         dests := x.tka.dests.map fun d => (d.state, d.holder)
         cfg := x.tka.cfg
         cueCur := x.tka.cue.cur
         cueTarget := x.tka.cue.target
         openCounter := x.tka.openCounter }
     let answered (code : ReplyCode) (body : ReplyBody) : State :=
       { s with part := { s.part with cmp := { s.part.cmp with replies := s.part.cmp.replies ++ [⟨tag, code, body⟩] } } }
     let clipCleared : State :=
       let x := { s.part with mxe := { s.part.mxe with mixes := s.part.mxe.mixes.set n { s.part.mix n with clip := false } } }
       { s with part := { x with cmp := { x.cmp with replies := x.cmp.replies ++ [⟨tag, .ok, .mix mixFields⟩] } } }
     let live (row : List (Option ContribEcho)) : List (SrcRef × ContribEcho) := (List.range row.length).filterMap fun k =>
       match row.getD k none with
       | some e => if e.live.isSome = true then some (if k < 64 then ⟨.input, k⟩ else ⟨.ret, k - 64⟩, e) else none
       | none => none
     exec (.identify tag) s = .next (answered .ok (.identify identity)) ∧
     exec (.getLink tag) s = .next (answered .ok (.link linkFields)) ∧
     (n ≤ 1 → exec (.getPath tag n) s = .next (answered .ok (.path (pathFields (if n = 0 then .a else .b))))) ∧
     (1 < n → exec (.getPath tag n) s = .next (answered .range .none)) ∧
     (63 < n → exec (.getChannel tag n) s = .next (answered .range .none)) ∧
     (15 < n → exec (.getMix tag n) s = .next (answered .range .none)) ∧
     (s.part.dsc.role = .stage →
       (n ≤ 63 → exec (.getChannel tag n) s = .next (answered .ok (.channel chanFields))) ∧
       (n ≤ 15 → n < s.part.mxe.mixes.length → exec (.getMix tag n) s = .next clipCleared) ∧
       exec (.getTalk tag) s = .next (answered .ok (.talk talkFields)) ∧
       exec (.getLock tag) s = .next (answered .ok (.lock s.part.chs.locks))) ∧
     (s.part.dsc.role = .desk →
       (n ≤ 63 → exec (.getChannel tag n) s =
         .next (answered .ok (.channelMirror s.part.mirror.state (s.part.mirror.channels.getD n none)))) ∧
       (n ≤ 15 → exec (.getMix tag n) s = .next (answered .ok (.mixMirror s.part.mirror.state
         (s.part.mirror.mixes.getD n none) (live (s.part.mirror.contribs.getD n []))
         ((s.part.mirror.contribs.getD n []).filter Option.isNone).length))) ∧
       exec (.getTalk tag) s = .next (answered .ok (.talkMirror s.part.mirror.state s.part.mirror.foh s.part.mirror.mon
         s.part.mirror.stg s.part.mirror.cfg)) ∧
       exec (.getLock tag) s = .next (answered .ok (.lockMirror s.part.mirror.state s.part.mirror.locks)))) ∧
  (∀ (tag first count : Nat) (s : State), s.part.PortReady →
     (79 < first → exec (.meterRead tag first count) s = .next { s with part := s.part.answer tag .range }) ∧
     (first ≤ 79 →
       let n := if count = 0 then 80 else min 80 count
       let entry (k : Nat) : MeterInfo :=
         let e := s.part.mtu.table.getD k ⟨0, false, 321⟩
         ⟨k, e.level, e.clip, e.age, decide (320 < e.age)⟩
       ∃ table : List MeterEntry, exec (.meterRead tag first count) s = .next { s with part :=
           { s.part with
             mtu := { s.part.mtu with table := table }
             cmp := { s.part.cmp with replies := s.part.cmp.replies ++
               [⟨tag, .ok, .meters n ((List.range n).map fun i => entry ((first + i) % 80))⟩] } } } ∧
         table.length = s.part.mtu.table.length ∧
         ∀ k e, s.part.mtu.table[k]? = some e →
           table[k]? = some (if (∃ i, i < n ∧ (first + i) % 80 = k) then ⟨0, false, e.age⟩ else e)))

/-- SET_PLAYOUT at a ready port: STATE outside STANDBY; in STANDBY the delay clamped to 4 to 12 is answered ALREADY when it is
D, and otherwise becomes D and is answered OK. -/
def Obligations.PlayoutDelaySet : Prop :=
  ∀ (tag d : Nat) (s : State), s.part.PortReady →
    let v := if d < 4 then 4 else if 12 < d then 12 else d
    (s.part.dsc.opState ≠ .standby → exec (.setPlayout tag d) s = .next { s with part := s.part.answer tag .state }) ∧
    (s.part.dsc.opState = .standby → v = s.part.fmu.delay →
      exec (.setPlayout tag d) s = .next { s with part := s.part.answer tag .already }) ∧
    (s.part.dsc.opState = .standby → v ≠ s.part.fmu.delay →
      let x := { s.part with fmu := { s.part.fmu with delay := v } }
      exec (.setPlayout tag d) s = .next { s with part := x.answer tag .ok })

/-- SET_PATH at a ready port: RANGE for a path or preferred path above 1; ALREADY when every present field, clamped, holds its
value; otherwise the fields are written and answered OK. Disabling makes the path DISABLED with cause HOST, its bring-up
abandoned, its silence timer, recovery count, far role and stall flag cleared, and its transmitter OFF; enabling makes it DARK
with cause ENABLED, its dark timer at 0 and its transmitter FULL in OPERATE and OFF otherwise. With enabled unchanged,
auto-burst set off takes a transmitter from BURST to FULL; set on, it takes the transmitter of a DARK enabled path in OPERATE
whose dark timer stands at 96,000 to BURST with its counter at 0; unchanged, it leaves the path's state. -/
def Obligations.PathConfigured : Prop :=
  ∀ (tag n : Nat) (f : PathSet) (p : Path) (s : State), s.part.PortReady →
    let old := (s.part.path p).cfg
    let cfg : PathCfg :=
      { enabled := match f.enabled with
          | some v => decide (v ≠ 0)
          | none => old.enabled
        threshold := match f.threshold with
          | some v => if v < 1 then 1 else if 999 < v then 999 else v
          | none => old.threshold
        silenceSel := match f.silenceSel with
          | some v => min 3 v
          | none => old.silenceSel
        autoBurst := match f.autoBurst with
          | some v => decide (v ≠ 0)
          | none => old.autoBurst }
    let pair : PairCfg :=
      { preferred := match f.preferred with
          | some 0 => .a
          | some _ => .b
          | none => s.part.pair.preferred
        revertive := match f.revertive with
          | some v => decide (v ≠ 0)
          | none => s.part.pair.revertive }
    (1 < n ∨ (∃ v, f.preferred = some v ∧ 1 < v) →
      exec (.setPath tag n f) s = .next { s with part := s.part.answer tag .range }) ∧
    (n = (match p with
        | .a => 0
        | .b => 1) → (∀ v, f.preferred = some v → v ≤ 1) →
      (cfg = old → pair = s.part.pair → exec (.setPath tag n f) s = .next { s with part := s.part.answer tag .already }) ∧
      (cfg ≠ old ∨ pair ≠ s.part.pair →
        ∃ x : Part, exec (.setPath tag n f) s = .next { s with part := x.answer tag .ok } ∧
          (x.path p).cfg = cfg ∧ (x.path (otherPath p)).cfg = (s.part.path (otherPath p)).cfg ∧ x.pair = pair ∧
          x.cmp.replies = s.part.cmp.replies ∧
          (old.enabled = true → cfg.enabled = false →
            (x.path p).state = .disabled ∧ (x.path p).cause = .host ∧ (x.path p).tx = .off ∧ (x.path p).step = .none ∧
            (x.path p).farRole = none ∧ (x.path p).silenceTimer = 0 ∧ (x.path p).recovery = 0 ∧
            (x.path p).stallReported = false ∧ (x.path p).count = 0 ∧ (x.path p).stepTimer = 0) ∧
          (old.enabled = false → cfg.enabled = true →
            (x.path p).state = .dark ∧ (x.path p).cause = .enabled ∧ (x.path p).darkTimer = 0 ∧
            (x.path p).tx = (if s.part.dsc.opState = .operate then .full else .off)) ∧
          (cfg.enabled = old.enabled → cfg.autoBurst = old.autoBurst →
            s.part.anyUsable = true ∨ (s.part.path p).atAlign = false →
            x.path p = { s.part.path p with cfg := cfg }) ∧
          (cfg.enabled = old.enabled → cfg.autoBurst ≠ old.autoBurst →
            s.part.anyUsable = true ∨ (s.part.path p).atAlign = false →
            let c := { s.part.path p with cfg := cfg }
            (cfg.autoBurst = false → x.path p = { c with tx := if c.tx = .burst then .full else c.tx }) ∧
            (cfg.autoBurst = true →
              x.path p = if c.state = .dark ∧ s.part.dsc.opState = .operate ∧ cfg.enabled = true ∧ 96000 ≤ c.darkTimer ∧
                c.tx ≠ .burst then { c with tx := .burst, burstCounter := 0 } else c))))

/-- At a ready DESK port each of the nine requests for stage-owned state is answered RANGE for an identifier out of range,
ALREADY with no optional field present, and otherwise its record with clamped fields is offered to the transmit queue: ACCEPTED
when it is admitted, FULL with the queue unchanged when not, in every operating and link state. Admission to the transmit
queue. A CLEAR_MIX first removes the unsent edits of its mix. An unsent record of the same target is replaced in place: of two
of one kind with optional fields the new one's present fields overwrite the older one's, of two refusals the counts are added
up to 255, and any other new record replaces the older one whole; otherwise the record joins the tail of fewer than 32, and
else it is not admitted. -/
def Obligations.UpdatesForwarded : Prop :=
  (∀ (tag : Nat) (u : Update) (s : State), s.part.PortReady → s.part.dsc.role = .desk →
     let command : Instr := match u with
       | .setChannel ch f => .setChannel tag ch f
       | .setMix m f => .setMix tag m f
       | .putContrib m b i c => .putContrib tag m b i c
       | .dropContrib m b i => .dropContrib tag m b i
       | .clearMix m => .clearMix tag m
       | .openTalk src pri md set => .openTalk tag src pri md set
       | .closeTalk src => .closeTalk tag src
       | .setTalkCfg f => .setTalkCfg tag f
       | .setLock f => .setLock tag f
     let msg : LaneMsg := .update u.clamp
     (u.identOk .desk = false → exec command s = .next { s with part := s.part.answer tag .range }) ∧
     (u.identOk .desk = true → u.noField = true → exec command s = .next { s with part := s.part.answer tag .already }) ∧
     (u.identOk .desk = true → u.noField = false →
       (∀ q, admitTo msg s.part.ple.queue = some q →
         let x := { s.part with ple := { s.part.ple with queue := q } }
         exec command s = .next { s with part := x.answer tag .accepted }) ∧
       (admitTo msg s.part.ple.queue = none → exec command s = .next { s with part := s.part.answer tag .full }))) ∧
  ((∀ (msg : LaneMsg) (queue : List LaneRec),
     let kept := match msg with
       | .update (.clearMix m) => queue.filter fun r => !(r.seq.isNone &&
           (match r.msg with
            | .update (.putContrib k _ _ _) => k == m
            | .update (.dropContrib k _ _) => k == m
            | _ => false))
       | _ => queue
     ((∀ r ∈ kept, r.seq = none → r.msg.target ≠ msg.target) →
       admitTo msg queue = if kept.length < 32 then some (kept ++ [⟨msg, none⟩]) else none) ∧
     (∀ before r after, kept = before ++ r :: after → r.seq = none → r.msg.target = msg.target →
       (∀ b ∈ before, b.seq = none → b.msg.target ≠ msg.target) →
       admitTo msg queue = some (before ++ ⟨mergeMsg r.msg msg, none⟩ :: after))) ∧
   (∀ ch k o new, mergeMsg (.update (.setChannel k o)) (.update (.setChannel ch new)) =
     .update (.setChannel ch ⟨new.gain.or o.gain, new.pad.or o.pad, new.polarity.or o.polarity, new.mute.or o.mute,
       new.phantom.or o.phantom⟩)) ∧
   (∀ m k o new, mergeMsg (.update (.setMix k o)) (.update (.setMix m new)) =
     .update (.setMix m ⟨new.master.or o.master, new.offset.or o.offset, new.dim.or o.dim, new.talkLevel.or o.talkLevel,
       new.talkMask.or o.talkMask⟩)) ∧
   (∀ o new, mergeMsg (.update (.setTalkCfg o)) (.update (.setTalkCfg new)) =
     .update (.setTalkCfg ⟨new.cueMask.or o.cueMask, new.cueLevel.or o.cueLevel, new.limit.or o.limit⟩)) ∧
   (∀ o new, mergeMsg (.update (.setLock o)) (.update (.setLock new)) =
     .update (.setLock ⟨new.preamp.or o.preamp, new.condition.or o.condition, new.mix.or o.mix, new.talk.or o.talk⟩)) ∧
   (∀ id why k id' why' k', mergeMsg (.refused id why k) (.refused id' why' k') = .refused id' why' (min 255 (k + k'))) ∧
   ∀ old new : LaneMsg, (old.kind ≠ new.kind ∨ new.kind ∉ [0x01, 0x02, 0x08, 0x09, 0x16]) → mergeMsg old new = new)

/-! ### Requests for stage-owned state at the STAGE end -/

/-- SET_CHANNEL at a ready STAGE port: RANGE above channel 63; LOCKED when a present field, clamped, would change a locked
class; ALREADY when nothing would change; otherwise OK: the present fields are written, the version rises by 1, one echo of the
channel is produced, CHANNEL_CHANGED is queued with cause HOST, and a change of the phantom request acts in OPERATE as R95 and
Table 5-4 say: OFF rises for 12,000 events or joins the queue, QUEUED leaves the queue and is OFF with PHANTOM_DONE (cause
REQUEST) after CHANNEL_CHANGED, RISING and ON fall for 24,000, and the head of the queue takes the place a RISING channel
frees. A changed pad or phantom-on hands the API one record of the channel's values, and a channel that takes a freed place one
of its own. The applied gain and the walk timer stand. The same record applied from the lane does the same, no lock checked,
with cause LANE; with nothing to change it changes nothing. -/
def Obligations.ChannelSetAtStage : Prop :=
  ∀ (tag n : Nat) (f : ChanSet) (s : State), s.part.dsc.role = .stage → s.part.PhantomInv →
    let c := s.part.channel n
    let flag (v : Option Nat) (held : Bool) : Bool := match v with
      | some k => decide (k ≠ 0)
      | none => held
    let gain := match f.gain with
      | some g => min 60 g
      | none => c.gainTarget
    let pad := flag f.pad c.pad
    let inverted := flag f.polarity c.inverted
    let mute := flag f.mute c.mute
    let request := flag f.phantom c.request
    let preamp := gain ≠ c.gainTarget ∨ pad ≠ c.pad ∨ request ≠ c.request
    let condition := inverted ≠ c.inverted ∨ mute ≠ c.mute
    let locked := (s.part.chs.locks.preamp = true ∧ preamp) ∨ (s.part.chs.locks.condition = true ∧ condition)
    let acts := request ≠ c.request ∧ s.part.dsc.opState = .operate
    let queue := s.part.chs.phantomQueue
    let frees := acts ∧ request = false ∧ c.phantom = .rising
    let on (p : Phantom) : Bool := p == .rising || p == .on
    let after (x : Part) (cause : ChangeCause) : Prop :=
      (x.channel n).gainTarget = gain ∧ (x.channel n).pad = pad ∧ (x.channel n).inverted = inverted ∧
      (x.channel n).mute = mute ∧ (x.channel n).request = request ∧ (x.channel n).version = (c.version + 1) % 65536 ∧
      (x.channel n).gain = c.gain ∧ (x.channel n).walkTimer = c.walkTimer ∧
      (¬ acts → (x.channel n).phantom = c.phantom ∧ (x.channel n).phantomTimer = c.phantomTimer ∧ x.chs.phantomQueue = queue) ∧
      (acts → ((x.channel n).phantom, (x.channel n).phantomTimer, x.chs.phantomQueue) =
        match request, c.phantom with
        | true, .off => if s.part.rising < 6 then (.rising, 12000, queue) else (.queued, 0, queue ++ [n])
        | false, .queued => (.off, 0, queue.filter fun k => k != n)
        | false, .rising => (.falling, 24000, queue.tail)
        | false, .on => (.falling, 24000, queue)
        | _, st => (st, c.phantomTimer, queue)) ∧
      (∀ k, k ≠ n → frees ∧ queue.head? = some k →
        (x.channel k).phantom = .rising ∧ (x.channel k).phantomTimer = 12000 ∧
        (x.channel k).version = (s.part.channel k).version ∧ (x.channel k).request = (s.part.channel k).request) ∧
      (∀ k, k ≠ n → ¬ (frees ∧ queue.head? = some k) → x.channel k = s.part.channel k) ∧
      (mute ≠ c.mute ∨ (x.channel n).phantom ≠ c.phantom → (x.channel n).ramp.target =
        if mute = false ∧ ((x.channel n).phantom = .off ∨ (x.channel n).phantom = .on) ∧ s.part.dsc.opState = .operate
        then 65536 else 0) ∧
      (let changed := s.part.cmp.notify (.channelChanged n (x.channel n).echo cause)
       (acts ∧ request = false ∧ c.phantom = .queued →
        x.cmp = changed.notify (.phantomDone n .off .request s.part.rising (queue.length - 1))) ∧
       (¬ (acts ∧ request = false ∧ c.phantom = .queued) → x.cmp = changed)) ∧
      x.ple = x.laneAfter s.part [.channel n] ∧
      (let hand (k : Nat) (waits : List PreampRecord) : List PreampRecord :=
        let record : PreampRecord := ⟨k, (x.channel k).gain, (x.channel k).pad, on (x.channel k).phantom⟩
        if (waits.any fun e => e.channel == k) = true then waits.map fun e => if e.channel = k then record else e
        else waits ++ [record]
       let own := if pad ≠ c.pad ∨ on (x.channel n).phantom ≠ on c.phantom then hand n s.part.api.queue else s.part.api.queue
       (∀ k, frees → queue.head? = some k → x.api = { s.part.api with queue := hand k own }) ∧
       (¬ (frees ∧ queue ≠ []) → x.api = { s.part.api with queue := own })) ∧
      x.mxe = s.part.mxe ∧ x.tka = s.part.tka ∧ x.fmu = s.part.fmu ∧ x.chs.locks = s.part.chs.locks
    (s.part.PortReady →
      (63 < n → exec (.setChannel tag n f) s = .next { s with part := s.part.answer tag .range }) ∧
      (n ≤ 63 → locked → exec (.setChannel tag n f) s = .next { s with part := s.part.answer tag .locked }) ∧
      (n ≤ 63 → ¬ preamp → ¬ condition → exec (.setChannel tag n f) s = .next { s with part := s.part.answer tag .already }) ∧
      (n ≤ 63 → ¬ locked → (preamp ∨ condition) →
        ∃ x : Part, exec (.setChannel tag n f) s = .next { s with part := x.answer tag .ok } ∧ after x .host)) ∧
    (n ≤ 63 → ¬ preamp → ¬ condition → s.part.applyMsg (.update (.setChannel n f)) = s.part) ∧
    (n ≤ 63 → (preamp ∨ condition) → after (s.part.applyMsg (.update (.setChannel n f))) .lane)

/-- SET_MIX at a ready STAGE port: RANGE above mix 15; LOCKED when a present field, clamped, would change a locked class;
ALREADY when nothing would change; otherwise OK: the present fields are written, an offset that counts as a change becomes the
pending offset and begins LEAVING with every INPUT contribution falling, the dim and talk ramps take the targets of the codes
and the destination's state, the version rises by 1, one echo of the mix is produced, and MIX_CHANGED is queued with cause
HOST. A changed mask has destination m judged again first: a holder no longer eligible makes it FADING and leaves its granted
set, one still eligible stands; a FREE one is granted to the best eligible waiting session, or stays FREE; a FADING one stands;
the sessions it changes are published with cause ARBITER, their echoes and notices before the mix's (the model's choice, log
entry 26). The same record applied from the lane does the same, no lock checked, with cause LANE; with nothing to change it
changes nothing. -/
def Obligations.MixSetAtStage : Prop :=
  ∀ (tag m : Nat) (f : MixSet) (s : State), s.part.dsc.role = .stage → s.part.mxe.mixes.length = 16 →
    let z := s.part.mix m
    let code (v : Option Nat) (top held : Nat) : Nat := match v with
      | some k => min top k
      | none => held
    let master := code f.master 255 z.master
    let dim := code f.dim 255 z.dim
    let level := code f.talkLevel 255 z.talkLevel
    let mask := code f.talkMask 6 z.talkMask
    let pending := code f.offset 63 (if z.phase = .leaving then z.pendingOffset else z.offset)
    let moved := pending ≠ (if z.phase = .leaving then z.pendingOffset else z.offset)
    let leaves := moved ∧ z.phase ≠ .leaving
    let mixClass := master ≠ z.master ∨ moved
    let talkClass := dim ≠ z.dim ∨ level ≠ z.talkLevel ∨ mask ≠ z.talkMask
    let locked := (s.part.chs.locks.mix = true ∧ mixClass) ∨ (s.part.chs.locks.talk = true ∧ talkClass)
    let order : List Source := [.foh, .mon, .stg]
    let passes (o : Session) : Prop := o.requested.testBit m = true ∧ (mask < o.priority ∨ o.priority = 7)
    let may (o : Session) : Prop := o.granted.testBit m = false ∧ passes o
    let after (x : Part) (cause : ChangeCause) : Prop :=
      (x.mix m).echo =
        { version := (z.version + 1) % 65536
          master := master
          offset := z.offset
          pendingOffset := if moved then pending else z.pendingOffset
          phase := if leaves then .leaving else z.phase
          dim := dim
          talkLevel := level
          talkMask := mask } ∧
      (x.mix m).masterRamp.target = (if s.part.dsc.opState = .operate then faderK master else 0) ∧
      (x.mix m).dimRamp.target = (if (x.mix m).dest = .held then faderK dim else 65536) ∧
      (x.mix m).talkRamp.target = (if (x.mix m).dest = .held then faderK level else 0) ∧
      (s.part.tka.dests.length = 17 → z.dest = (s.part.dest m).state → (x.mix m).dest = (x.dest m).state) ∧
      (x.mix m).contribs.map (fun c => (c.ref, c.code, c.live, c.ramp.cur)) =
        z.contribs.map (fun c => (c.ref, c.code, c.live, c.ramp.cur)) ∧
      (leaves → ∀ c ∈ (x.mix m).contribs, c.ref.bank = .input → c.ramp.target = 0) ∧
      (¬ leaves → (x.mix m).contribs = z.contribs) ∧
      (∀ k, k ≠ m → x.mix k = s.part.mix k) ∧ x.mxe.free = s.part.mxe.free ∧ x.chs = s.part.chs ∧ x.fmu = s.part.fmu ∧
      x.cmp = (x.talkTold s.part .arbiter order).notify (.mixChanged m (x.mix m).echo cause) ∧
      x.ple = x.laneAfter s.part (x.talkEchoes s.part order ++ [.mix m]) ∧
      (∀ d, d ≠ m → x.dest d = s.part.dest d) ∧
      (mask = z.talkMask ∨ (s.part.dest m).state = .fading → x.tka = s.part.tka) ∧
      (mask ≠ z.talkMask → s.part.tka.dests.length = 17 →
        (∀ h o, (s.part.dest m).state = .held → (s.part.dest m).holder = some h → s.part.session h = some o →
          (passes o → x.tka = s.part.tka) ∧
          (¬ passes o → x.dest m = ⟨.fading, some h, false⟩ ∧ (∀ src, src ≠ h → x.tka.source src = s.part.tka.source src) ∧
            (o.granted.testBit m = true →
              (x.tka.source h).version = ((s.part.tka.source h).version + 1) % 65536) ∧
            ∃ now, x.session h = some now ∧ now.granted.testBit m = false ∧
              ∀ d, d ≠ m → now.granted.testBit d = o.granted.testBit d)) ∧
        ((s.part.dest m).state = .free →
          ((∀ src o, s.part.session src = some o → ¬ may o) → x.tka = s.part.tka) ∧
          ∀ src o, s.part.session src = some o → may o →
            (∀ src' o', src' ≠ src → s.part.session src' = some o' → may o' →
              o'.priority < o.priority ∨ (o'.priority = o.priority ∧ newer16 o'.order o.order = true)) →
            x.dest m = ⟨.held, some src, false⟩ ∧ x.session src = some { o with granted := o.granted ||| (1 <<< m) } ∧
            (x.tka.source src).version = ((s.part.tka.source src).version + 1) % 65536 ∧
            ∀ src', src' ≠ src → x.tka.source src' = s.part.tka.source src'))
    (s.part.PortReady →
      (15 < m → exec (.setMix tag m f) s = .next { s with part := s.part.answer tag .range }) ∧
      (m ≤ 15 → locked → exec (.setMix tag m f) s = .next { s with part := s.part.answer tag .locked }) ∧
      (m ≤ 15 → ¬ mixClass → ¬ talkClass → exec (.setMix tag m f) s = .next { s with part := s.part.answer tag .already }) ∧
      (m ≤ 15 → ¬ locked → (mixClass ∨ talkClass) →
        ∃ x : Part, exec (.setMix tag m f) s = .next { s with part := x.answer tag .ok } ∧ after x .host)) ∧
    (m ≤ 15 → ¬ mixClass → ¬ talkClass → s.part.applyMsg (.update (.setMix m f)) = s.part) ∧
    (m ≤ 15 → (mixClass ∨ talkClass) → after (s.part.applyMsg (.update (.setMix m f))) .lane)

/-- PUT_CONTRIB, DROP_CONTRIB and CLEAR_MIX at a ready STAGE port, for identifiers in range: LOCKED when class MIX is locked
and the list would change; a new reference with no free entry or 48 entries in the mix is FULL; an edit that finds nothing to
change is ALREADY; otherwise OK, the list changes as R113 and R114 say, the version rises by 1, and one echo and
CONTRIB_CHANGED follow for each contribution changed, in list order. The same records applied from the lane do the same, no
lock checked, with cause LANE; one that finds nothing to change changes nothing. -/
def Obligations.ContributionsEditedAtStage : Prop :=
  ∀ (tag m b i code : Nat) (r : SrcRef) (s : State), s.part.dsc.role = .stage → m ≤ 15 →
    s.part.mxe.mixes.length = 16 → (b = 0 ∧ i ≤ 63 ∧ r = ⟨.input, i⟩ ∨ b = 1 ∧ i ≤ 7 ∧ r = ⟨.ret, i⟩) →
    let z := s.part.mix m
    let k := min 255 code
    let level : Int := if r.bank = .input ∧ z.phase = .leaving then 0 else faderK k
    let after (x : Part) (list : List Contrib) (free : Nat) (changed : List SrcRef) (cause : ChangeCause) : Prop :=
      x.mix m = { z with contribs := list, version := (z.version + 1) % 65536 } ∧ x.mxe.free = free ∧
      (∀ j, j ≠ m → x.mix j = s.part.mix j) ∧ x.tka = s.part.tka ∧ x.chs = s.part.chs ∧
      x.cmp = changed.foldl (fun c q => c.notify (.contribChanged m q ((x.mix m).contribEcho q) cause)) s.part.cmp ∧
      x.ple = x.laneAfter s.part (changed.map (refTarget m))
    let put := Instr.putContrib tag m b i code
    let drop := Instr.dropContrib tag m b i
    let clear := Instr.clearMix tag m
    let putRecord := LaneMsg.update (.putContrib m b i code)
    let dropRecord := LaneMsg.update (.dropContrib m b i)
    let clearRecord := LaneMsg.update (.clearMix m)
    let answered (cmd : Instr) (why : ReplyCode) : Prop :=
      s.part.PortReady → exec cmd s = .next { s with part := s.part.answer tag why }
    let stands (cmd : Instr) (record : LaneMsg) : Prop := answered cmd .already ∧ s.part.applyMsg record = s.part
    let edited (cmd : Instr) (record : LaneMsg) (list : List Contrib) (free : Nat) (changed : List SrcRef) : Prop :=
      (s.part.chs.locks.mix = true → answered cmd .locked) ∧
      (s.part.chs.locks.mix = false → s.part.PortReady →
        ∃ x : Part, exec cmd s = .next { s with part := x.answer tag .ok } ∧ after x list free changed .host) ∧
      after (s.part.applyMsg record) list free changed .lane
    ((∀ c ∈ z.contribs, c.ref ≠ r) → s.part.mxe.free = 0 ∨ 48 ≤ z.contribs.length → answered put .full) ∧
    ((∀ c ∈ z.contribs, c.ref ≠ r) → 0 < s.part.mxe.free → z.contribs.length < 48 →
      edited put putRecord (z.contribs ++ [⟨r, k, (⟨0, 0, 0, 0⟩ : Ramp).retarget level, true, false⟩]) (s.part.mxe.free - 1)
        [r]) ∧
    (∀ c, z.find r = some c → c.live = true → c.code = k → stands put putRecord) ∧
    (∀ c, z.find r = some c → c.live = false ∨ c.code ≠ k →
      edited put putRecord (z.contribs.map fun c =>
        if c.ref = r then { c with code := k, live := true, freeDue := false, ramp := c.ramp.retarget level } else c)
        s.part.mxe.free [r]) ∧
    ((∀ c, z.find r = some c → c.live = false) → stands drop dropRecord) ∧
    (∀ c, z.find r = some c → c.live = true →
      edited drop dropRecord (z.contribs.map fun c =>
        if c.ref = r then { c with live := false, freeDue := false, ramp := c.ramp.retarget 0 } else c)
        s.part.mxe.free [r]) ∧
    ((∀ c ∈ z.contribs, c.live = false) → stands clear clearRecord) ∧
    ((∃ c ∈ z.contribs, c.live = true) →
      edited clear clearRecord (z.contribs.map fun c =>
        if c.live then { c with live := false, freeDue := false, ramp := c.ramp.retarget 0 } else c)
        s.part.mxe.free ((z.contribs.filter fun c => c.live).map fun c => c.ref))

/-- OPEN_TALK at a ready STAGE port: RANGE for a source other than MON and STAGE or a set beyond destination 16; STATE outside
OPERATE; a source with no session opens one with its priority clamped to 1 to 7 and the next open order: a FREE requested
destination it is eligible for is granted, one held by a session of lower priority becomes FADING, any other stands. Each
session changed gives one echo and one TALK_STATE, in source order with the opener last (the echoes' order is the model's
choice, log entry 43). The dim and talk ramps of each mix destination changed, and the cue ramp, take the targets of its new
state. An OPEN_TALK record of FOH applied from the lane, in OPERATE with the link up, does the same, with cause LANE. OPEN_TALK
from a source whose session is open, at a ready STAGE port in OPERATE, is an amend, answered OK: priority, mode and requested
set are replaced, the session takes the next open order and its latch timer returns to 0. A destination it holds stands,
undisturbed, while still requested and the session eligible for it, and else becomes FADING; a requested one it does not hold
is arbitrated as at an open; the ramps of each destination changed take its targets. The version rises only when what the echo
carries changes; echoes and notices are as at an open, and so is an amend of FOH's session by the lane. CLOSE_TALK at a ready
STAGE port: RANGE for a source other than MON and STAGE; with a session of the source OK: the record is removed with reason
CLOSE, its version rises by 1 and each destination of its granted set becomes FADING, its ramps taking their targets; with none
ALREADY. The close gives one echo and one TALK_STATE. A CLOSE_TALK record of FOH applied from the lane does the same with cause
LANE, and nothing with no session. -/
def Obligations.TalkOpenedAndClosedAtStage : Prop :=
  (∀ (tag n pri mode set : Nat) (src : Source) (s : State), s.part.dsc.role = .stage →
     s.part.tka.dests.length = 17 →
     let p := if pri < 1 then 1 else if 7 < pri then 7 else pri
     let up := s.part.fmu.link = .protect ∨ s.part.fmu.link = .exposed
     let wants (d : Nat) : Prop := set.testBit d = true ∧ (s.part.maskOf d < p ∨ p = 7) ∧ (d = 16 → up)
     let after (x : Part) (order : List Source) (cause : TalkCause) : Prop :=
       ∃ z : Session, x.session src = some z ∧ z.priority = p ∧ z.latched = decide (mode ≠ 0) ∧ z.requested = set ∧
         z.order = (s.part.tka.openCounter + 1) % 65536 ∧ x.tka.openCounter = z.order ∧ z.latchTimer = 0 ∧
         (x.tka.source src).version = ((s.part.tka.source src).version + 1) % 65536 ∧
         (∀ d, d < 17 → (z.granted.testBit d = true ↔ (s.part.dest d).state = .free ∧ wants d)) ∧
         (∀ d, d < 17 → (s.part.dest d).state = .free →
           (wants d → (x.dest d).state = .held ∧ (x.dest d).holder = some src) ∧ (¬ wants d → x.dest d = s.part.dest d)) ∧
         (∀ d, d < 17 → (s.part.dest d).state = .fading → x.dest d = s.part.dest d) ∧
         (∀ d h o, d < 17 → (s.part.dest d).state = .held → (s.part.dest d).holder = some h → h ≠ src →
           s.part.session h = some o →
           x.dest d = if o.priority < p ∧ wants d then ⟨.fading, some h, false⟩ else s.part.dest d) ∧
         (s.part.mxe.mixes.length = 16 → ∀ d, d < 17 → x.dest d ≠ s.part.dest d → x.TargetsFollow d) ∧
         x.cmp = x.talkTold s.part cause order ∧ x.ple = x.laneAfter s.part (x.talkEchoes s.part order)
     (s.part.PortReady → n = 0 ∨ 2 < n ∨ 131072 ≤ set →
       exec (.openTalk tag n pri mode set) s = .next { s with part := s.part.answer tag .range }) ∧
     (s.part.PortReady → n = 1 ∧ src = .mon ∨ n = 2 ∧ src = .stg → set < 131072 →
       (s.part.dsc.opState ≠ .operate →
         exec (.openTalk tag n pri mode set) s = .next { s with part := s.part.answer tag .state }) ∧
       (s.part.dsc.opState = .operate → s.part.session src = none →
         ∃ x : Part, exec (.openTalk tag n pri mode set) s = .next { s with part := x.answer tag .ok } ∧
           after x (if src = .mon then [.foh, .stg, .mon] else [.foh, .mon, .stg]) .host)) ∧
     (src = .foh → set < 131072 → s.part.dsc.opState = .operate → up → s.part.session .foh = none →
       after (s.part.applyMsg (.update (.openTalk 0 pri mode set))) [.mon, .stg, .foh] .lane)) ∧
  (∀ (tag n pri mode set : Nat) (src : Source) (old : Session) (s : State), s.part.dsc.role = .stage →
     s.part.TalkInv → set < 131072 → s.part.dsc.opState = .operate → s.part.session src = some old →
     let p := if pri < 1 then 1 else if 7 < pri then 7 else pri
     let up := s.part.fmu.link = .protect ∨ s.part.fmu.link = .exposed
     let wants (d : Nat) : Prop := set.testBit d = true ∧ (s.part.maskOf d < p ∨ p = 7) ∧ (d = 16 → up)
     let mine (d : Nat) : Prop := (s.part.dest d).state = .held ∧ (s.part.dest d).holder = some src
     let after (x : Part) (order : List Source) (cause : TalkCause) : Prop :=
       ∃ z : Session, x.session src = some z ∧ z.priority = p ∧ z.latched = decide (mode ≠ 0) ∧ z.requested = set ∧
         z.order = (s.part.tka.openCounter + 1) % 65536 ∧ x.tka.openCounter = z.order ∧ z.latchTimer = 0 ∧
         (z.echo = old.echo → (x.tka.source src).version = (s.part.tka.source src).version) ∧
         (z.echo ≠ old.echo → (x.tka.source src).version = ((s.part.tka.source src).version + 1) % 65536) ∧
         x.cmp = x.talkTold s.part cause order ∧ x.ple = x.laneAfter s.part (x.talkEchoes s.part order) ∧
         (∀ d, d < 17 → x.dest d ≠ s.part.dest d → x.TargetsFollow d) ∧
         ∀ d, d < 17 →
           (z.granted.testBit d = true ↔ (mine d ∨ (s.part.dest d).state = .free) ∧ wants d) ∧
           (mine d → wants d → x.dest d = s.part.dest d ∧ (d < 16 → x.mix d = s.part.mix d)) ∧
           (mine d → ¬ wants d → x.dest d = ⟨.fading, some src, false⟩) ∧
           ((s.part.dest d).state = .free → wants d → x.dest d = ⟨.held, some src, false⟩) ∧
           ((s.part.dest d).state = .free → ¬ wants d → x.dest d = s.part.dest d) ∧
           ((s.part.dest d).state = .fading → x.dest d = s.part.dest d) ∧
           (∀ h o, (s.part.dest d).state = .held → (s.part.dest d).holder = some h → h ≠ src → s.part.session h = some o →
             (o.priority < p → wants d → x.dest d = ⟨.fading, some h, false⟩) ∧
             (p ≤ o.priority ∨ ¬ wants d → x.dest d = s.part.dest d))
     (s.part.PortReady → n = 1 ∧ src = .mon ∨ n = 2 ∧ src = .stg →
       ∃ x : Part, exec (.openTalk tag n pri mode set) s = .next { s with part := x.answer tag .ok } ∧
         after x (if src = .mon then [.foh, .stg, .mon] else [.foh, .mon, .stg]) .host) ∧
     (src = .foh → up → after (s.part.applyMsg (.update (.openTalk 0 pri mode set))) [.mon, .stg, .foh] .lane)) ∧
  (∀ (tag n : Nat) (src : Source) (s : State), s.part.dsc.role = .stage → s.part.tka.dests.length = 17 →
     let after (z : Session) (x : Part) (cause : TalkCause) : Prop :=
       x.tka.source src = ⟨none, ((s.part.tka.source src).version + 1) % 65536, .close⟩ ∧
       (∀ d, d < 17 → x.dest d =
         if z.granted.testBit d = true then ⟨.fading, (s.part.dest d).holder, false⟩ else s.part.dest d) ∧
       (s.part.mxe.mixes.length = 16 → ∀ d, d < 17 → z.granted.testBit d = true → x.TargetsFollow d) ∧
       x.tka.cfg = s.part.tka.cfg ∧ x.tka.openCounter = s.part.tka.openCounter ∧ x.chs = s.part.chs ∧
       x.cmp = x.talkTold s.part cause [.foh, .mon, .stg] ∧
       x.ple = x.laneAfter s.part (x.talkEchoes s.part [.foh, .mon, .stg])
     (s.part.PortReady → n = 0 ∨ 2 < n → exec (.closeTalk tag n) s = .next { s with part := s.part.answer tag .range }) ∧
     (s.part.PortReady → n = 1 ∧ src = .mon ∨ n = 2 ∧ src = .stg →
       (s.part.session src = none → exec (.closeTalk tag n) s = .next { s with part := s.part.answer tag .already }) ∧
       ∀ z, s.part.session src = some z →
         ∃ x : Part, exec (.closeTalk tag n) s = .next { s with part := x.answer tag .ok } ∧ after z x .host) ∧
     (src = .foh →
       (s.part.session .foh = none → s.part.applyMsg (.update (.closeTalk 0)) = s.part) ∧
       ∀ z, s.part.session .foh = some z → after z (s.part.applyMsg (.update (.closeTalk 0))) .lane))

/-- SET_TALKCFG at a ready STAGE port: LOCKED when class TALK is locked and a present field, clamped, would change; ALREADY
when nothing would; otherwise OK with the fields written, the version raised by 1, one echo, TALK_STATE in configuration form,
and the cue ramp's target by FOH CUE's state. A changed mask has FOH CUE judged again first: a holder no longer eligible makes
it FADING and leaves its granted set, one still eligible stands; FREE, it is granted to the best eligible waiting session, or
stays FREE; FADING, it stands; the sessions it changes are published with cause ARBITER, their echoes and notices before the
configuration's (the model's choice, log entry 26). With a changed level and mask together the cue ramp takes the new level's
target first, and then that of the state the mask gives (the model's choice, log entry 47). The same record applied from the
lane does the same, no lock checked, with cause LANE; with nothing to change it changes nothing. SET_LOCK at a ready STAGE port
is answered STATE and changes nothing. A SET_LOCK record from the lane writes each present class; with a change the version
rises by 1, one echo of the locks is produced and LOCK_CHANGED queued, and with none nothing is produced. -/
def Obligations.TalkAndLocksConfigured : Prop :=
  (∀ (tag : Nat) (f : TalkCfgSet) (s : State), s.part.dsc.role = .stage →
     let c := s.part.tka.cfg
     let mask := match f.cueMask with
       | some v => min 6 v
       | none => c.cueMask
     let level := match f.cueLevel with
       | some v => min 255 v
       | none => c.cueLevel
     let limit := match f.limit with
       | some v => if v < 5 then 5 else if 600 < v then 600 else v
       | none => c.limit
     let changes := mask ≠ c.cueMask ∨ level ≠ c.cueLevel ∨ limit ≠ c.limit
     let up := s.part.fmu.link = .protect ∨ s.part.fmu.link = .exposed
     let order : List Source := [.foh, .mon, .stg]
     let passes (o : Session) : Prop := o.requested.testBit 16 = true ∧ (mask < o.priority ∨ o.priority = 7) ∧ up
     let may (o : Session) : Prop := o.granted.testBit 16 = false ∧ passes o
     let after (x : Part) (cause : TalkCause) : Prop :=
       let stands := x.dest 16 = s.part.dest 16 ∧ ∀ src, x.tka.source src = s.part.tka.source src
       x.tka.cfg = ⟨mask, level, limit, (c.version + 1) % 65536⟩ ∧ x.tka.openCounter = s.part.tka.openCounter ∧
       x.tka.cue.target = (if (x.dest 16).state = .held then faderK level else 0) ∧ x.tka.cue.cur = s.part.tka.cue.cur ∧
       (∀ d, d ≠ 16 → x.dest d = s.part.dest d) ∧ x.mxe = s.part.mxe ∧ x.chs = s.part.chs ∧
       x.cmp = (x.talkTold s.part .arbiter order).notify (.talkCfgState x.tka.cfg cause) ∧
       x.ple = x.laneAfter s.part (x.talkEchoes s.part order ++ [.talkCfg]) ∧
       (mask = c.cueMask ∨ (s.part.dest 16).state = .fading → stands) ∧
       (mask ≠ c.cueMask → s.part.tka.dests.length = 17 →
         (∀ h o, (s.part.dest 16).state = .held → (s.part.dest 16).holder = some h → s.part.session h = some o →
           (passes o → stands) ∧
           (¬ passes o → x.dest 16 = ⟨.fading, some h, false⟩ ∧ (∀ src, src ≠ h → x.tka.source src = s.part.tka.source src) ∧
             (o.granted.testBit 16 = true →
               (x.tka.source h).version = ((s.part.tka.source h).version + 1) % 65536) ∧
             ∃ now, x.session h = some now ∧ now.granted.testBit 16 = false ∧
               ∀ d, d ≠ 16 → now.granted.testBit d = o.granted.testBit d)) ∧
         ((s.part.dest 16).state = .free →
           ((∀ src o, s.part.session src = some o → ¬ may o) → stands) ∧
           ∀ src o, s.part.session src = some o → may o →
             (∀ src' o', src' ≠ src → s.part.session src' = some o' → may o' →
               o'.priority < o.priority ∨ (o'.priority = o.priority ∧ newer16 o'.order o.order = true)) →
             x.dest 16 = ⟨.held, some src, false⟩ ∧ x.session src = some { o with granted := o.granted ||| (1 <<< 16) } ∧
             (x.tka.source src).version = ((s.part.tka.source src).version + 1) % 65536 ∧
             ∀ src', src' ≠ src → x.tka.source src' = s.part.tka.source src'))
     (s.part.PortReady →
       (¬ changes → exec (.setTalkCfg tag f) s = .next { s with part := s.part.answer tag .already }) ∧
       (changes → s.part.chs.locks.talk = true → exec (.setTalkCfg tag f) s = .next { s with part := s.part.answer tag .locked }) ∧
       (changes → s.part.chs.locks.talk = false →
         ∃ x : Part, exec (.setTalkCfg tag f) s = .next { s with part := x.answer tag .ok } ∧ after x .host)) ∧
     (¬ changes → s.part.applyMsg (.update (.setTalkCfg f)) = s.part) ∧
     (changes → after (s.part.applyMsg (.update (.setTalkCfg f))) .lane)) ∧
  ((∀ (tag : Nat) (f : LockSet) (s : State), s.part.PortReady → s.part.dsc.role = .stage →
     exec (.setLock tag f) s = .next { s with part := s.part.answer tag .state }) ∧
   ∀ (f : LockSet) (x : Part),
     let class_ (v : Option Nat) (held : Bool) : Bool := match v with
       | some k => decide (k ≠ 0)
       | none => held
     let l := x.chs.locks
     let now : Locks := ⟨class_ f.preamp l.preamp, class_ f.condition l.condition, class_ f.mix l.mix, class_ f.talk l.talk, l.version⟩
     let y := x.applyMsg (.update (.setLock f))
     (now = l → y = x) ∧
     (now ≠ l →
       y.chs = { x.chs with locks := { now with version := (l.version + 1) % 65536 } } ∧
       y.cmp = x.cmp.notify (.lockChanged y.chs.locks) ∧ y.ple = y.laneAfter x [.locks] ∧ y.mxe = x.mxe ∧ y.tka = x.tka))

/-! ### Invariants of the whole part -/

/-- The link state and the reference path follow the usable paths: every step keeps this. -/
def Obligations.LinkInvariantKept : Prop :=
  ∀ s t : State, s.part.LinkInv → step s = .next t → t.part.LinkInv

/-- At most 6 channels are RISING, and every QUEUED channel stands in the phantom queue exactly once: every step keeps this. -/
def Obligations.PhantomInvariantKept : Prop :=
  ∀ s t : State, s.part.PhantomInv → step s = .next t → t.part.PhantomInv

/-- The free entries and the entries of all mixes number 384, no mix holds more than 48 and none two of one source reference:
every step keeps this. -/
def Obligations.PoolInvariantKept : Prop :=
  ∀ s t : State, s.part.PoolInv → step s = .next t → t.part.PoolInv

/-- Destinations, sessions and mixes agree on who holds what, and no session holds a destination it did not request or is not
eligible for: every step keeps this. -/
def Obligations.TalkInvariantKept : Prop :=
  ∀ s t : State, s.part.TalkInv → step s = .next t → t.part.TalkInv

/-! ### Encodings -/

/-- A fibre frame sent in the form of Table 9-8 is read back as it was by the end of its direction, whatever its values, in
full and in idle form. -/
def Obligations.FibreFramesRoundTrip : Prop :=
  ∀ (rx : Role) (f : Frame), f.fits rx → decodeFrame rx (encodeFrame f) = some f

/-- Every host request whose fields fit their sizes, framed with boundaries, escapes and check, is closed as one frame by a
hunting receiver that takes its bytes in order, and read back as it was. -/
def Obligations.HostRequestsRoundTrip : Prop :=
  ∀ (r : HostRequest) (c : Cmp), r.tag < 256 → r.req.wf = true → c.inFrame = false →
    ((lineBytes (requestFrame r)).foldl (fun c b => c.takeByte b) c).rxDue = some (.closed (requestFrame r)) ∧
    checkFrame (requestFrame r) = .request r

/-- Every lane record, sent as symbols to an idle assembler, is delivered complete with its kind, sequence and body; a
house-bound record whose values fit its layout, and a stage-bound one whose fields fit and whose identifiers lie in their
ranges, is read back as it was. -/
def Obligations.LaneRecordsRoundTrip : Prop :=
  (∀ (msg : LaneMsg) (seq : Nat) (l : Ple), l.asm = .idle →
    l.takeInAll (recordSyms msg seq) = { l with done := l.done ++ [⟨msg.kind, seq, msg.body⟩] }) ∧
  (∀ msg : LaneMsg, msg.fitsHouse → readRecord .desk msg.kind msg.body = some msg) ∧
  ∀ u : Update, u.wf = true → u.identOk .desk = true →
    readRecord .stage (LaneMsg.update u).kind (LaneMsg.update u).body = some (.update u)
end

