-- ==== Sys2Proof/Laws/Frame.lean ====
section
/-!
SUPPORT. Frames of the shared operations, one lemma each. `sansTables` erases what the operations on the stage tables may
change: preamp queue, channels, mixes, talk, lane and the notices. An operation whose result has the same `sansTables`
leaves the device state, the clock, the paths, the merge unit, the meters, the mirror, the wires and the rest of the port as
they stand.
-/

namespace Sys2Proof.Machine

/-- The port without its notices. -/
def Cmp.sansNotices (c : Cmp) : Cmp :=
  { c with notices := [], lossFlag := false, lost := 0 }

/-- The part without the stage tables, the lane and the notices. -/
def Part.sansTables (x : Part) : Part :=
  { x with
    api := default
    chs := default
    mxe := default
    tka := default
    ple := default
    cmp := x.cmp.sansNotices }

@[simp] theorem Part.withTka_sans (x : Part) (t : Tka) : ({ x with tka := t } : Part).sansTables = x.sansTables := rfl
@[simp] theorem Part.withChs_sans (x : Part) (t : Chs) : ({ x with chs := t } : Part).sansTables = x.sansTables := rfl
@[simp] theorem Part.withMxe_sans (x : Part) (t : Mxe) : ({ x with mxe := t } : Part).sansTables = x.sansTables := rfl
@[simp] theorem Part.withPle_sans (x : Part) (t : Ple) : ({ x with ple := t } : Part).sansTables = x.sansTables := rfl

theorem Cmp.notify_sans (n : Notice) (c : Cmp) : (c.notify n).sansNotices = c.sansNotices := by
  unfold Cmp.notify Cmp.join; split <;> [split; skip] <;> rfl

@[simp] theorem Part.notify_sans (n : Notice) (x : Part) : (x.notify n).sansTables = x.sansTables := by
  simp [Part.notify, Part.sansTables, Cmp.notify_sans]

@[simp] theorem Part.onChannel_sans (n f) (x : Part) : (x.onChannel n f).sansTables = x.sansTables := rfl
@[simp] theorem Part.onMix_sans (n f) (x : Part) : (x.onMix n f).sansTables = x.sansTables := rfl
@[simp] theorem Part.onDest_sans (n f) (x : Part) : (x.onDest n f).sansTables = x.sansTables := rfl
@[simp] theorem Part.onSource_sans (n f) (x : Part) : (x.onSource n f).sansTables = x.sansTables := rfl
@[simp] theorem Part.onPle_sans (f) (x : Part) : (x.onPle f).sansTables = x.sansTables := rfl
@[simp] theorem Part.preamp_sans (n) (x : Part) : (x.preamp n).sansTables = x.sansTables := rfl

@[simp] theorem Part.echo_sans (t) (x : Part) : (x.echo t).sansTables = x.sansTables := by
  unfold Part.echo; repeat' split
  all_goals rfl

@[simp] theorem Part.refuse_sans (u r) (x : Part) : (x.refuse u r).sansTables = x.sansTables := by
  unfold Part.refuse; dsimp only; repeat' split
  all_goals rfl

@[simp] theorem Part.drainMarks_sans (ms : List Mark) (x : Part) : (Part.drainMarks ms x).sansTables = x.sansTables := by
  induction ms generalizing x with
  | nil => rfl
  | cons m ms ih =>
    unfold Part.drainMarks; split
    · rw [ih]; split <;> rfl
    · rfl

@[simp] theorem Part.dumpFill_sans (n : Nat) (x : Part) : (Part.dumpFill n x).sansTables = x.sansTables := by
  induction n generalizing x with
  | zero => rfl
  | succ n ih =>
    unfold Part.dumpFill; split
    · split
      · rw [ih]; rfl
      · rfl
    · rfl

@[simp] theorem Part.refill_sans (x : Part) : x.refill.sansTables = x.sansTables := by
  unfold Part.refill; split
  · rfl
  · dsimp only; split <;> simp

@[simp] theorem Part.dumpStart_sans (x : Part) : x.dumpStart.sansTables = x.sansTables := by
  unfold Part.dumpStart; rw [Part.dumpFill_sans]; rfl

/-- A fold of operations that keep a value keeps it. -/
theorem foldl_keeps {α β γ : Type} (g : α → γ) (f : α → β → α) (h : ∀ a b, g (f a b) = g a) (l : List β) (a : α) :
    g (l.foldl f a) = g a := by
  induction l generalizing a with
  | nil => rfl
  | cons b l ih => rw [List.foldl_cons, ih, h]

@[simp] theorem Part.evalCue_sans (x : Part) : x.evalCue.sansTables = x.sansTables := rfl

@[simp] theorem Part.setDest_sans (d st h) (x : Part) : (x.setDest d st h).sansTables = x.sansTables := by
  unfold Part.setDest; dsimp only; split <;> rfl

@[simp] theorem Part.onSession_sans (s f) (x : Part) : (x.onSession s f).sansTables = x.sansTables := rfl

@[simp] theorem Part.grant_sans (s d) (x : Part) : (x.grant s d).sansTables = x.sansTables := by
  simp [Part.grant]

@[simp] theorem Part.lose_sans (d) (x : Part) : (x.lose d).sansTables = x.sansTables := by
  unfold Part.lose; split <;> simp

/-! ### Talk -/

@[simp] theorem Part.arbitrate_sans (s d) (x : Part) : (x.arbitrate s d).sansTables = x.sansTables := by
  unfold Part.arbitrate; dsimp only; repeat' split
  all_goals simp

@[simp] theorem Part.arbitrateFree_sans (d) (x : Part) : (x.arbitrateFree d).sansTables = x.sansTables := by
  unfold Part.arbitrateFree; split <;> simp

@[simp] theorem Part.publish_sans (b c s) (x : Part) : (Part.publish b c x s).sansTables = x.sansTables := by
  unfold Part.publish; dsimp only; split <;> simp

@[simp] theorem Part.publishAll_sans (b c o) (x : Part) : (x.publishAll b c o).sansTables = x.sansTables :=
  foldl_keeps Part.sansTables _ (fun _ _ => Part.publish_sans ..) ..

@[simp] theorem Part.releaseOne_sans (s d) (x : Part) : (x.releaseOne s d).sansTables = x.sansTables := by
  unfold Part.releaseOne; repeat' split
  all_goals simp

@[simp] theorem Part.openSession_sans (s p l r) (x : Part) : (x.openSession s p l r).sansTables = x.sansTables := by
  unfold Part.openSession; dsimp only
  rw [foldl_keeps Part.sansTables _ (fun _ _ => Part.arbitrate_sans ..)]; rfl

@[simp] theorem Part.amendSession_sans (s p l r) (x : Part) : (x.amendSession s p l r).sansTables = x.sansTables := by
  unfold Part.amendSession; dsimp only
  rw [foldl_keeps Part.sansTables _ (fun _ _ => Part.arbitrate_sans ..),
    foldl_keeps Part.sansTables _ (fun _ _ => Part.releaseOne_sans ..)]; rfl

@[simp] theorem Part.talkOpen_sans (s p l r c) (x : Part) : (x.talkOpen s p l r c).sansTables = x.sansTables := by
  unfold Part.talkOpen; dsimp only; split <;> simp

@[simp] theorem Part.fadeGranted_sans (s d) (x : Part) : (x.fadeGranted s d).sansTables = x.sansTables := by
  unfold Part.fadeGranted; repeat' split
  all_goals simp

@[simp] theorem Part.closeSession_sans (s r c) (x : Part) : (x.closeSession s r c).sansTables = x.sansTables := by
  unfold Part.closeSession; dsimp only; split
  · rw [Part.publishAll_sans, Part.onSource_sans, foldl_keeps Part.sansTables _ (fun _ _ => Part.fadeGranted_sans ..)]
  · rfl

@[simp] theorem Part.takeFadeEnd_sans (d) (x : Part) : (x.takeFadeEnd d).sansTables = x.sansTables := by
  unfold Part.takeFadeEnd; split <;> simp

@[simp] theorem Part.judgeDest_sans (d) (x : Part) : (x.judgeDest d).sansTables = x.sansTables := by
  unfold Part.judgeDest; repeat' split
  all_goals simp

@[simp] theorem Part.maskChanged_sans (d) (x : Part) : (x.maskChanged d).sansTables = x.sansTables := by
  simp [Part.maskChanged]

@[simp] theorem Part.talkLink_sans (o) (x : Part) : (x.talkLink o).sansTables = x.sansTables := by
  unfold Part.talkLink; dsimp only; repeat' split
  all_goals simp

@[simp] theorem Part.takeLatchedLimit_sans (s) (x : Part) : (x.takeLatchedLimit s).sansTables = x.sansTables := by
  unfold Part.takeLatchedLimit; repeat' split
  all_goals simp

@[simp] theorem Part.talkStandby_sans (x : Part) : x.talkStandby.sansTables = x.sansTables :=
  foldl_keeps Part.sansTables _ (fun _ _ => Part.closeSession_sans ..) ..

@[simp] theorem Part.applyTalkCfg_sans (f c) (x : Part) : (x.applyTalkCfg f c).2.sansTables = x.sansTables := by
  unfold Part.applyTalkCfg; dsimp only; repeat' split
  all_goals simp

@[simp] theorem Part.latchTicks_sans (x : Part) : x.latchTicks.sansTables = x.sansTables :=
  foldl_keeps Part.sansTables _ (fun _ _ => Part.onSession_sans ..) ..

/-! ### Channels -/

@[simp] theorem Part.evalCond_sans (n) (x : Part) : (x.evalCond n).sansTables = x.sansTables := rfl

@[simp] theorem Part.channelVersion_sans (n c) (x : Part) : (x.channelVersion n c).sansTables = x.sansTables := by
  simp [Part.channelVersion]

@[simp] theorem Part.phantomDone_sans (n c) (x : Part) : (x.phantomDone n c).sansTables = x.sansTables := by
  simp [Part.phantomDone]

@[simp] theorem Part.setPhantom_sans (n st t) (x : Part) : (x.setPhantom n st t).sansTables = x.sansTables := by
  unfold Part.setPhantom; dsimp only; split <;> simp

@[simp] theorem Part.startRise_sans (n) (x : Part) : (x.startRise n).sansTables = x.sansTables := by
  simp [Part.startRise]

@[simp] theorem Part.startFall_sans (n) (x : Part) : (x.startFall n).sansTables = x.sansTables := by
  simp [Part.startFall]

@[simp] theorem Part.leaveQueue_sans (n) (x : Part) : (x.leaveQueue n).sansTables = x.sansTables := rfl

@[simp] theorem Part.offerPhantom_sans (n) (x : Part) : (x.offerPhantom n).sansTables = x.sansTables := by
  unfold Part.offerPhantom; dsimp only; split
  · simp
  · exact Part.setPhantom_sans n .queued 0 x

@[simp] theorem Part.promote_sans (x : Part) : x.promote.sansTables = x.sansTables := by
  unfold Part.promote; split
  · rfl
  · rw [Part.startRise_sans]; rfl

@[simp] theorem Part.applyPhantom_sans (n on) (x : Part) : (x.applyPhantom n on).sansTables = x.sansTables := by
  unfold Part.applyPhantom Part.phantomOn Part.phantomOff; dsimp only; repeat' split
  all_goals simp

@[simp] theorem Part.takeRiseEnd_sans (n) (x : Part) : (x.takeRiseEnd n).sansTables = x.sansTables := by
  unfold Part.takeRiseEnd; split <;> simp

@[simp] theorem Part.takeFallEnd_sans (n) (x : Part) : (x.takeFallEnd n).sansTables = x.sansTables := by
  unfold Part.takeFallEnd; repeat' split
  all_goals simp

@[simp] theorem Part.dequeueStandby_sans (n) (x : Part) : (x.dequeueStandby n).sansTables = x.sansTables := by
  simp [Part.dequeueStandby]

@[simp] theorem Part.fallStandby_sans (n) (x : Part) : (x.fallStandby n).sansTables = x.sansTables := by
  unfold Part.fallStandby; split <;> simp

@[simp] theorem Part.channelsStandby_sans (x : Part) : x.channelsStandby.sansTables = x.sansTables := by
  unfold Part.channelsStandby; dsimp only
  rw [foldl_keeps Part.sansTables _ (fun _ _ => Part.evalCond_sans ..),
    foldl_keeps Part.sansTables _ (fun _ _ => Part.fallStandby_sans ..),
    foldl_keeps Part.sansTables _ (fun _ _ => Part.dequeueStandby_sans ..)]

@[simp] theorem Part.channelsOperate_sans (x : Part) : x.channelsOperate.sansTables = x.sansTables := by
  unfold Part.channelsOperate; dsimp only
  rw [foldl_keeps Part.sansTables _ (fun a b => by split <;> simp),
    foldl_keeps Part.sansTables _ (fun _ _ => Part.evalCond_sans ..)]

@[simp] theorem Part.applyChannel_sans (n f c) (x : Part) : (x.applyChannel n f c).2.sansTables = x.sansTables := by
  unfold Part.applyChannel Part.writePhantom Part.writeMute Part.writePolarity Part.writePad Part.writeGain
  dsimp only; repeat' split
  all_goals simp

@[simp] theorem Part.takeWalkStep_sans (n) (x : Part) : (x.takeWalkStep n).sansTables = x.sansTables := by
  unfold Part.takeWalkStep; repeat' split
  all_goals simp

@[simp] theorem Part.channelTicks_sans (x : Part) : x.channelTicks.sansTables = x.sansTables := rfl

@[simp] theorem Part.applyLock_sans (f) (x : Part) : (x.applyLock f).sansTables = x.sansTables := by
  unfold Part.applyLock; dsimp only; split
  · rfl
  · simp

/-! ### Mixes -/

@[simp] theorem Part.mixVersion_sans (m c) (x : Part) : (x.mixVersion m c).sansTables = x.sansTables := by
  simp [Part.mixVersion]

@[simp] theorem Part.contribNotice_sans (m c r) (x : Part) : (Part.contribNotice m c x r).sansTables = x.sansTables := by
  simp [Part.contribNotice]

@[simp] theorem Part.contribVersion_sans (m rs c) (x : Part) : (x.contribVersion m rs c).sansTables = x.sansTables := by
  unfold Part.contribVersion
  rw [foldl_keeps Part.sansTables _ (fun _ _ => Part.contribNotice_sans ..)]; rfl

@[simp] theorem Part.applyMix_sans (m f c) (x : Part) : (x.applyMix m f c).2.sansTables = x.sansTables := by
  unfold Part.applyMix; dsimp only; repeat' split
  all_goals simp

@[simp] theorem Part.applyPut_sans (m r k c) (x : Part) : (x.applyPut m r k c).2.sansTables = x.sansTables := by
  unfold Part.applyPut; dsimp only; repeat' split
  all_goals simp

@[simp] theorem Part.applyDrop_sans (m r c) (x : Part) : (x.applyDrop m r c).2.sansTables = x.sansTables := by
  unfold Part.applyDrop; split <;> simp

@[simp] theorem Part.applyClear_sans (m c) (x : Part) : (x.applyClear m c).2.sansTables = x.sansTables := by
  unfold Part.applyClear; split <;> simp

@[simp] theorem Part.takeFreed_sans (m r) (x : Part) : (x.takeFreed m r).sansTables = x.sansTables := by
  unfold Part.takeFreed; repeat' split
  all_goals rfl

@[simp] theorem Part.takeLeavingEnd_sans (m) (x : Part) : (x.takeLeavingEnd m).sansTables = x.sansTables := by
  unfold Part.takeLeavingEnd; split <;> simp

@[simp] theorem Part.takeArrivingEnd_sans (m) (x : Part) : (x.takeArrivingEnd m).sansTables = x.sansTables := by
  unfold Part.takeArrivingEnd; split <;> simp

@[simp] theorem Part.mastersEval_sans (x : Part) : x.mastersEval.sansTables = x.sansTables := rfl

/-! ### Updates -/

@[simp] theorem Part.doUpdate_sans (cc tc u) (x : Part) : (x.doUpdate cc tc u).2.sansTables = x.sansTables := by
  unfold Part.doUpdate; dsimp only; repeat' split
  all_goals simp

@[simp] theorem Part.applyUpdate_sans (u) (x : Part) : (x.applyUpdate u).sansTables = x.sansTables := by
  have h := Part.doUpdate_sans .lane .lane u.clamp x
  unfold Part.applyUpdate; split <;> rename_i e <;> rw [e] at h <;> simpa using h

end Sys2Proof.Machine
end

