-- ==== Sys2Proof/Laws/Wires.lean ====
section
/-!
SUPPORT. What every operation but power, the reset pin, the sample event's sending and the transmitter leaves alone: the role,
the level of the reset pin, and what is being sent.
-/

namespace Sys2Proof.Machine

/-- The role, the reset pin, the frames sent on the paths and the frame being sent to the host. -/
def Part.wires (x : Part) : Role × Bool × Option Frame × Option Frame × Option OutMsg :=
  (x.dsc.role, x.dsc.resetPin, x.pa.sentFrame, x.pb.sentFrame, x.cmp.sending)

theorem wires_of_sans {x y : Part} (h : x.sansTables = y.sansTables) : x.wires = y.wires := by
  have := congrArg Part.wires h
  exact this

@[simp] theorem Part.withFmu_wires (x : Part) (t : Fmu) : ({ x with fmu := t } : Part).wires = x.wires := rfl
@[simp] theorem Part.withPle_wires (x : Part) (t : Ple) : ({ x with ple := t } : Part).wires = x.wires := rfl
@[simp] theorem Part.withScu_wires (x : Part) (t : Scu) : ({ x with scu := t } : Part).wires = x.wires := rfl
@[simp] theorem Part.withMtu_wires (x : Part) (t : Mtu) : ({ x with mtu := t } : Part).wires = x.wires := rfl
@[simp] theorem Part.withMxe_wires (x : Part) (t : Mxe) : ({ x with mxe := t } : Part).wires = x.wires := rfl
@[simp] theorem Part.withTka_wires (x : Part) (t : Tka) : ({ x with tka := t } : Part).wires = x.wires := rfl
@[simp] theorem Part.withChs_wires (x : Part) (t : Chs) : ({ x with chs := t } : Part).wires = x.wires := rfl
@[simp] theorem Part.withApi_wires (x : Part) (t : Api) : ({ x with api := t } : Part).wires = x.wires := rfl
@[simp] theorem Part.withBus_wires (x : Part) (t : Bus) : ({ x with bus := t } : Part).wires = x.wires := rfl
@[simp] theorem Part.withMirror_wires (x : Part) (t : Mirror) : ({ x with mirror := t } : Part).wires = x.wires := rfl
@[simp] theorem Part.withPair_wires (x : Part) (t : PairCfg) : ({ x with pair := t } : Part).wires = x.wires := rfl
@[simp] theorem Part.onPle_wires (f) (x : Part) : (x.onPle f).wires = x.wires := rfl
@[simp] theorem Part.onFmu_wires (f) (x : Part) : (x.onFmu f).wires = x.wires := rfl
@[simp] theorem Part.onMix_wires (m f) (x : Part) : (x.onMix m f).wires = x.wires := rfl
@[simp] theorem Part.notify_wires (n) (x : Part) : (x.notify n).wires = x.wires := wires_of_sans (Part.notify_sans ..)
@[simp] theorem Part.reply_wires (t c b) (x : Part) : (x.reply t c b).wires = x.wires := rfl
@[simp] theorem Part.answer_wires (t c) (x : Part) : (x.answer t c).wires = x.wires := rfl
@[simp] theorem Part.entryReply_wires (t c) (x : Part) : (x.entryReply t c).wires = x.wires := by
  unfold Part.entryReply; split <;> rfl

theorem Part.onCmp_wires (f : Cmp → Cmp) (x : Part) (h : (f x.cmp).sending = x.cmp.sending) :
    (x.onCmp f).wires = x.wires := by
  simp [Part.onCmp, Part.wires, h]

theorem Part.onPath_wires (p f) (x : Part) (h : ∀ c : PathCtl, (f c).sentFrame = c.sentFrame) :
    (x.onPath p f).wires = x.wires := by
  cases p <;> simp [Part.onPath, Part.wires, h]

/-! ### Lane, restart and link -/

@[simp] theorem Part.mirrorTo_wires (st) (x : Part) : (x.mirrorTo st).wires = x.wires := by
  unfold Part.mirrorTo; dsimp only; split <;> simp

@[simp] theorem Part.closeSession_wires (s r c) (x : Part) : (x.closeSession s r c).wires = x.wires :=
  wires_of_sans (Part.closeSession_sans ..)

@[simp] theorem Part.dumpStart_wires (x : Part) : x.dumpStart.wires = x.wires := wires_of_sans (Part.dumpStart_sans ..)
@[simp] theorem Part.refill_wires (x : Part) : x.refill.wires = x.wires := wires_of_sans (Part.refill_sans ..)
@[simp] theorem Part.talkLink_wires (o) (x : Part) : (x.talkLink o).wires = x.wires := wires_of_sans (Part.talkLink_sans ..)
@[simp] theorem Part.applyUpdate_wires (u) (x : Part) : (x.applyUpdate u).wires = x.wires :=
  wires_of_sans (Part.applyUpdate_sans ..)
@[simp] theorem Part.doUpdate_wires (c t u) (x : Part) : (x.doUpdate c t u).2.wires = x.wires :=
  wires_of_sans (Part.doUpdate_sans ..)

@[simp] theorem Part.endEpisode_wires (x : Part) : x.endEpisode.wires = x.wires := rfl

@[simp] theorem Part.restartHandling_wires (x : Part) : x.restartHandling.wires = x.wires := by
  unfold Part.restartHandling; dsimp only; split <;> simp

@[simp] theorem Part.farRestart_wires (x : Part) : x.farRestart.wires = x.wires := by
  unfold Part.farRestart; dsimp only; split <;> simp

@[simp] theorem Part.farFlag_wires (a b) (x : Part) : (x.farFlag a b).wires = x.wires := by
  unfold Part.farFlag; split
  · simp
  · split <;> simp

@[simp] theorem Part.answerHeldLink_wires (c) (x : Part) : (x.answerHeldLink c).wires = x.wires := by
  unfold Part.answerHeldLink; split <;> rfl

@[simp] theorem Part.answerHeldState_wires (c) (x : Part) : (x.answerHeldState c).wires = x.wires := by
  unfold Part.answerHeldState; split <;> rfl

@[simp] theorem Part.restartAcked_wires (x : Part) : x.restartAcked.wires = x.wires := by
  unfold Part.restartAcked; dsimp only; split <;> simp <;> rfl

@[simp] theorem Part.serviceFlags_wires (f) (x : Part) : (x.serviceFlags f).wires = x.wires := by
  unfold Part.serviceFlags; dsimp only; split <;> simp

@[simp] theorem Part.linkReset_wires (t) (x : Part) : (x.linkReset t).wires = x.wires := by
  unfold Part.linkReset; dsimp only; split <;> simp <;> rfl

@[simp] theorem Part.laneLink_wires (o) (x : Part) : (x.laneLink o).wires = x.wires := by
  unfold Part.laneLink; repeat' split
  all_goals simp

@[simp] theorem Part.meterLink_wires (x : Part) : x.meterLink.wires = x.wires := by
  unfold Part.meterLink; split <;> rfl

@[simp] theorem Part.linkChanged_wires (o) (x : Part) : (x.linkChanged o).wires = x.wires := by
  unfold Part.linkChanged; dsimp only; split <;> simp

/-! ### Paths -/

@[simp] theorem Part.clockFollow_wires (x : Part) : x.clockFollow.wires = x.wires := by
  unfold Part.clockFollow Part.notifyClock; split <;> simp

@[simp] theorem Part.notifyPath_wires (p o) (x : Part) : (Part.notifyPath p x o).wires = x.wires := by
  unfold Part.notifyPath; split <;> simp

@[simp] theorem Part.anchoring_wires (x : Part) : x.anchoring.1.wires = x.wires := by
  unfold Part.anchoring; repeat' split
  all_goals rfl

@[simp] theorem Part.fmuReport_wires (n) (x : Part) : (x.fmuReport n).wires = x.wires := by
  unfold Part.fmuReport; dsimp only; repeat' split
  all_goals simp

@[simp] theorem Part.report_wires (o) (x : Part) : (x.report o).wires = x.wires := by
  simp [Part.report]

theorem Part.changePath_wires (p f) (x : Part) (h : ∀ c : PathCtl, (f c).sentFrame = c.sentFrame) :
    (x.changePath p f).wires = x.wires := by
  rw [Part.changePath, Part.report_wires, Part.onPath_wires _ _ _ h]

@[simp] theorem Part.takeLock_wires (p) (x : Part) : (x.takeLock p).wires = x.wires := by
  unfold Part.takeLock; dsimp only; split
  · exact Part.onPath_wires _ _ _ (fun _ => rfl)
  · rfl

@[simp] theorem Part.takeIdent_wires (p) (x : Part) : (x.takeIdent p).wires = x.wires := by
  unfold Part.takeIdent; dsimp only; split
  · rw [Part.changePath_wires _ PathCtl.align _ (fun _ => rfl), Part.farFlag_wires]
  · rfl

@[simp] theorem Part.takeStall_wires (p) (x : Part) : (x.takeStall p).wires = x.wires := by
  unfold Part.takeStall; dsimp only; repeat' split
  · exact Part.onPath_wires _ _ _ (fun _ => rfl)
  · rw [Part.notify_wires]; exact Part.onPath_wires _ _ _ (fun _ => rfl)
  · rfl

theorem PathCtl.actOnLight_sent (op) (c : PathCtl) : (c.actOnLight op).sentFrame = c.sentFrame := by
  unfold PathCtl.actOnLight; repeat' split
  all_goals rfl

@[simp] theorem Part.takeLight_wires (p) (x : Part) : (x.takeLight p).wires = x.wires := by
  unfold Part.takeLight; split
  · exact Part.changePath_wires _ _ _ (fun c => PathCtl.actOnLight_sent ..)
  · rfl

@[simp] theorem Part.takeSilence_wires (p) (x : Part) : (x.takeSilence p).wires = x.wires := by
  unfold Part.takeSilence; split
  · exact Part.changePath_wires _ _ _ (fun _ => rfl)
  · rfl

theorem PathCtl.judgeErrors_sent (c : PathCtl) : c.judgeErrors.sentFrame = c.sentFrame := by
  unfold PathCtl.judgeErrors; dsimp only; repeat' split
  all_goals rfl

@[simp] theorem Part.takeErrors_wires (p) (x : Part) : (x.takeErrors p).wires = x.wires := by
  unfold Part.takeErrors; split
  · exact Part.changePath_wires _ _ _ (fun c => PathCtl.judgeErrors_sent ..)
  · rfl

@[simp] theorem Part.takeRecovered_wires (p) (x : Part) : (x.takeRecovered p).wires = x.wires := by
  unfold Part.takeRecovered; split
  · exact Part.changePath_wires _ _ _ (fun _ => rfl)
  · rfl

@[simp] theorem Part.takeBurst_wires (p) (x : Part) : (x.takeBurst p).wires = x.wires := by
  unfold Part.takeBurst; split
  · exact Part.onPath_wires _ _ _ (fun _ => rfl)
  · rfl

@[simp] theorem Part.takeCycle_wires (p) (x : Part) : (x.takeCycle p).wires = x.wires := by
  unfold Part.takeCycle; split
  · exact Part.onPath_wires _ _ _ (fun _ => rfl)
  · rfl

theorem PathCtl.configure_sent (op f) (c : PathCtl) : (c.configure op f).sentFrame = c.sentFrame := by
  unfold PathCtl.configure PathCtl.autoBurstSet PathCtl.enable; dsimp only; repeat' split
  all_goals rfl

@[simp] theorem Part.setPath_wires (p f) (x : Part) : (x.setPath p f).2.wires = x.wires := by
  unfold Part.setPath; dsimp only; split
  · rfl
  · rw [Part.report_wires, Part.withPair_wires, Part.onPath_wires _ _ _ (fun c => PathCtl.configure_sent ..)]

theorem PathCtl.standby_sent (c : PathCtl) : c.standby.sentFrame = c.sentFrame := by
  unfold PathCtl.standby; split <;> rfl

theorem PathCtl.standbyUsable_sent (c : PathCtl) : c.standbyUsable.sentFrame = c.sentFrame := by
  unfold PathCtl.standbyUsable; split
  · exact c.standby_sent
  · rfl

@[simp] theorem Part.standbyAligns_wires (x : Part) : x.standbyAligns.wires = x.wires := by
  unfold Part.standbyAligns; split
  · simp only [Part.notifyPath_wires, Part.anchoring_wires]
    simp only [Part.wires, PathCtl.standbyUsable_sent]
  · rfl

@[simp] theorem Part.pathsStandby_wires (x : Part) : x.pathsStandby.wires = x.wires := by
  have h (u : Part) : ({ u with pa := u.pa.standby, pb := u.pb.standby } : Part).wires = u.wires := by
    simp only [Part.wires, PathCtl.standby_sent]
  unfold Part.pathsStandby; dsimp only; split <;> simp [h x.standbyAligns]

@[simp] theorem Part.pathsOperate_wires (x : Part) : x.pathsOperate.wires = x.wires := by
  unfold Part.pathsOperate PathCtl.operate Part.wires; dsimp only; repeat' split
  all_goals rfl

/-! ### Frames -/

@[simp] theorem Part.judgeArrival_wires (p f d) (x : Part) : (x.judgeArrival p f d).wires = x.wires := by
  unfold Part.judgeArrival; repeat' split
  · exact Part.onPath_wires _ _ _ (fun _ => rfl)
  · rfl
  · rfl

@[simp] theorem Part.refArrival_wires (p f d) (x : Part) : (x.refArrival p f d).wires = x.wires := by
  unfold Part.refArrival; repeat' split
  all_goals simp

@[simp] theorem Part.arrive_wires (p f) (x : Part) : (x.arrive p f).2.wires = x.wires := by
  unfold Part.arrive; repeat' split
  all_goals simp

@[simp] theorem Part.takeReAnchor_wires (x : Part) : x.takeReAnchor.wires = x.wires := by
  unfold Part.takeReAnchor; split <;> rfl

@[simp] theorem Part.identFrame_wires (p f) (x : Part) : (x.identFrame p f).wires = x.wires := by
  unfold Part.identFrame; split
  · exact Part.changePath_wires _ _ _ (fun _ => rfl)
  · exact Part.onPath_wires _ _ _ (fun _ => rfl)

@[simp] theorem Part.alignFrame_wires (p f) (x : Part) : (x.alignFrame p f).wires = x.wires := by
  unfold Part.alignFrame; dsimp only; repeat' split
  all_goals first
    | rfl
    | exact Part.arrive_wires ..
    | rw [Part.changePath_wires _ PathCtl.serve _ (fun _ => rfl), Part.arrive_wires]

@[simp] theorem Part.usableFrame_wires (p f) (x : Part) : (x.usableFrame p f).wires = x.wires := by
  have h := Part.onPath_wires p (fun c => { c with silenceTimer := 0 }) x (fun _ => rfl)
  unfold Part.usableFrame Part.offerFull; dsimp only; repeat' split
  · exact Part.changePath_wires _ _ _ (fun _ => rfl)
  all_goals simpa using h

@[simp] theorem Part.goodFrame_wires (p f) (x : Part) : (x.goodFrame p f).wires = x.wires := by
  unfold Part.goodFrame; repeat' split
  all_goals first
    | rfl
    | exact Part.onPath_wires _ _ _ (fun _ => rfl)
    | simp

theorem PathCtl.badFrame_sent (c : PathCtl) : c.badFrame.sentFrame = c.sentFrame := by
  unfold PathCtl.badFrame; split <;> rfl

@[simp] theorem Part.frame_wires (p b) (x : Part) : (x.frame p b).wires = x.wires := by
  unfold Part.frame; split
  · simp
  · exact Part.onPath_wires _ _ _ PathCtl.badFrame_sent

/-! ### Lane records -/

@[simp] theorem Part.echoNotice_wires (n) (x : Part) : (x.echoNotice n).wires = x.wires := by
  unfold Part.echoNotice; split <;> simp

@[simp] theorem Part.applyMsg_wires (m) (x : Part) : (x.applyMsg m).wires = x.wires := by
  unfold Part.applyMsg Part.echoedChannel Part.echoedMix Part.echoedContrib Part.echoedTalk Part.echoedCfg
    Part.echoedLock Part.deskPhantomDone Part.dumpEnded
  dsimp only; repeat' split
  all_goals simp
  all_goals rfl

@[simp] theorem Part.judgeRecord_wires (r) (x : Part) : (x.judgeRecord r).wires = x.wires := by
  unfold Part.judgeRecord; dsimp only; repeat' split
  all_goals simp

@[simp] theorem Part.takeRecord_wires (x : Part) : x.takeRecord.wires = x.wires := by
  unfold Part.takeRecord; split <;> simp

@[simp] theorem Part.takeRecords_wires (n) (x : Part) : (Part.takeRecords n x).wires = x.wires := by
  induction n generalizing x with
  | zero => rfl
  | succ n ih => unfold Part.takeRecords; rw [ih, Part.takeRecord_wires]

/-! ### Device state, clock and requests -/

@[simp] theorem Part.setOp_wires (o t) (x : Part) : (x.setOp o t).wires = x.wires := rfl

theorem Part.tables_wires {f : Part → Part} (h : ∀ x, (f x).sansTables = x.sansTables) (x : Part) :
    (f x).wires = x.wires := wires_of_sans (h x)

@[simp] theorem Part.standbyEntry_wires (x : Part) : x.standbyEntry.wires = x.wires := by
  unfold Part.standbyEntry; dsimp only; split
  · simp
  · rw [Part.tables_wires Part.talkStandby_sans, Part.tables_wires Part.mastersEval_sans,
      Part.tables_wires Part.channelsStandby_sans]; simp

@[simp] theorem Part.operateEntry_wires (x : Part) : x.operateEntry.wires = x.wires := by
  unfold Part.operateEntry; dsimp only; split
  · simp
  · rw [Part.tables_wires Part.mastersEval_sans, Part.tables_wires Part.channelsOperate_sans]; simp

@[simp] theorem Part.refreshPreamps_wires (x : Part) : x.refreshPreamps.wires = x.wires := by
  unfold Part.refreshPreamps; split <;> rfl

@[simp] theorem Part.startWake_wires (t) (x : Part) : (x.startWake t).wires = x.wires := by
  unfold Part.startWake; dsimp only; rw [Part.refreshPreamps_wires]; rfl

@[simp] theorem Part.setState_wires (t n) (x : Part) : (x.setState t n).wires = x.wires := by
  unfold Part.setState; split <;> simp

@[simp] theorem Part.takeWake_wires (x : Part) : x.takeWake.wires = x.wires := by
  unfold Part.takeWake; split <;> simp

@[simp] theorem Part.softBlocks_wires (x : Part) : x.softBlocks.wires = x.wires := by
  unfold Part.softBlocks; dsimp only; rw [Part.refreshPreamps_wires]; split <;> rfl

@[simp] theorem Part.abortStaged_wires (x : Part) : x.abortStaged.wires = x.wires := by
  unfold Part.abortStaged; split <;> rfl

@[simp] theorem Part.resetSoft_wires (t) (x : Part) : (x.resetSoft t).wires = x.wires := by
  unfold Part.resetSoft; dsimp only
  rw [Part.onCmp_wires _ _ rfl]; simp

@[simp] theorem Part.setClock_wires (t n) (x : Part) : (x.setClock t n).wires = x.wires := by
  unfold Part.setClock Part.notifyClock; split <;> simp

@[simp] theorem Part.takeClockWindow_wires (x : Part) : x.takeClockWindow.wires = x.wires := by
  unfold Part.takeClockWindow Part.notifyClock; dsimp only; repeat' split
  all_goals simp

@[simp] theorem Part.takeQualified_wires (x : Part) : x.takeQualified.wires = x.wires := by
  unfold Part.takeQualified Part.notifyClock; split <;> simp

@[simp] theorem Part.clockEdge_wires (x : Part) : x.clockEdge.wires = x.wires := by
  unfold Part.clockEdge; split <;> rfl

@[simp] theorem Part.forward_wires (t u) (x : Part) : (x.forward t u).wires = x.wires := by
  unfold Part.forward; repeat' split
  all_goals simp

@[simp] theorem Part.act_wires (t r) (x : Part) : (x.act t r).wires = x.wires := by
  unfold Part.act Part.askUpdate Part.askMask Part.askLinkReset Part.askSetPath Part.askGetPath Part.askPlayout
    Part.askGetMix Part.askMeters Part.readMeters Part.clearClip
  dsimp only; repeat' split
  all_goals first | rfl | simp

@[simp] theorem Part.carryOut_wires (r) (x : Part) : (x.carryOut r).wires = x.wires := by
  unfold Part.carryOut; split <;> simp

@[simp] theorem Part.executeHead_wires (x : Part) : x.executeHead.wires = x.wires := by
  unfold Part.executeHead; repeat' split
  · rfl
  · rw [Part.carryOut_wires, Part.onCmp_wires _ _ rfl]
  · rfl

@[simp] theorem Part.drain_wires (x : Part) : x.drain.wires = x.wires := by
  simp [Part.drain]

@[simp] theorem Part.enqueue_wires (r) (x : Part) : (x.enqueue r).wires = x.wires := by
  unfold Part.enqueue; split
  · exact Part.onCmp_wires _ _ rfl
  · exact Part.onCmp_wires _ _ rfl
  · simp

/-! ### The port -/

@[simp] theorem Part.damaged_wires (x : Part) : x.damaged.wires = x.wires := by
  unfold Part.damaged; rw [Part.entryReply_wires, Part.onCmp_wires _ _ rfl, Part.drain_wires]

@[simp] theorem Part.closed_wires (b) (x : Part) : (x.closed b).wires = x.wires := by
  unfold Part.closed; split <;> simp

@[simp] theorem Part.takeClosed_wires (x : Part) : x.takeClosed.wires = x.wires := by
  unfold Part.takeClosed; split
  · rw [Part.closed_wires, Part.onCmp_wires _ _ rfl]
  · rfl

@[simp] theorem Part.takeTooLong_wires (x : Part) : x.takeTooLong.wires = x.wires := by
  unfold Part.takeTooLong; split
  · rw [Part.damaged_wires, Part.onCmp_wires _ _ rfl]
  · rw [Part.damaged_wires, Part.onCmp_wires _ _ rfl]
  · rfl

@[simp] theorem Part.settleLine_wires (x : Part) : x.settleLine.wires = x.wires := by
  simp [Part.settleLine]

@[simp] theorem Part.submit_wires (t r) (x : Part) : (x.submit t r).wires = x.wires := by
  unfold Part.submit; dsimp only; split <;> simp

@[simp] theorem Part.framingError_wires (x : Part) : x.framingError.wires = x.wires := by
  unfold Part.framingError; dsimp only; repeat' split
  · rfl
  · rw [Part.entryReply_wires, Part.onCmp_wires _ _ rfl, Part.onCmp_wires _ _ rfl, Part.drain_wires]
  · rw [Part.onCmp_wires _ _ rfl, Part.onCmp_wires _ _ rfl, Part.drain_wires]

theorem Cmp.takeByte_sending (b) (c : Cmp) : (c.takeByte b).sending = c.sending := by
  unfold Cmp.takeByte Cmp.addByte; repeat' split
  all_goals rfl

@[simp] theorem Part.character_wires (c) (x : Part) : (x.character c).wires = x.wires := by
  unfold Part.character; repeat' split
  · rfl
  · rfl
  · exact Part.onCmp_wires _ _ (Cmp.takeByte_sending ..)
  · simp

/-! ### Settling -/

theorem foldl_wires {β : Type} (f : Part → β → Part) (h : ∀ x b, (f x b).wires = x.wires) (l : List β) (x : Part) :
    (l.foldl f x).wires = x.wires := foldl_keeps Part.wires f h l x

@[simp] theorem Part.settleTables_wires (x : Part) : x.settleTables.wires = x.wires := by
  unfold Part.settleTables; dsimp only
  rw [foldl_wires _ (fun _ _ => wires_of_sans (Part.takeLatchedLimit_sans ..)),
    foldl_wires _ (fun _ _ => wires_of_sans (Part.takeFadeEnd_sans ..)),
    foldl_wires _ (fun _ _ => wires_of_sans (Part.takeArrivingEnd_sans ..)),
    foldl_wires _ (fun _ _ => wires_of_sans (Part.takeLeavingEnd_sans ..)),
    foldl_wires Part.settleMix
      (fun _ _ => foldl_wires _ (fun _ _ => wires_of_sans (Part.takeFreed_sans ..)) _ _),
    foldl_wires _ (fun _ _ => wires_of_sans (Part.takeFallEnd_sans ..)),
    foldl_wires _ (fun _ _ => wires_of_sans (Part.takeRiseEnd_sans ..)),
    foldl_wires _ (fun _ _ => wires_of_sans (Part.takeWalkStep_sans ..))]

@[simp] theorem Part.settleRecords_wires (x : Part) : x.settleRecords.wires = x.wires := by
  simp [Part.settleRecords]

@[simp] theorem Part.settlePath_wires (p) (x : Part) : (x.settlePath p).wires = x.wires := by
  simp [Part.settlePath]

@[simp] theorem Part.settleFrame_wires (p) (x : Part) : (x.settleFrame p).wires = x.wires := by
  simp [Part.settleFrame]

@[simp] theorem Part.settleLink_wires (x : Part) : x.settleLink.wires = x.wires := by
  simp [Part.settleLink, bothPaths]

@[simp] theorem Part.settleDevice_wires (x : Part) : x.settleDevice.wires = x.wires := by
  simp [Part.settleDevice]

end Sys2Proof.Machine
end

