-- ==== Sys2Proof/Laws/SampleWork.lean ====
section
/-!
SUPPORT. The stages of a sample event: what each leaves alone, and what each block holds after the whole of it.
-/

namespace Sys2Proof.Machine

/-- The part without what the talk samples and the mix computation write. -/
def Part.sansMixing (x : Part) : Part :=
  { x with
    mxe := default
    tka := default
    cmp := x.cmp.sansNotices
    bus := { x.bus with mixOut := [], cueSlot := 0 } }

theorem Part.mixCompute_sans (x : Part) (m) : (x.mixCompute m).sansMixing = x.sansMixing := by
  have hn : ∀ (n) (y : Part), (y.notify n).sansMixing = y.sansMixing := by
    intro n y; simp [Part.notify, Part.sansMixing, Cmp.notify_sans]
  unfold Part.mixCompute; dsimp only; repeat' split
  all_goals first | rfl | (rw [hn]; rfl)

theorem Part.mixAll_sans (x : Part) : x.mixAll.sansMixing = x.sansMixing := by
  unfold Part.mixAll; rw [foldl_keeps Part.sansMixing _ Part.mixCompute_sans]; rfl

theorem Part.stageWork_sans (x : Part) : x.stageWork.sansMixing = x.sansMixing := by
  unfold Part.stageWork Part.talkSamples; split
  · rw [Part.mixAll_sans]; dsimp only; split <;> rfl
  · rfl

@[simp] theorem Part.stageWork_dsc (x : Part) : x.stageWork.dsc = x.dsc :=
  (congrArg Part.dsc x.stageWork_sans :)
@[simp] theorem Part.stageWork_scu (x : Part) : x.stageWork.scu = x.scu :=
  (congrArg Part.scu x.stageWork_sans :)
@[simp] theorem Part.stageWork_api (x : Part) : x.stageWork.api = x.api :=
  (congrArg Part.api x.stageWork_sans :)
@[simp] theorem Part.stageWork_pa (x : Part) : x.stageWork.pa = x.pa :=
  (congrArg Part.pa x.stageWork_sans :)
@[simp] theorem Part.stageWork_pb (x : Part) : x.stageWork.pb = x.pb :=
  (congrArg Part.pb x.stageWork_sans :)
@[simp] theorem Part.stageWork_pair (x : Part) : x.stageWork.pair = x.pair :=
  (congrArg Part.pair x.stageWork_sans :)
@[simp] theorem Part.stageWork_fmu (x : Part) : x.stageWork.fmu = x.fmu :=
  (congrArg Part.fmu x.stageWork_sans :)
@[simp] theorem Part.stageWork_ple (x : Part) : x.stageWork.ple = x.ple :=
  (congrArg Part.ple x.stageWork_sans :)
@[simp] theorem Part.stageWork_chs (x : Part) : x.stageWork.chs = x.chs :=
  (congrArg Part.chs x.stageWork_sans :)
@[simp] theorem Part.stageWork_mtu (x : Part) : x.stageWork.mtu = x.mtu :=
  (congrArg Part.mtu x.stageWork_sans :)
@[simp] theorem Part.stageWork_mirror (x : Part) : x.stageWork.mirror = x.mirror :=
  (congrArg Part.mirror x.stageWork_sans :)
@[simp] theorem Part.stageWork_mic (x : Part) : x.stageWork.bus.mic = x.bus.mic :=
  (congrArg (fun y => y.bus.mic) x.stageWork_sans :)
@[simp] theorem Part.stageWork_talkIn (x : Part) : x.stageWork.bus.talkIn = x.bus.talkIn :=
  (congrArg (fun y => y.bus.talkIn) x.stageWork_sans :)
@[simp] theorem Part.stageWork_conditioned (x : Part) : x.stageWork.bus.conditioned = x.bus.conditioned :=
  (congrArg (fun y => y.bus.conditioned) x.stageWork_sans :)
@[simp] theorem Part.stageWork_played (x : Part) : x.stageWork.bus.played = x.bus.played :=
  (congrArg (fun y => y.bus.played) x.stageWork_sans :)
@[simp] theorem Part.stageWork_cellIn (x : Part) : x.stageWork.bus.cellIn = x.bus.cellIn :=
  (congrArg (fun y => y.bus.cellIn) x.stageWork_sans :)
@[simp] theorem Part.stageWork_syms (x : Part) : x.stageWork.bus.syms = x.bus.syms :=
  (congrArg (fun y => y.bus.syms) x.stageWork_sans :)

/-- The part without the bus, for the ports. -/
@[simp] theorem Part.takePorts_eq (i) (x : Part) : { x.takePorts i with bus := x.bus } = x := rfl

/-- The part without the lane and the bus. -/
def Part.sansLane (x : Part) : Part :=
  { x with ple := default, bus := { x.bus with cellIn := none } }

theorem Part.playGood_sans (e f) (x : Part) : (x.playGood e f).sansLane = x.sansLane := by
  have hr : ∀ y : Part, y.refill.sansLane = y.sansLane := by
    intro y; unfold Part.refill; split
    · rfl
    · have hd : ∀ ms (z : Part), (Part.drainMarks ms z).sansLane = z.sansLane := by
        intro ms; induction ms with
        | nil => intro z; rfl
        | cons m ms ih =>
          intro z; unfold Part.drainMarks; split
          · rw [ih]; split <;> rfl
          · rfl
      have hf : ∀ n (z : Part), (Part.dumpFill n z).sansLane = z.sansLane := by
        intro n; induction n with
        | zero => intro z; rfl
        | succ n ih =>
          intro z; unfold Part.dumpFill; split
          · split
            · rw [ih]; rfl
            · rfl
          · rfl
      dsimp only; split
      · rw [hf, hd]
      · rw [hd]
  unfold Part.playGood; dsimp only
  split
  · change (Part.refill _).sansLane = _
    rw [hr]; split <;> rfl
  · rw [hr]; split <;> rfl

theorem Part.playout_fmu (e) (x : Part) :
    (x.playout e).fmu = (x.fmu.playout.2.concealed x.fmu.playout.1).2 := by
  unfold Part.playout; dsimp only; split
  · exact (congrArg Part.fmu (Part.playGood_sans ..) :)
  · rfl

theorem Part.playout_played (e) (x : Part) :
    (x.playout e).bus.played = (x.fmu.playout.2.concealed x.fmu.playout.1).1 := by
  unfold Part.playout; dsimp only; split
  · exact (congrArg (fun y => y.bus.played) (Part.playGood_sans ..) :)
  · rfl

/-- The part without what a playout writes. -/
def Part.sansPlay (x : Part) : Part :=
  { x with ple := default, fmu := default, bus := { x.bus with cellIn := none, played := [] } }

theorem Part.playout_sans (e) (x : Part) : (x.playout e).sansPlay = x.sansPlay := by
  unfold Part.playout; dsimp only; split
  · change (Part.playGood _ _ _).sansPlay = _
    exact (congrArg Part.sansPlay (Part.playGood_sans e _ _) :)
  · rfl

@[simp] theorem Part.playout_dsc (e) (x : Part) : (x.playout e).dsc = x.dsc :=
  (congrArg Part.dsc (x.playout_sans e) :)
@[simp] theorem Part.playout_scu (e) (x : Part) : (x.playout e).scu = x.scu :=
  (congrArg Part.scu (x.playout_sans e) :)
@[simp] theorem Part.playout_api (e) (x : Part) : (x.playout e).api = x.api :=
  (congrArg Part.api (x.playout_sans e) :)
@[simp] theorem Part.playout_pa (e) (x : Part) : (x.playout e).pa = x.pa :=
  (congrArg Part.pa (x.playout_sans e) :)
@[simp] theorem Part.playout_pb (e) (x : Part) : (x.playout e).pb = x.pb :=
  (congrArg Part.pb (x.playout_sans e) :)
@[simp] theorem Part.playout_chs (e) (x : Part) : (x.playout e).chs = x.chs :=
  (congrArg Part.chs (x.playout_sans e) :)
@[simp] theorem Part.playout_mxe (e) (x : Part) : (x.playout e).mxe = x.mxe :=
  (congrArg Part.mxe (x.playout_sans e) :)
@[simp] theorem Part.playout_tka (e) (x : Part) : (x.playout e).tka = x.tka :=
  (congrArg Part.tka (x.playout_sans e) :)
@[simp] theorem Part.playout_mtu (e) (x : Part) : (x.playout e).mtu = x.mtu :=
  (congrArg Part.mtu (x.playout_sans e) :)
@[simp] theorem Part.playout_mirror (e) (x : Part) : (x.playout e).mirror = x.mirror :=
  (congrArg Part.mirror (x.playout_sans e) :)
@[simp] theorem Part.playout_mic (e) (x : Part) : (x.playout e).bus.mic = x.bus.mic :=
  (congrArg (fun y => y.bus.mic) (x.playout_sans e) :)
@[simp] theorem Part.playout_talkIn (e) (x : Part) : (x.playout e).bus.talkIn = x.bus.talkIn :=
  (congrArg (fun y => y.bus.talkIn) (x.playout_sans e) :)
@[simp] theorem Part.playout_conditioned (e) (x : Part) : (x.playout e).bus.conditioned = x.bus.conditioned :=
  (congrArg (fun y => y.bus.conditioned) (x.playout_sans e) :)
@[simp] theorem Part.playout_syms (e) (x : Part) : (x.playout e).bus.syms = x.bus.syms :=
  (congrArg (fun y => y.bus.syms) (x.playout_sans e) :)

/-- The part without its lane and the symbols on the bus. -/
theorem Part.takeLane_eq (x : Part) :
    ∃ l ss, x.takeLane = { x with ple := l, bus := { x.bus with syms := ss } } := by
  unfold Part.takeLane; split
  · exact ⟨_, _, rfl⟩
  · exact ⟨_, _, rfl⟩

end Sys2Proof.Machine
end

