-- ==== Sys2Proof/Laws/State.lean ====
section
/-!
SUPPORT. One lemma per field of the part per update of it, so that no proof unfolds a record update, and what the shared
operations on one entry leave readable.
-/

namespace Sys2Proof.Machine

/-! ### `Part.onChannel` -/

@[simp] theorem Part.onChannel_dsc (n : Nat) (f : Channel → Channel) (x : Part) : (x.onChannel n f).dsc = x.dsc := rfl
@[simp] theorem Part.onChannel_scu (n : Nat) (f : Channel → Channel) (x : Part) : (x.onChannel n f).scu = x.scu := rfl
@[simp] theorem Part.onChannel_api (n : Nat) (f : Channel → Channel) (x : Part) : (x.onChannel n f).api = x.api := rfl
@[simp] theorem Part.onChannel_pa (n : Nat) (f : Channel → Channel) (x : Part) : (x.onChannel n f).pa = x.pa := rfl
@[simp] theorem Part.onChannel_pb (n : Nat) (f : Channel → Channel) (x : Part) : (x.onChannel n f).pb = x.pb := rfl
@[simp] theorem Part.onChannel_pair (n : Nat) (f : Channel → Channel) (x : Part) : (x.onChannel n f).pair = x.pair := rfl
@[simp] theorem Part.onChannel_fmu (n : Nat) (f : Channel → Channel) (x : Part) : (x.onChannel n f).fmu = x.fmu := rfl
@[simp] theorem Part.onChannel_ple (n : Nat) (f : Channel → Channel) (x : Part) : (x.onChannel n f).ple = x.ple := rfl
@[simp] theorem Part.onChannel_mxe (n : Nat) (f : Channel → Channel) (x : Part) : (x.onChannel n f).mxe = x.mxe := rfl
@[simp] theorem Part.onChannel_tka (n : Nat) (f : Channel → Channel) (x : Part) : (x.onChannel n f).tka = x.tka := rfl
@[simp] theorem Part.onChannel_mtu (n : Nat) (f : Channel → Channel) (x : Part) : (x.onChannel n f).mtu = x.mtu := rfl
@[simp] theorem Part.onChannel_mirror (n : Nat) (f : Channel → Channel) (x : Part) : (x.onChannel n f).mirror = x.mirror := rfl
@[simp] theorem Part.onChannel_cmp (n : Nat) (f : Channel → Channel) (x : Part) : (x.onChannel n f).cmp = x.cmp := rfl
@[simp] theorem Part.onChannel_bus (n : Nat) (f : Channel → Channel) (x : Part) : (x.onChannel n f).bus = x.bus := rfl

/-! ### `Part.onMix` -/

@[simp] theorem Part.onMix_dsc (m : Nat) (f : Mix → Mix) (x : Part) : (x.onMix m f).dsc = x.dsc := rfl
@[simp] theorem Part.onMix_scu (m : Nat) (f : Mix → Mix) (x : Part) : (x.onMix m f).scu = x.scu := rfl
@[simp] theorem Part.onMix_api (m : Nat) (f : Mix → Mix) (x : Part) : (x.onMix m f).api = x.api := rfl
@[simp] theorem Part.onMix_pa (m : Nat) (f : Mix → Mix) (x : Part) : (x.onMix m f).pa = x.pa := rfl
@[simp] theorem Part.onMix_pb (m : Nat) (f : Mix → Mix) (x : Part) : (x.onMix m f).pb = x.pb := rfl
@[simp] theorem Part.onMix_pair (m : Nat) (f : Mix → Mix) (x : Part) : (x.onMix m f).pair = x.pair := rfl
@[simp] theorem Part.onMix_fmu (m : Nat) (f : Mix → Mix) (x : Part) : (x.onMix m f).fmu = x.fmu := rfl
@[simp] theorem Part.onMix_ple (m : Nat) (f : Mix → Mix) (x : Part) : (x.onMix m f).ple = x.ple := rfl
@[simp] theorem Part.onMix_chs (m : Nat) (f : Mix → Mix) (x : Part) : (x.onMix m f).chs = x.chs := rfl
@[simp] theorem Part.onMix_tka (m : Nat) (f : Mix → Mix) (x : Part) : (x.onMix m f).tka = x.tka := rfl
@[simp] theorem Part.onMix_mtu (m : Nat) (f : Mix → Mix) (x : Part) : (x.onMix m f).mtu = x.mtu := rfl
@[simp] theorem Part.onMix_mirror (m : Nat) (f : Mix → Mix) (x : Part) : (x.onMix m f).mirror = x.mirror := rfl
@[simp] theorem Part.onMix_cmp (m : Nat) (f : Mix → Mix) (x : Part) : (x.onMix m f).cmp = x.cmp := rfl
@[simp] theorem Part.onMix_bus (m : Nat) (f : Mix → Mix) (x : Part) : (x.onMix m f).bus = x.bus := rfl

/-! ### `Part.onDest` -/

@[simp] theorem Part.onDest_dsc (d : Nat) (f : Dest → Dest) (x : Part) : (x.onDest d f).dsc = x.dsc := rfl
@[simp] theorem Part.onDest_scu (d : Nat) (f : Dest → Dest) (x : Part) : (x.onDest d f).scu = x.scu := rfl
@[simp] theorem Part.onDest_api (d : Nat) (f : Dest → Dest) (x : Part) : (x.onDest d f).api = x.api := rfl
@[simp] theorem Part.onDest_pa (d : Nat) (f : Dest → Dest) (x : Part) : (x.onDest d f).pa = x.pa := rfl
@[simp] theorem Part.onDest_pb (d : Nat) (f : Dest → Dest) (x : Part) : (x.onDest d f).pb = x.pb := rfl
@[simp] theorem Part.onDest_pair (d : Nat) (f : Dest → Dest) (x : Part) : (x.onDest d f).pair = x.pair := rfl
@[simp] theorem Part.onDest_fmu (d : Nat) (f : Dest → Dest) (x : Part) : (x.onDest d f).fmu = x.fmu := rfl
@[simp] theorem Part.onDest_ple (d : Nat) (f : Dest → Dest) (x : Part) : (x.onDest d f).ple = x.ple := rfl
@[simp] theorem Part.onDest_chs (d : Nat) (f : Dest → Dest) (x : Part) : (x.onDest d f).chs = x.chs := rfl
@[simp] theorem Part.onDest_mxe (d : Nat) (f : Dest → Dest) (x : Part) : (x.onDest d f).mxe = x.mxe := rfl
@[simp] theorem Part.onDest_mtu (d : Nat) (f : Dest → Dest) (x : Part) : (x.onDest d f).mtu = x.mtu := rfl
@[simp] theorem Part.onDest_mirror (d : Nat) (f : Dest → Dest) (x : Part) : (x.onDest d f).mirror = x.mirror := rfl
@[simp] theorem Part.onDest_cmp (d : Nat) (f : Dest → Dest) (x : Part) : (x.onDest d f).cmp = x.cmp := rfl
@[simp] theorem Part.onDest_bus (d : Nat) (f : Dest → Dest) (x : Part) : (x.onDest d f).bus = x.bus := rfl

/-! ### `Part.onSource` -/

@[simp] theorem Part.onSource_dsc (s : Source) (f : SourceRec → SourceRec) (x : Part) : (x.onSource s f).dsc = x.dsc := rfl
@[simp] theorem Part.onSource_scu (s : Source) (f : SourceRec → SourceRec) (x : Part) : (x.onSource s f).scu = x.scu := rfl
@[simp] theorem Part.onSource_api (s : Source) (f : SourceRec → SourceRec) (x : Part) : (x.onSource s f).api = x.api := rfl
@[simp] theorem Part.onSource_pa (s : Source) (f : SourceRec → SourceRec) (x : Part) : (x.onSource s f).pa = x.pa := rfl
@[simp] theorem Part.onSource_pb (s : Source) (f : SourceRec → SourceRec) (x : Part) : (x.onSource s f).pb = x.pb := rfl
@[simp] theorem Part.onSource_pair (s : Source) (f : SourceRec → SourceRec) (x : Part) : (x.onSource s f).pair = x.pair := rfl
@[simp] theorem Part.onSource_fmu (s : Source) (f : SourceRec → SourceRec) (x : Part) : (x.onSource s f).fmu = x.fmu := rfl
@[simp] theorem Part.onSource_ple (s : Source) (f : SourceRec → SourceRec) (x : Part) : (x.onSource s f).ple = x.ple := rfl
@[simp] theorem Part.onSource_chs (s : Source) (f : SourceRec → SourceRec) (x : Part) : (x.onSource s f).chs = x.chs := rfl
@[simp] theorem Part.onSource_mxe (s : Source) (f : SourceRec → SourceRec) (x : Part) : (x.onSource s f).mxe = x.mxe := rfl
@[simp] theorem Part.onSource_mtu (s : Source) (f : SourceRec → SourceRec) (x : Part) : (x.onSource s f).mtu = x.mtu := rfl
@[simp] theorem Part.onSource_mirror (s : Source) (f : SourceRec → SourceRec) (x : Part) : (x.onSource s f).mirror = x.mirror := rfl
@[simp] theorem Part.onSource_cmp (s : Source) (f : SourceRec → SourceRec) (x : Part) : (x.onSource s f).cmp = x.cmp := rfl
@[simp] theorem Part.onSource_bus (s : Source) (f : SourceRec → SourceRec) (x : Part) : (x.onSource s f).bus = x.bus := rfl

/-! ### `Part.onPle` -/

@[simp] theorem Part.onPle_dsc (f : Ple → Ple) (x : Part) : (x.onPle f).dsc = x.dsc := rfl
@[simp] theorem Part.onPle_scu (f : Ple → Ple) (x : Part) : (x.onPle f).scu = x.scu := rfl
@[simp] theorem Part.onPle_api (f : Ple → Ple) (x : Part) : (x.onPle f).api = x.api := rfl
@[simp] theorem Part.onPle_pa (f : Ple → Ple) (x : Part) : (x.onPle f).pa = x.pa := rfl
@[simp] theorem Part.onPle_pb (f : Ple → Ple) (x : Part) : (x.onPle f).pb = x.pb := rfl
@[simp] theorem Part.onPle_pair (f : Ple → Ple) (x : Part) : (x.onPle f).pair = x.pair := rfl
@[simp] theorem Part.onPle_fmu (f : Ple → Ple) (x : Part) : (x.onPle f).fmu = x.fmu := rfl
@[simp] theorem Part.onPle_chs (f : Ple → Ple) (x : Part) : (x.onPle f).chs = x.chs := rfl
@[simp] theorem Part.onPle_mxe (f : Ple → Ple) (x : Part) : (x.onPle f).mxe = x.mxe := rfl
@[simp] theorem Part.onPle_tka (f : Ple → Ple) (x : Part) : (x.onPle f).tka = x.tka := rfl
@[simp] theorem Part.onPle_mtu (f : Ple → Ple) (x : Part) : (x.onPle f).mtu = x.mtu := rfl
@[simp] theorem Part.onPle_mirror (f : Ple → Ple) (x : Part) : (x.onPle f).mirror = x.mirror := rfl
@[simp] theorem Part.onPle_cmp (f : Ple → Ple) (x : Part) : (x.onPle f).cmp = x.cmp := rfl
@[simp] theorem Part.onPle_bus (f : Ple → Ple) (x : Part) : (x.onPle f).bus = x.bus := rfl

/-! ### `Part.onFmu` -/

@[simp] theorem Part.onFmu_dsc (f : Fmu → Fmu) (x : Part) : (x.onFmu f).dsc = x.dsc := rfl
@[simp] theorem Part.onFmu_scu (f : Fmu → Fmu) (x : Part) : (x.onFmu f).scu = x.scu := rfl
@[simp] theorem Part.onFmu_api (f : Fmu → Fmu) (x : Part) : (x.onFmu f).api = x.api := rfl
@[simp] theorem Part.onFmu_pa (f : Fmu → Fmu) (x : Part) : (x.onFmu f).pa = x.pa := rfl
@[simp] theorem Part.onFmu_pb (f : Fmu → Fmu) (x : Part) : (x.onFmu f).pb = x.pb := rfl
@[simp] theorem Part.onFmu_pair (f : Fmu → Fmu) (x : Part) : (x.onFmu f).pair = x.pair := rfl
@[simp] theorem Part.onFmu_ple (f : Fmu → Fmu) (x : Part) : (x.onFmu f).ple = x.ple := rfl
@[simp] theorem Part.onFmu_chs (f : Fmu → Fmu) (x : Part) : (x.onFmu f).chs = x.chs := rfl
@[simp] theorem Part.onFmu_mxe (f : Fmu → Fmu) (x : Part) : (x.onFmu f).mxe = x.mxe := rfl
@[simp] theorem Part.onFmu_tka (f : Fmu → Fmu) (x : Part) : (x.onFmu f).tka = x.tka := rfl
@[simp] theorem Part.onFmu_mtu (f : Fmu → Fmu) (x : Part) : (x.onFmu f).mtu = x.mtu := rfl
@[simp] theorem Part.onFmu_mirror (f : Fmu → Fmu) (x : Part) : (x.onFmu f).mirror = x.mirror := rfl
@[simp] theorem Part.onFmu_cmp (f : Fmu → Fmu) (x : Part) : (x.onFmu f).cmp = x.cmp := rfl
@[simp] theorem Part.onFmu_bus (f : Fmu → Fmu) (x : Part) : (x.onFmu f).bus = x.bus := rfl

/-! ### `Part.onCmp` -/

@[simp] theorem Part.onCmp_dsc (f : Cmp → Cmp) (x : Part) : (x.onCmp f).dsc = x.dsc := rfl
@[simp] theorem Part.onCmp_scu (f : Cmp → Cmp) (x : Part) : (x.onCmp f).scu = x.scu := rfl
@[simp] theorem Part.onCmp_api (f : Cmp → Cmp) (x : Part) : (x.onCmp f).api = x.api := rfl
@[simp] theorem Part.onCmp_pa (f : Cmp → Cmp) (x : Part) : (x.onCmp f).pa = x.pa := rfl
@[simp] theorem Part.onCmp_pb (f : Cmp → Cmp) (x : Part) : (x.onCmp f).pb = x.pb := rfl
@[simp] theorem Part.onCmp_pair (f : Cmp → Cmp) (x : Part) : (x.onCmp f).pair = x.pair := rfl
@[simp] theorem Part.onCmp_fmu (f : Cmp → Cmp) (x : Part) : (x.onCmp f).fmu = x.fmu := rfl
@[simp] theorem Part.onCmp_ple (f : Cmp → Cmp) (x : Part) : (x.onCmp f).ple = x.ple := rfl
@[simp] theorem Part.onCmp_chs (f : Cmp → Cmp) (x : Part) : (x.onCmp f).chs = x.chs := rfl
@[simp] theorem Part.onCmp_mxe (f : Cmp → Cmp) (x : Part) : (x.onCmp f).mxe = x.mxe := rfl
@[simp] theorem Part.onCmp_tka (f : Cmp → Cmp) (x : Part) : (x.onCmp f).tka = x.tka := rfl
@[simp] theorem Part.onCmp_mtu (f : Cmp → Cmp) (x : Part) : (x.onCmp f).mtu = x.mtu := rfl
@[simp] theorem Part.onCmp_mirror (f : Cmp → Cmp) (x : Part) : (x.onCmp f).mirror = x.mirror := rfl
@[simp] theorem Part.onCmp_bus (f : Cmp → Cmp) (x : Part) : (x.onCmp f).bus = x.bus := rfl

/-! ### `Part.notify` -/

@[simp] theorem Part.notify_dsc (n : Notice) (x : Part) : (x.notify n).dsc = x.dsc := rfl
@[simp] theorem Part.notify_scu (n : Notice) (x : Part) : (x.notify n).scu = x.scu := rfl
@[simp] theorem Part.notify_api (n : Notice) (x : Part) : (x.notify n).api = x.api := rfl
@[simp] theorem Part.notify_pa (n : Notice) (x : Part) : (x.notify n).pa = x.pa := rfl
@[simp] theorem Part.notify_pb (n : Notice) (x : Part) : (x.notify n).pb = x.pb := rfl
@[simp] theorem Part.notify_pair (n : Notice) (x : Part) : (x.notify n).pair = x.pair := rfl
@[simp] theorem Part.notify_fmu (n : Notice) (x : Part) : (x.notify n).fmu = x.fmu := rfl
@[simp] theorem Part.notify_ple (n : Notice) (x : Part) : (x.notify n).ple = x.ple := rfl
@[simp] theorem Part.notify_chs (n : Notice) (x : Part) : (x.notify n).chs = x.chs := rfl
@[simp] theorem Part.notify_mxe (n : Notice) (x : Part) : (x.notify n).mxe = x.mxe := rfl
@[simp] theorem Part.notify_tka (n : Notice) (x : Part) : (x.notify n).tka = x.tka := rfl
@[simp] theorem Part.notify_mtu (n : Notice) (x : Part) : (x.notify n).mtu = x.mtu := rfl
@[simp] theorem Part.notify_mirror (n : Notice) (x : Part) : (x.notify n).mirror = x.mirror := rfl
@[simp] theorem Part.notify_bus (n : Notice) (x : Part) : (x.notify n).bus = x.bus := rfl

/-! ### `Part.reply` -/

@[simp] theorem Part.reply_dsc (tag : Nat) (code : ReplyCode) (body : ReplyBody) (x : Part) : (x.reply tag code body).dsc = x.dsc := rfl
@[simp] theorem Part.reply_scu (tag : Nat) (code : ReplyCode) (body : ReplyBody) (x : Part) : (x.reply tag code body).scu = x.scu := rfl
@[simp] theorem Part.reply_api (tag : Nat) (code : ReplyCode) (body : ReplyBody) (x : Part) : (x.reply tag code body).api = x.api := rfl
@[simp] theorem Part.reply_pa (tag : Nat) (code : ReplyCode) (body : ReplyBody) (x : Part) : (x.reply tag code body).pa = x.pa := rfl
@[simp] theorem Part.reply_pb (tag : Nat) (code : ReplyCode) (body : ReplyBody) (x : Part) : (x.reply tag code body).pb = x.pb := rfl
@[simp] theorem Part.reply_pair (tag : Nat) (code : ReplyCode) (body : ReplyBody) (x : Part) : (x.reply tag code body).pair = x.pair := rfl
@[simp] theorem Part.reply_fmu (tag : Nat) (code : ReplyCode) (body : ReplyBody) (x : Part) : (x.reply tag code body).fmu = x.fmu := rfl
@[simp] theorem Part.reply_ple (tag : Nat) (code : ReplyCode) (body : ReplyBody) (x : Part) : (x.reply tag code body).ple = x.ple := rfl
@[simp] theorem Part.reply_chs (tag : Nat) (code : ReplyCode) (body : ReplyBody) (x : Part) : (x.reply tag code body).chs = x.chs := rfl
@[simp] theorem Part.reply_mxe (tag : Nat) (code : ReplyCode) (body : ReplyBody) (x : Part) : (x.reply tag code body).mxe = x.mxe := rfl
@[simp] theorem Part.reply_tka (tag : Nat) (code : ReplyCode) (body : ReplyBody) (x : Part) : (x.reply tag code body).tka = x.tka := rfl
@[simp] theorem Part.reply_mtu (tag : Nat) (code : ReplyCode) (body : ReplyBody) (x : Part) : (x.reply tag code body).mtu = x.mtu := rfl
@[simp] theorem Part.reply_mirror (tag : Nat) (code : ReplyCode) (body : ReplyBody) (x : Part) : (x.reply tag code body).mirror = x.mirror := rfl
@[simp] theorem Part.reply_bus (tag : Nat) (code : ReplyCode) (body : ReplyBody) (x : Part) : (x.reply tag code body).bus = x.bus := rfl

/-! ### `Part.answer` -/

@[simp] theorem Part.answer_dsc (tag : Nat) (code : ReplyCode) (x : Part) : (x.answer tag code).dsc = x.dsc := rfl
@[simp] theorem Part.answer_scu (tag : Nat) (code : ReplyCode) (x : Part) : (x.answer tag code).scu = x.scu := rfl
@[simp] theorem Part.answer_api (tag : Nat) (code : ReplyCode) (x : Part) : (x.answer tag code).api = x.api := rfl
@[simp] theorem Part.answer_pa (tag : Nat) (code : ReplyCode) (x : Part) : (x.answer tag code).pa = x.pa := rfl
@[simp] theorem Part.answer_pb (tag : Nat) (code : ReplyCode) (x : Part) : (x.answer tag code).pb = x.pb := rfl
@[simp] theorem Part.answer_pair (tag : Nat) (code : ReplyCode) (x : Part) : (x.answer tag code).pair = x.pair := rfl
@[simp] theorem Part.answer_fmu (tag : Nat) (code : ReplyCode) (x : Part) : (x.answer tag code).fmu = x.fmu := rfl
@[simp] theorem Part.answer_ple (tag : Nat) (code : ReplyCode) (x : Part) : (x.answer tag code).ple = x.ple := rfl
@[simp] theorem Part.answer_chs (tag : Nat) (code : ReplyCode) (x : Part) : (x.answer tag code).chs = x.chs := rfl
@[simp] theorem Part.answer_mxe (tag : Nat) (code : ReplyCode) (x : Part) : (x.answer tag code).mxe = x.mxe := rfl
@[simp] theorem Part.answer_tka (tag : Nat) (code : ReplyCode) (x : Part) : (x.answer tag code).tka = x.tka := rfl
@[simp] theorem Part.answer_mtu (tag : Nat) (code : ReplyCode) (x : Part) : (x.answer tag code).mtu = x.mtu := rfl
@[simp] theorem Part.answer_mirror (tag : Nat) (code : ReplyCode) (x : Part) : (x.answer tag code).mirror = x.mirror := rfl
@[simp] theorem Part.answer_bus (tag : Nat) (code : ReplyCode) (x : Part) : (x.answer tag code).bus = x.bus := rfl

/-! ### `Part.preamp` -/

@[simp] theorem Part.preamp_dsc (n : Nat) (x : Part) : (x.preamp n).dsc = x.dsc := rfl
@[simp] theorem Part.preamp_scu (n : Nat) (x : Part) : (x.preamp n).scu = x.scu := rfl
@[simp] theorem Part.preamp_pa (n : Nat) (x : Part) : (x.preamp n).pa = x.pa := rfl
@[simp] theorem Part.preamp_pb (n : Nat) (x : Part) : (x.preamp n).pb = x.pb := rfl
@[simp] theorem Part.preamp_pair (n : Nat) (x : Part) : (x.preamp n).pair = x.pair := rfl
@[simp] theorem Part.preamp_fmu (n : Nat) (x : Part) : (x.preamp n).fmu = x.fmu := rfl
@[simp] theorem Part.preamp_ple (n : Nat) (x : Part) : (x.preamp n).ple = x.ple := rfl
@[simp] theorem Part.preamp_chs (n : Nat) (x : Part) : (x.preamp n).chs = x.chs := rfl
@[simp] theorem Part.preamp_mxe (n : Nat) (x : Part) : (x.preamp n).mxe = x.mxe := rfl
@[simp] theorem Part.preamp_tka (n : Nat) (x : Part) : (x.preamp n).tka = x.tka := rfl
@[simp] theorem Part.preamp_mtu (n : Nat) (x : Part) : (x.preamp n).mtu = x.mtu := rfl
@[simp] theorem Part.preamp_mirror (n : Nat) (x : Part) : (x.preamp n).mirror = x.mirror := rfl
@[simp] theorem Part.preamp_cmp (n : Nat) (x : Part) : (x.preamp n).cmp = x.cmp := rfl
@[simp] theorem Part.preamp_bus (n : Nat) (x : Part) : (x.preamp n).bus = x.bus := rfl

@[simp] theorem Part.onPle_ple (f : Ple → Ple) (x : Part) : (x.onPle f).ple = f x.ple := rfl
@[simp] theorem Part.onFmu_fmu (f : Fmu → Fmu) (x : Part) : (x.onFmu f).fmu = f x.fmu := rfl
@[simp] theorem Part.onCmp_cmp (f : Cmp → Cmp) (x : Part) : (x.onCmp f).cmp = f x.cmp := rfl
@[simp] theorem Part.notify_cmp (n : Notice) (x : Part) : (x.notify n).cmp = x.cmp.notify n := rfl
@[simp] theorem Part.reply_replies (tag : Nat) (code : ReplyCode) (body : ReplyBody) (x : Part) :
    (x.reply tag code body).cmp.replies = x.cmp.replies ++ [⟨tag, code, body⟩] := rfl
@[simp] theorem Part.answer_replies (tag : Nat) (code : ReplyCode) (x : Part) :
    (x.answer tag code).cmp.replies = x.cmp.replies ++ [⟨tag, code, .none⟩] := rfl

/-! ### `Part.onPath` -/

@[simp] theorem Part.onPath_dsc (p : Path) (f : PathCtl → PathCtl) (x : Part) : (x.onPath p f).dsc = x.dsc := by
  cases p <;> rfl
@[simp] theorem Part.onPath_scu (p : Path) (f : PathCtl → PathCtl) (x : Part) : (x.onPath p f).scu = x.scu := by
  cases p <;> rfl
@[simp] theorem Part.onPath_api (p : Path) (f : PathCtl → PathCtl) (x : Part) : (x.onPath p f).api = x.api := by
  cases p <;> rfl
@[simp] theorem Part.onPath_pair (p : Path) (f : PathCtl → PathCtl) (x : Part) : (x.onPath p f).pair = x.pair := by
  cases p <;> rfl
@[simp] theorem Part.onPath_fmu (p : Path) (f : PathCtl → PathCtl) (x : Part) : (x.onPath p f).fmu = x.fmu := by
  cases p <;> rfl
@[simp] theorem Part.onPath_ple (p : Path) (f : PathCtl → PathCtl) (x : Part) : (x.onPath p f).ple = x.ple := by
  cases p <;> rfl
@[simp] theorem Part.onPath_chs (p : Path) (f : PathCtl → PathCtl) (x : Part) : (x.onPath p f).chs = x.chs := by
  cases p <;> rfl
@[simp] theorem Part.onPath_mxe (p : Path) (f : PathCtl → PathCtl) (x : Part) : (x.onPath p f).mxe = x.mxe := by
  cases p <;> rfl
@[simp] theorem Part.onPath_tka (p : Path) (f : PathCtl → PathCtl) (x : Part) : (x.onPath p f).tka = x.tka := by
  cases p <;> rfl
@[simp] theorem Part.onPath_mtu (p : Path) (f : PathCtl → PathCtl) (x : Part) : (x.onPath p f).mtu = x.mtu := by
  cases p <;> rfl
@[simp] theorem Part.onPath_mirror (p : Path) (f : PathCtl → PathCtl) (x : Part) : (x.onPath p f).mirror = x.mirror := by
  cases p <;> rfl
@[simp] theorem Part.onPath_cmp (p : Path) (f : PathCtl → PathCtl) (x : Part) : (x.onPath p f).cmp = x.cmp := by
  cases p <;> rfl
@[simp] theorem Part.onPath_bus (p : Path) (f : PathCtl → PathCtl) (x : Part) : (x.onPath p f).bus = x.bus := by
  cases p <;> rfl

@[simp] theorem Part.onPath_path (p : Path) (f : PathCtl → PathCtl) (x : Part) : (x.onPath p f).path p = f (x.path p) := by
  cases p <;> rfl

@[simp] theorem Part.onPath_other (p : Path) (f : PathCtl → PathCtl) (x : Part) :
    (x.onPath p f).path (otherPath p) = x.path (otherPath p) := by
  cases p <;> rfl

/-! ### Lists as tables -/

@[simp] theorem updAt_length {α : Type} (i : Nat) (f : α → α) (l : List α) : (updAt i f l).length = l.length := by
  induction l generalizing i with
  | nil => cases i <;> rfl
  | cons a l ih => cases i <;> simp [updAt, ih]

theorem updAt_get {α : Type} (i : Nat) (f : α → α) (l : List α) (j : Nat) :
    (updAt i f l)[j]? = if j = i then (l[j]?).map f else l[j]? := by
  induction l generalizing i j with
  | nil => cases i <;> simp [updAt]
  | cons x xs ih =>
    cases i with
    | zero => cases j <;> simp [updAt]
    | succ i => cases j with
      | zero => simp [updAt]
      | succ j => simpa [updAt] using ih i j

theorem updAt_getD {α : Type} (i : Nat) (f : α → α) (d : α) (l : List α) (j : Nat) :
    (updAt i f l).getD j d = if j = i ∧ i < l.length then f (l.getD i d) else l.getD j d := by
  simp only [List.getD_eq_getElem?_getD, updAt_get]
  by_cases h : j = i
  · subst h
    by_cases h2 : j < l.length <;> simp [h2]
  · simp [h]

theorem updAt_eq_set {α : Type} (i : Nat) (f : α → α) (d : α) (l : List α) (h : i < l.length) :
    updAt i f l = l.set i (f (l.getD i d)) := by
  induction l generalizing i with
  | nil => simp at h
  | cons a l ih =>
    cases i with
    | zero => rfl
    | succ i => simp [updAt, ih i (by simpa using h)]

theorem updAt_updAt {α : Type} (i : Nat) (f g : α → α) (l : List α) : updAt i f (updAt i g l) = updAt i (f ∘ g) l := by
  induction l generalizing i with
  | nil => cases i <;> rfl
  | cons a l ih => cases i with
    | zero => rfl
    | succ i => simp [updAt, ih]

@[simp] theorem mapFrom_length {α β : Type} (f : Nat → α → β) (k : Nat) (l : List α) : (mapFrom f k l).length = l.length := by
  induction l generalizing k with
  | nil => rfl
  | cons a l ih => simp [mapFrom, ih]

theorem mapFrom_get {α β : Type} (f : Nat → α → β) (k : Nat) (l : List α) (i : Nat) :
    (mapFrom f k l)[i]? = (l[i]?).map (f (k + i)) := by
  induction l generalizing k i with
  | nil => simp [mapFrom]
  | cons a l ih => cases i with
    | zero => simp [mapFrom]
    | succ i =>
      simp only [mapFrom, List.getElem?_cons_succ, ih]
      congr 2
      omega

theorem findFrom_none {α : Type} (f : α → Bool) (k : Nat) (l : List α) (h : ∀ a ∈ l, f a = false) : findFrom f k l = none := by
  induction l generalizing k with
  | nil => rfl
  | cons a l ih =>
    simp only [findFrom, h a (by simp), Bool.false_eq_true, if_false]
    exact ih _ fun b hb => h b (by simp [hb])

theorem findFrom_append {α : Type} (f : α → Bool) (k : Nat) (a : List α) (r : α) (b : List α)
    (h : ∀ x ∈ a, f x = false) (hr : f r = true) : findFrom f k (a ++ r :: b) = some (k + a.length) := by
  induction a generalizing k with
  | nil => simp [findFrom, hr]
  | cons x a ih =>
    simp only [List.cons_append, findFrom, h x (by simp), Bool.false_eq_true, if_false]
    rw [ih _ fun y hy => h y (by simp [hy])]
    congr 1
    simp only [List.length_cons]
    omega

/-! ### One entry of one block -/

theorem Part.channel_onChannel (n : Nat) (f : Channel → Channel) (x : Part) (k : Nat) :
    (x.onChannel n f).channel k = if k = n ∧ n < x.chs.channels.length then f (x.channel n) else x.channel k :=
  updAt_getD n f Channel.powerOn x.chs.channels k

theorem Part.mix_onMix (m : Nat) (f : Mix → Mix) (x : Part) (k : Nat) :
    (x.onMix m f).mix k = if k = m ∧ m < x.mxe.mixes.length then f (x.mix m) else x.mix k :=
  updAt_getD m f Mix.powerOn x.mxe.mixes k

theorem Part.dest_onDest (d : Nat) (f : Dest → Dest) (x : Part) (k : Nat) :
    (x.onDest d f).dest k = if k = d ∧ d < x.tka.dests.length then f (x.dest d) else x.dest k :=
  updAt_getD d f Dest.powerOn x.tka.dests k

theorem Part.source_onSource (s : Source) (f : SourceRec → SourceRec) (x : Part) (t : Source) :
    (x.onSource s f).tka.source t = if t = s then f (x.tka.source s) else x.tka.source t := by
  cases s <;> cases t <;> rfl

/-! ### Counts and comparisons -/

theorem satInc_eq (n : Nat) : satInc n = min 65535 (n + 1) := by
  unfold satInc
  split <;> omega

theorem newer8_iff (x y : Nat) :
    newer8 x y = true ↔ 1 ≤ (x + 256 - y % 256) % 256 ∧ (x + 256 - y % 256) % 256 ≤ 127 := by
  simp [newer8]

theorem newer16_iff (x y : Nat) :
    newer16 x y = true ↔ 1 ≤ (x + 65536 - y % 65536) % 65536 ∧ (x + 65536 - y % 65536) % 65536 ≤ 32767 := by
  simp [newer16]

theorem Ramp.retarget_target (t : Int) (r : Ramp) : (r.retarget t).target = t := by
  unfold Ramp.retarget
  split <;> simp_all

theorem Ramp.retarget_cur (t : Int) (r : Ramp) : (r.retarget t).cur = r.cur := by
  unfold Ramp.retarget
  split <;> rfl

end Sys2Proof.Machine
end

