-- ==== Sys2Proof/Laws/Steps.lean ====
section
/-!
SUPPORT. What a shared operation does, said once: a command at a ready block, a request carried out, a report of the paths, an
echo, a change of a phantom state or of a destination, a REFUSED record, a notice.
-/

namespace Sys2Proof.Machine

/-! ### Commands at a ready block -/

/-- A sample event with nothing due is the sample work alone. -/
theorem exec_sampleEvent_settled (i : SampleInput) (s : State) (pin : s.part.dsc.resetPin = false) (h : s.part.Settled) :
    exec (.sampleEvent i) s = .next { s with part := s.part.sampleWork i } := by
  show Host.Outcome.next { s with part := s.part.sampleEvent i } = _
  unfold Part.Settled at h
  simp [Part.sampleEvent, pin, h]

/-- A frame on a ready path is taken as it is. -/
theorem exec_frameReceived_ready (p : Path) (bits : List Bool) (s : State) (h : s.part.FrameReady p) :
    exec (.frameReceived p bits) s = .next { s with part := s.part.frame p bits } := by
  show Host.Outcome.next { s with part := (s.part.settleFrame p).frame p bits } = _
  rw [h]

/-- A good frame on a ready path. -/
theorem exec_frameReceived_good (p : Path) (bits : List Bool) (f : Frame) (s : State) (h : s.part.FrameReady p)
    (good : decodeFrame s.part.dsc.role bits = some f) :
    exec (.frameReceived p bits) s = .next { s with part := s.part.goodFrame p f } := by
  refine (exec_frameReceived_ready p bits s h).trans ?_
  unfold Part.frame
  rw [good]

/-- A bad frame on a ready path. -/
theorem exec_frameReceived_bad (p : Path) (bits : List Bool) (s : State) (h : s.part.FrameReady p)
    (bad : decodeFrame s.part.dsc.role bits = none) :
    exec (.frameReceived p bits) s = .next { s with part := s.part.onPath p PathCtl.badFrame } := by
  refine (exec_frameReceived_ready p bits s h).trans ?_
  unfold Part.frame
  rw [bad]

/-- A receiver with no closed frame waiting has no step to take before a character. -/
theorem Part.settleLine_ready (x : Part) (h : x.LineReady) : x.settleLine = x := by
  unfold Part.LineReady at h
  unfold Part.settleLine Part.takeClosed
  rw [h]
  dsimp only
  unfold Part.takeTooLong
  rw [h]

/-- A character at a ready receiver. -/
theorem exec_characterReceived_ready (c : LineChar) (s : State) (h : s.part.LineReady) :
    exec (.characterReceived c) s = .next { s with part := s.part.character c } := by
  show Host.Outcome.next { s with part := s.part.settleLine.character c } = _
  rw [s.part.settleLine_ready h]

/-- A framing error at a ready receiver. -/
theorem exec_framingError_ready (s : State) (h : s.part.LineReady) :
    exec .framingError s = .next { s with part := s.part.framingError } := by
  show Host.Outcome.next { s with part := s.part.settleLine.framingError } = _
  rw [s.part.settleLine_ready h]

/-! ### Requests -/

/-- With the executing place empty no request is carried out. -/
theorem Part.drain_idle (x : Part) (h : x.cmp.executing = none) : x.drain = x := by
  have head : x.executeHead = x := by
    unfold Part.executeHead
    rw [h]
  unfold Part.drain
  rw [head, head]

/-- A request offered to a ready port is carried out at once. -/
theorem Part.submit_ready (tag : Nat) (r : Request) (x : Part) (h : x.PortReady) : x.submit tag r = x.carryOut ⟨tag, r⟩ := by
  unfold Part.submit
  rw [x.settleLine_ready h.1, x.drain_idle h.2.1]
  dsimp only
  rw [if_pos (show _ ∧ _ from h.2)]

/-- Every request row offers its request to the port. -/
theorem exec_requestRow (r : HostRequest) (s : State) :
    exec (requestRow r) s = .next { s with part := s.part.submit r.tag r.req } := by
  obtain ⟨tag, req⟩ := r
  cases req with
  | update u => cases u <;> rfl
  | _ => rfl

/-- A request that no step of R172 answers acts, its fields clamped. -/
theorem Part.carryOut_act (tag : Nat) (r : Request) (x : Part) (h : x.refusal r = none) :
    x.carryOut ⟨tag, r⟩ = x.act tag r.clamp := by
  unfold Part.carryOut
  rw [h]

/-- A request that a step of R172 answers changes nothing but the reply queue. -/
theorem Part.carryOut_refused (tag : Nat) (r : Request) (c : ReplyCode) (x : Part) (h : x.refusal r = some c) :
    x.carryOut ⟨tag, r⟩ = x.answer tag c := by
  unfold Part.carryOut
  rw [h]

/-! ### Reports of the paths -/

/-- What a link change does to the paths and the FMU: nothing. -/
theorem Part.linkChanged_fields (old : LinkState) (x : Part) :
    (x.linkChanged old).pa = x.pa ∧ (x.linkChanged old).pb = x.pb ∧ (x.linkChanged old).fmu = x.fmu := by
  have talk : ∀ y : Part, (y.talkLink old).pa = y.pa ∧ (y.talkLink old).pb = y.pb ∧ (y.talkLink old).fmu = y.fmu := by
    intro y
    have sans := y.talkLink_sans old
    exact ⟨(congrArg Part.pa sans :), (congrArg Part.pb sans :), (congrArg Part.fmu sans :)⟩
  unfold Part.linkChanged Part.laneLink Part.meterLink Part.endEpisode
  dsimp only
  have own := talk x
  repeat' split
  all_goals exact ⟨by first | rfl | exact own.1, by first | rfl | exact own.2.1, by first | rfl | exact own.2.2⟩

/-- The FMU's part of a report leaves the paths and gives the FMU the values R55 to R57 say. -/
theorem Part.fmuReport_fields (new : Option Path) (x : Part) :
    (x.fmuReport new).pa = x.pa ∧ (x.fmuReport new).pb = x.pb ∧ (x.fmuReport new).fmu = x.fmuAfter new := by
  have clock : ∀ y : Part, y.clockFollow.pa = y.pa ∧ y.clockFollow.pb = y.pb ∧ y.clockFollow.fmu = y.fmu := by
    intro y
    unfold Part.clockFollow
    split <;> exact ⟨rfl, rfl, rfl⟩
  unfold Part.fmuReport
  dsimp only
  split
  · rw [(Part.linkChanged_fields _ _).1, (Part.linkChanged_fields _ _).2.1, (Part.linkChanged_fields _ _).2.2, (clock _).1,
      (clock _).2.1, (clock _).2.2]
    split <;> exact ⟨rfl, rfl, rfl⟩
  · rw [(clock _).1, (clock _).2.1, (clock _).2.2]
    split <;> exact ⟨rfl, rfl, rfl⟩

/-- A PATH_STATE notice changes the Control Message Port alone. -/
theorem Part.notifyPath_fields (p : Path) (old x : Part) :
    (Part.notifyPath p x old).pa = x.pa ∧ (Part.notifyPath p x old).pb = x.pb ∧ (Part.notifyPath p x old).fmu = x.fmu ∧
    (Part.notifyPath p x old).pair = x.pair ∧ (Part.notifyPath p x old).dsc = x.dsc := by
  unfold Part.notifyPath
  split <;> exact ⟨rfl, rfl, rfl, rfl, rfl⟩

/-- A report: the paths are those after anchoring, the FMU takes its values from them. -/
theorem Part.report_fields (old x : Part) :
    (x.report old).pa = x.anchoring.1.pa ∧ (x.report old).pb = x.anchoring.1.pb ∧
    (x.report old).fmu = x.anchoring.1.fmuAfter x.anchoring.2 := by
  unfold Part.report
  dsimp only
  obtain ⟨a, b, c⟩ := Part.fmuReport_fields x.anchoring.2 (Part.notifyPath .b (Part.notifyPath .a x.anchoring.1 old) old)
  obtain ⟨a1, a2, a3, a4, -⟩ := Part.notifyPath_fields .b old (Part.notifyPath .a x.anchoring.1 old)
  obtain ⟨b1, b2, b3, b4, -⟩ := Part.notifyPath_fields .a old x.anchoring.1
  refine ⟨by rw [a, a1, b1], by rw [b, a2, b2], ?_⟩
  rw [c]
  unfold Part.fmuAfter Part.anchorAfter Part.path
  rw [a1, a2, a3, a4, b1, b2, b3, b4]

/-- What STANDBY entry makes of a path (R36): everything it clears, DISABLED or not, and DARK with its cause unless it was
DISABLED or DARK already. -/
theorem PathCtl.standby_eq (c : PathCtl) :
    c.standby = { c.standbyClear with
      state := if c.state = .disabled then .disabled else .dark
      cause := if c.state = .disabled ∨ c.state = .dark then c.cause else .standby } := by
  cases h : c.state <;> simp [PathCtl.standby, PathCtl.standbyClear, PathCtl.abandon, h]

/-- What STANDBY entry clears of a path (R36). -/
theorem PathCtl.standbyClear_cleared (c : PathCtl) :
    c.standbyClear.tx = .off ∧ c.standbyClear.darkTimer = 0 ∧ c.standbyClear.silenceTimer = 0 ∧
      c.standbyClear.recovery = 0 ∧ c.standbyClear.farRole = none ∧ c.standbyClear.stallReported = false ∧
      c.standbyClear.step = .none ∧ c.standbyClear.count = 0 ∧ c.standbyClear.stepTimer = 0 ∧ c.standbyClear.cfg = c.cfg :=
  ⟨rfl, rfl, rfl, rfl, rfl, rfl, rfl, rfl, rfl, rfl⟩

/-- ALIGN completed at STANDBY entry changes the paths and queues PATH_STATE notices, and nothing else. -/
theorem Part.standbyAligns_fields (x : Part) :
    ∃ c, x.standbyAligns = { x with pa := x.standbyAligns.pa, pb := x.standbyAligns.pb, cmp := c } := by
  have notify (p : Path) (y old : Part) : ∃ c, Part.notifyPath p y old = { y with cmp := c } := by
    unfold Part.notifyPath
    split <;> exact ⟨_, rfl⟩
  unfold Part.standbyAligns
  split
  · dsimp only
    obtain ⟨c, hc⟩ := notify .a ({ x with pa := x.pa.standbyUsable, pb := x.pb.standbyUsable } : Part).anchoring.1 x
    obtain ⟨d, hd⟩ := notify .b
      (Part.notifyPath .a ({ x with pa := x.pa.standbyUsable, pb := x.pb.standbyUsable } : Part).anchoring.1 x) x
    rw [hd, hc]
    unfold Part.anchoring
    (repeat' split) <;> exact ⟨_, rfl⟩
  · exact ⟨_, rfl⟩

/-- Each path after a report is the path after anchoring. -/
theorem Part.report_path (old x : Part) (p : Path) : (x.report old).path p = x.anchoring.1.path p := by
  have fields := Part.report_fields old x
  cases p <;> simp [Part.path, fields.1, fields.2.1]

/-- Anchoring leaves every path's configuration, and everything but the paths. -/
theorem Part.anchoring_fields (x : Part) :
    (∀ p, (x.anchoring.1.path p).cfg = (x.path p).cfg) ∧ x.anchoring.1.pair = x.pair ∧ x.anchoring.1.cmp = x.cmp := by
  unfold Part.anchoring
  refine ⟨fun p => ?_, ?_⟩
  · cases p <;> (repeat' split) <;> rfl
  · (repeat' split) <;> exact ⟨rfl, rfl⟩

/-- A path that is not at ALIGN, or any path with one usable, is as it was after anchoring. -/
theorem Part.anchoring_path (x : Part) (p : Path) (h : x.anyUsable = true ∨ (x.path p).atAlign = false) :
    x.anchoring.1.path p = x.path p := by
  unfold Part.anchoring
  cases p <;> (repeat' split) <;> simp_all [Part.path, Part.onPath]

/-! ### Echoes, phantom states, refusals and notices -/

/-- An echo changes the lane alone. -/
theorem Part.echo_eq (t : Target) (x : Part) : ∃ l, x.echo t = { x with ple := l } := by
  unfold Part.echo
  repeat' split
  all_goals exact ⟨_, rfl⟩

/-- A channel's new version: the version rises, an echo is produced, CHANNEL_CHANGED is queued (R87). -/
theorem Part.channelVersion_eq (n : Nat) (cause : ChangeCause) (x : Part) :
    ∃ l, x.channelVersion n cause =
      { x with
        chs := { x.chs with channels := updAt n (fun c => { c with version := inc16 c.version }) x.chs.channels }
        ple := l
        cmp := x.cmp.notify (.channelChanged n
          ((x.onChannel n fun c => { c with version := inc16 c.version }).channel n).echo cause) } := by
  unfold Part.channelVersion
  obtain ⟨l, h⟩ := (x.onChannel n fun c => { c with version := inc16 c.version }).echo_eq (.channel n)
  dsimp only
  rw [h]
  exact ⟨l, rfl⟩

/-- A phantom state entered: the channel's state, timer and conditioning target, and what the API holds (R91, R93). -/
theorem Part.setPhantom_eq (n : Nat) (st : Phantom) (timer : Nat) (x : Part) :
    let enter : Channel → Channel := fun c =>
      let ramp := c.ramp.retarget (condTarget x.dsc.opState { c with phantom := st, phantomTimer := timer })
      { c with phantom := st, phantomTimer := timer, ramp := ramp }
    ∃ a, x.setPhantom n st timer = { x with chs := { x.chs with channels := updAt n enter x.chs.channels }, api := a } := by
  unfold Part.setPhantom Part.evalCond Part.preamp Part.onChannel
  dsimp only
  split <;> (dsimp only; rw [updAt_updAt]; exact ⟨_, rfl⟩)

/-- A REFUSED record of a target that no mark and no unsent record has: it joins the tail, or is marked when the queue is full
(R74, R75). -/
theorem Part.refuse_eq (u : Update) (why : RefuseReason) (x : Part)
    (marks : ∀ m ∈ x.ple.marks, m.target ≠ .refusal (refusedId u).target)
    (unsent : ∀ r ∈ x.ple.queue, r.seq = none → r.msg.target ≠ .refusal (refusedId u).target) :
    x.refuse u why =
      if x.ple.queue.length < 32 then
        { x with ple := { x.ple with queue := x.ple.queue ++ [⟨.refused (refusedId u) why 1, none⟩] } }
      else
        { x with ple := { x.ple with marks := x.ple.marks ++ [.refused (refusedId u).target (refusedId u) why 1] } } := by
  have none_marked : (x.ple.marks.any fun m => m.target == .refusal (refusedId u).target) = false := by simpa using marks
  have none_unsent : findFrom (LaneRec.unsentOf (LaneMsg.refused (refusedId u) why 1).target) 0 x.ple.queue = none := by
    apply findFrom_none
    intro r hr
    simp only [LaneRec.unsentOf, LaneMsg.target]
    cases hs : r.seq
    · rw [Option.isNone_none, Bool.true_and, beq_eq_false_iff_ne]
      exact unsent r hr hs
    · rfl
  unfold Part.refuse
  dsimp only
  rw [if_neg (by simp [none_marked])]
  unfold admitTo clearEdits
  dsimp only
  rw [none_unsent]
  dsimp only
  by_cases room : x.ple.queue.length < 32
  · rw [if_pos room, if_pos room]
  · rw [if_neg room, if_neg room]

/-- A notice: discarded, joined to the tail of fewer than 32, or counted as lost (R168, R169). -/
theorem Cmp.notify_cases (n : Notice) (c : Cmp) :
    c.notify n = c ∨ (c.notices.length < 32 ∧ c.notify n = { c with notices := c.notices ++ [n] }) ∨
    (32 ≤ c.notices.length ∧ c.notify n = { c with lossFlag := true, lost := satInc c.lost }) := by
  unfold Cmp.notify
  split
  · unfold Cmp.join
    split
    · exact .inr (.inl ⟨‹_›, rfl⟩)
    · exact .inr (.inr ⟨by omega, rfl⟩)
  · exact .inl rfl

/-- A destination that takes a state has the ramp targets of that state (Table 6-3, R118, R147). -/
theorem Part.setDest_targetsFollow (d : Nat) (st : DestState) (holder : Option Source) (x : Part) (hd : d < 17)
    (hl : x.tka.dests.length = 17) (hm : x.mxe.mixes.length = 16) : (x.setDest d st holder).TargetsFollow d := by
  unfold Part.setDest Part.TargetsFollow
  dsimp only
  split
  · subst d
    exact ⟨fun h => absurd h (by decide), fun _ => Ramp.retarget_target ..⟩
  · refine ⟨fun h => ?_, fun h => absurd h ‹_›⟩
    have hdest : ((x.onDest d fun _ => ⟨st, holder, false⟩).onMix d (Mix.handDest st)).dest d = ⟨st, holder, false⟩ := by
      show (x.onDest d fun _ => ⟨st, holder, false⟩).dest d = _
      rw [Part.dest_onDest]; simp [hl, hd]
    have hmix : ((x.onDest d fun _ => ⟨st, holder, false⟩).onMix d (Mix.handDest st)).mix d = Mix.handDest st (x.mix d) := by
      rw [Part.mix_onMix]; simp [hm, h]
      rfl
    rw [hdest, hmix]
    exact ⟨rfl, Ramp.retarget_target .., Ramp.retarget_target ..⟩

/-- A change of a session leaves every destination and its ramps. -/
theorem Part.onSource_targetsFollow (src : Source) (f : SourceRec → SourceRec) (d : Nat) (x : Part) :
    (x.onSource src f).TargetsFollow d ↔ x.TargetsFollow d := by
  cases src <;> exact Iff.rfl

/-- A notice leaves the replies, the requests and the mask. -/
@[simp] theorem Cmp.notify_replies (n : Notice) (c : Cmp) :
    (c.notify n).replies = c.replies ∧ (c.notify n).executing = c.executing ∧ (c.notify n).mask = c.mask := by
  rcases c.notify_cases n with h | ⟨-, h⟩ | ⟨-, h⟩ <;> rw [h] <;> exact ⟨rfl, rfl, rfl⟩

/-- The transmit arbiter's choice: the oldest reply begins, the oldest notice begins, or nothing stands in a queue (R166). -/
theorem Cmp.transmit_cases (first : Bool) (c : Cmp) :
    (∃ r rest, c.replies = r :: rest ∧ c.transmit first = { c with sending := some (.reply r), replies := rest }) ∨
    (∃ n rest, c.notices = n :: rest ∧ c.transmit first = c.sendNotice n rest ∧
      (c.replies = [] ∨ (first = true ∧ c.eitherFirst = true))) ∨
    (c.replies = [] ∧ c.notices = [] ∧ c.transmit first = c) := by
  unfold Cmp.transmit Cmp.transmitNotice Cmp.eitherFirst
  cases hr : c.replies <;> cases hn : c.notices <;> cases first <;> cases hf : c.replyFirst <;> simp

/-- An acceptable echo: the mirror is not INVALID and the entry is unknown or older (R84). -/
theorem Mirror.accepts_iff (m : Mirror) (held : Option Nat) (v : Nat) :
    m.accepts held v = true ↔ m.state ≠ .invalid ∧ ∀ w, held = some w →
      1 ≤ (v + 65536 - w % 65536) % 65536 ∧ (v + 65536 - w % 65536) % 65536 ≤ 32767 := by
  cases held <;> simp [Mirror.accepts, newer16_iff]

end Sys2Proof.Machine
end

