-- ==== Sys2Proof/Tests/Slice0.lean ====
section
/-!
SUPPORT. The model's own tests: ill-formed commands refused, the manual's worked cases, and for each statement with hypotheses
a witness that meets them. Expected results come from the section each test names.
-/

namespace Sys2Proof.Tests

set_option Elab.async false

open Sys2Proof Sys2Proof.Machine

/-! ### Ill-formed commands -/

/-- A well-formed sample event: eight ports of eight slots and a talk port. -/
def wellInput : SampleInput :=
  ⟨List.replicate 8 (List.replicate 8 0), List.replicate 8 0, false, false⟩

theorem test_wf_operands :
    (Instr.sampleEvent wellInput).wf = true ∧ (Instr.gainWalkStep 63).wf = true ∧ (Instr.fadeEnd 16).wf = true ∧
    (Instr.setPath 255 1 ⟨none, some 65535, none, none, none, some 255⟩).wf = true ∧
    (Instr.openTalk 0 2 7 1 16777215).wf = true := by decide

theorem test_wf_refuses_ports :
    (Instr.sampleEvent { wellInput with ports := List.replicate 9 (List.replicate 8 0) }).wf = false ∧
    (Instr.sampleEvent { wellInput with ports := [List.replicate 7 0] }).wf = false ∧
    (Instr.sampleEvent { wellInput with talk := [0] }).wf = false ∧
    (Instr.characterReceived ⟨(false, false, false), [], (true, true, true)⟩).wf = false := by decide

theorem test_wf_refuses_entries :
    (Instr.gainWalkStep 64).wf = false ∧ (Instr.phantomRiseEnd 64).wf = false ∧ (Instr.phantomFallEnd 64).wf = false ∧
    (Instr.contribFreed 16 ⟨.input, 0⟩).wf = false ∧ (Instr.contribFreed 0 ⟨.input, 64⟩).wf = false ∧
    (Instr.contribFreed 0 ⟨.ret, 8⟩).wf = false ∧ (Instr.leavingEnd 16).wf = false ∧ (Instr.arrivingEnd 16).wf = false ∧
    (Instr.fadeEnd 17).wf = false := by decide

theorem test_wf_refuses_tags :
    (Instr.identify 256).wf = false ∧ (Instr.setState 256 0).wf = false ∧ (Instr.resetSoft 256).wf = false ∧
    (Instr.linkReset 256).wf = false ∧ (Instr.getLink 256).wf = false ∧ (Instr.getTalk 256).wf = false ∧
    (Instr.getLock 256).wf = false ∧ (Instr.meterRead 256 0 0).wf = false := by decide

theorem test_wf_refuses_fields :
    (Instr.setState 0 256).wf = false ∧ (Instr.setNoticeMask 0 65536).wf = false ∧
    (Instr.setPath 0 256 ⟨none, none, none, none, none, none⟩).wf = false ∧
    (Instr.setPath 0 0 ⟨none, some 65536, none, none, none, none⟩).wf = false ∧
    (Instr.getPath 0 256).wf = false ∧ (Instr.setPlayout 0 256).wf = false ∧ (Instr.setClock 0 256).wf = false ∧
    (Instr.getChannel 0 256).wf = false ∧ (Instr.getMix 0 256).wf = false ∧ (Instr.meterRead 0 256 0).wf = false ∧
    (Instr.meterRead 0 0 256).wf = false := by decide

theorem test_wf_refuses_updates :
    (Instr.setChannel 0 256 ⟨none, none, none, none, none⟩).wf = false ∧
    (Instr.setChannel 0 0 ⟨some 256, none, none, none, none⟩).wf = false ∧
    (Instr.setMix 0 256 ⟨none, none, none, none, none⟩).wf = false ∧
    (Instr.setMix 0 0 ⟨none, none, none, none, some 256⟩).wf = false ∧
    (Instr.putContrib 0 256 0 0 0).wf = false ∧ (Instr.putContrib 0 0 0 0 256).wf = false ∧
    (Instr.dropContrib 0 0 256 0).wf = false ∧ (Instr.clearMix 0 256).wf = false ∧
    (Instr.openTalk 0 1 1 0 16777216).wf = false ∧ (Instr.closeTalk 0 256).wf = false ∧
    (Instr.setTalkCfg 0 ⟨none, none, some 65536⟩).wf = false ∧ (Instr.setTalkCfg 0 ⟨some 256, none, none⟩).wf = false ∧
    (Instr.setLock 0 ⟨none, none, none, some 256⟩).wf = false := by decide

/-! ### Parts the tests start from -/

/-- A STAGE part right after power-on. -/
def stage : Part :=
  Part.powerOn ⟨.stage, false, false⟩

/-- A DESK part right after power-on. -/
def desk : Part :=
  Part.powerOn ⟨.desk, false, false⟩

/-- A part with no command waiting. -/
def at_ (x : Part) : State :=
  ⟨x, []⟩

/-- The part after one command. -/
def after (c : Instr) (x : Part) : Part :=
  match exec c (at_ x) with
  | .next t => t.part
  | .fault _ => x
  | .refused _ => x

/-- A part in OPERATE. -/
def operating (x : Part) : Part :=
  { x with dsc := { x.dsc with opState := .operate } }

/-- A part with one path in a state, a step and a count. -/
def pathAt (p : Path) (st : PathState) (step : BringStep) (count : Nat) (x : Part) : Part :=
  x.onPath p fun c => { c with state := st, step := step, count := count }

/-- A path in service as the reference of an EXPOSED link, with the pointer set. -/
def serving (p : Path) (x : Part) : Part :=
  let y := pathAt p .inService .none 0 (operating x)
  { y with fmu := { y.fmu with link := .exposed, ref := some p, p := some 100 } }

/-- An idle frame of a role. -/
def idleFrame (role : Role) (seq : Nat) (restart restartAck : Bool) : Frame :=
  ⟨seq, 255, role, restart, restartAck, true, [], [], none⟩

/-- A full stage-bound frame of silence. -/
def fullFrame (seq : Nat) : Frame :=
  ⟨seq, 255, .desk, false, false, false, List.replicate 4 Sym.idle, List.replicate 9 0, none⟩

/-! ### Worked cases of the manual -/

/-- 0.6.3: the three cases of the rounded shift. -/
theorem test_rounded_shift : roundShift 98304 = 2 ∧ roundShift (-32768) = 0 ∧ roundShift (-32769) = -1 := by decide

/-- Table 0-3, and the boundary of 0.6.4 between codes 15 and 16. -/
theorem test_fader_codes :
    faderK 0 = 0 ∧ faderK 1 = 17 ∧ faderK 15 = 31 ∧ faderK 16 = 32 ∧ faderK 137 = 6400 ∧ faderK 176 = 32768 ∧
    faderK 184 = 49152 ∧ faderK 192 = 65536 ∧ faderK 200 = 98304 ∧ faderK 255 = 1015808 := by decide

/-- The CRC with polynomial 0x1021 and start 0xFFFF of the digits 1 to 9 is 0x29B1: the published check value of a CRC of the
form R162 gives (PRESUMED: the manual gives no example). -/
theorem test_message_check : crc16 [49, 50, 51, 52, 53, 54, 55, 56, 57] = 0x29B1 := by decide +kernel

/-- The CRC with polynomial 0x04C11DB7 and start 0xFFFFFFFF, with nothing inverted, of the digits 1 to 9 is 0x0376E6E7:
the published check value of a CRC of the form 9.7 gives (PRESUMED: the manual gives no example). -/
theorem test_fibre_check : crc32 (byteBits [49, 50, 51, 52, 53, 54, 55, 56, 57]) = 0x0376E6E7 := by decide +kernel

/-- Table 3-4: the conceal ramp through a gap at G, and the outputs at G and G+1. -/
theorem test_conceal_gap :
    let g := ((Ramp.rest 65536).retarget 0).advance
    let g1 := (g.retarget 65536).advance
    g = ⟨64512, 0, -1024, 63⟩ ∧ roundShift (500000 * g.cur) = 492188 ∧ g1 = ⟨64528, 65536, 16, 63⟩ ∧
    roundShift (501000 * g1.cur) = 493294 ∧ (Nat.iterate Ramp.advance 62 g1).cur = 65520 ∧
    Nat.iterate Ramp.advance 63 g1 = ⟨65536, 65536, 16, 0⟩ := by decide +kernel

/-- Table 5-2 and its last paragraph: the conditioned sample of channel 21 through a reversed mute, and the clamp. -/
theorem test_reversed_mute :
    let c (cur : Int) : Channel := { Channel.powerOn with inverted := true, ramp := ⟨cur, 0, 0, 0⟩ }
    conditionSample (c 64512) 1000000 = -984375 ∧ conditionSample (c 49152) 1000000 = -750000 ∧
    conditionSample (c 49408) 1000000 = -753906 ∧ conditionSample (c 65536) (-8388608) = 8388607 := by decide +kernel

/-- Section 6.6.1: mix 9 with talk held, after the talk, and with the master raised. -/
theorem test_mix_worked_case :
    let c (b : Bank) (i code : Nat) : Contrib := ⟨⟨b, i⟩, code, Ramp.rest (faderK code), true, false⟩
    let bus : Bus := { Bus.powerOn with
      conditioned := ((List.replicate 64 (0, false)).set 5 (1000000, false)).set 9 (-400000, false)
      played := [0, 0, 3000000] }
    let m (master dim : Int) (talk : Int) : Mix := { Mix.powerOn with
      contribs := [c .input 5 192, c .input 9 176, c .ret 2 200]
      masterRamp := Ramp.rest master, dimRamp := Ramp.rest dim, talkRamp := Ramp.rest talk }
    busSum bus (m 0 0 0) = 347340800000 ∧
    mixOutput bus (m 49152 6400 65536) 2000000 = (2388184, false, false) ∧
    mixOutput bus (m 49152 65536 0) 0 = (3975000, false, false) ∧
    mixOutput bus (m 1015808 65536 0) 0 = (8388607, false, true) := by decide +kernel

/-- Section 6.6.2: the bus overload of mix 12. -/
theorem test_bus_overload :
    let c (i : Nat) : Contrib := ⟨⟨.input, i⟩, 255, Ramp.rest 1015808, true, false⟩
    let bus : Bus := { Bus.powerOn with conditioned := List.replicate 64 (8000000, false) }
    mixOutput bus { Mix.powerOn with contribs := [c 0, c 1], masterRamp := Ramp.rest 17 } 0 = (34816, true, false) := by
  decide +kernel

/-- Table 1-3: tag 17 begins the wake; at 2,400 events left, tag 18 aborts it. -/
theorem test_wake_aborted :
    let w := after (.setState 17 1) stage
    let x := after (.setState 18 0) { w with dsc := { w.dsc with wakeTimer := 2400 } }
    w.dsc.opState = .waking ∧ w.dsc.wakeTimer = 3840 ∧ w.dsc.heldState = some 17 ∧ w.cmp.replies = [] ∧
    x.dsc.opState = .standby ∧ x.dsc.heldState = none ∧
    x.cmp.replies = [⟨17, .aborted, .none⟩, ⟨18, .ok, .none⟩] := by decide +kernel

/-- Table 4-4: the admission of four requests beside record 40 in flight. -/
theorem test_admission :
    let none5 : ChanSet := ⟨none, none, none, none, none⟩
    let mix5 : MixSet := ⟨none, none, none, none, none⟩
    let r40 : LaneRec := ⟨.update (.setChannel 7 { none5 with gain := some 30 }), some 40⟩
    let start : List LaneRec := [r40, ⟨.update (.setMix 2 { mix5 with master := some 184 }), none⟩,
      ⟨.update (.putContrib 2 0 4 192), none⟩]
    let x := { desk with ple := { desk.ple with queue := start, nextSeq := 41 } }
    let y := after (.setMix 2 2 { mix5 with dim := some 150 }) (after (.setChannel 1 7 { none5 with mute := some 1 }) x)
    let z := after (.clearMix 4 2) (after (.dropContrib 3 2 0 4) y)
    let merged : LaneRec := ⟨.update (.setMix 2 { mix5 with master := some 184, dim := some 150 }), none⟩
    let mute : LaneRec := ⟨.update (.setChannel 7 { none5 with mute := some 1 }), none⟩
    y.ple.queue = [r40, merged, ⟨.update (.putContrib 2 0 4 192), none⟩, mute] ∧
    z.ple.queue = [r40, merged, mute, ⟨.update (.clearMix 2), none⟩] ∧
    z.cmp.replies = [⟨1, .accepted, .none⟩, ⟨2, .accepted, .none⟩, ⟨3, .accepted, .none⟩, ⟨4, .accepted, .none⟩] := by
  decide +kernel

/-- Table 3-3, events E3 and E7: the arrivals at distances 6 and 4, and the playout of path B's copy of frame 107. -/
theorem test_unequal_delay :
    let fm : Fmu := { Fmu.powerOn .stage with p := some 103 }
    let e3 := (fm.place .a (fullFrame 109)).place .b (fullFrame 107)
    let e7 := ({ e3 with p := some 107 }).playout
    distance 109 103 = 6 ∧ distance 107 103 = 4 ∧ (e3.slot 107).goodA = false ∧ (e3.slot 107).goodB = true ∧
    e7.1 = some (fullFrame 107) ∧ e7.2.p = some 108 ∧ e7.2.slot 107 = MergeSlot.empty := by decide +kernel

/-- Table 2-6: W1 makes path B IMPAIRED on 60 bad frames, W5's 47 count as clean, W6's 50 late frames change the cause, and
the tenth clean window's end returns it to service. -/
theorem test_error_windows :
    let c (bad late : Nat) (st : PathState) (cause : Cause) (rec : Nat) : Part := (pathAt .b st .none 0 stage).onPath .b fun c =>
      { c with badCount := bad, lateCount := late, cause := cause, recovery := rec, errDue := true }
    let w1 := after (.errorWindowEnd .b) (c 60 0 .inService .bringup 0)
    let w5 := after (.errorWindowEnd .b) (c 47 0 .impaired .errors 3)
    let w6 := after (.errorWindowEnd .b) (c 3 50 .impaired .errors 4)
    let w16 := after (.pathRecovered .b) (c 0 0 .impaired .skew 10)
    (w1.pb.state = .impaired ∧ w1.pb.cause = .errors ∧ w1.pb.recovery = 0) ∧
    (w5.pb.state = .impaired ∧ w5.pb.cause = .errors ∧ w5.pb.recovery = 4) ∧
    (w6.pb.state = .impaired ∧ w6.pb.cause = .skew ∧ w6.pb.recovery = 0) ∧
    (w16.pb.state = .inService ∧ w16.pb.cause = .recovered ∧ w16.pb.recovery = 0) := by decide +kernel

/-- Table 3-7: the link state and reference at 'B window end, ERRORS', at 'A light lost' and at 'A back in service', revertive
on and off. -/
theorem test_reference_through_faults :
    let after_ (a b : PathState) (revertive : Bool) (ref : Path) : LinkState × Option Path :=
      let x := { pathAt .a a .none 0 (pathAt .b b .none 0 stage) with pair := ⟨.a, revertive⟩ }
      let y := { x with fmu := { x.fmu with link := .protect, ref := some ref } }
      let z := y.report y
      (z.fmu.link, z.fmu.ref)
    after_ .inService .impaired false .b = (.protect, some .a) ∧ after_ .dark .impaired true .a = (.exposed, some .b) ∧
    after_ .inService .inService true .b = (.protect, some .a) ∧ after_ .inService .inService false .b = (.protect, some .b) ∧
    after_ .dark .dark true .b = (.severed, none) := by decide +kernel

/-- Table 4-3: the STAGE completes record 22 while it expects 21; the DESK takes ack 20, and then ack 22. -/
theorem test_gap_and_acks :
    let rec_ (n : Nat) : LaneRec := ⟨.update (.clearMix n), some n⟩
    let s := { stage with ple := { stage.ple with expSeq := 21, done := [⟨5, 22, [3]⟩] } }
    let d : Ple := { Ple.powerOn with queue := [rec_ 20, rec_ 21, rec_ 22], nextSeq := 23, resendTimer := 33 }
    let s' := after .laneRecordComplete s
    let s'' := after .laneRecordComplete { s with dsc := { s.dsc with restartFlag := false } }
    s'.ple.outOfOrder = 0 ∧ s'.ple.expSeq = 21 ∧ s''.ple.outOfOrder = 1 ∧ s''.ple.expSeq = 21 ∧
    (d.takeAck false 20).queue = [rec_ 21, rec_ 22] ∧ (d.takeAck false 20).resendTimer = 0 ∧
    ((d.takeAck false 20).takeAck false 22).queue = [] := by decide +kernel

/-- Table 5-3: the step at W+385 turns the walk of channel 33 back, handing over gain 23 with the walk timer at 96. -/
theorem test_walk_turns :
    let x := stage.onChannel 33 fun c => { c with gainTarget := 18, gain := 24, walkDue := true }
    let y := after (.gainWalkStep 33) { x with api := { x.api with queue := [] } }
    (y.channel 33).gain = 23 ∧ (y.channel 33).walkTimer = 96 ∧ y.api.queue = [⟨33, 23, false, false⟩] := by decide +kernel

/-- Six channels RISING and two QUEUED, as Table 5-5 has them after its first row. -/
def eightAsking : Part :=
  let x := operating stage
  let channels := (List.range 64).map fun n =>
    if n < 6 then { Channel.powerOn with request := true, phantom := .rising, phantomTimer := 12000 }
    else if n < 8 then { Channel.powerOn with request := true, phantom := .queued }
    else Channel.powerOn
  { x with chs := { x.chs with channels := channels, phantomQueue := [6, 7] } }

/-- Table 5-5: off for channel 2 frees its place for channel 6; off for channel 7 leaves the queue; the end of channel 2's
fall, with its request on again, offers it. -/
theorem test_phantom_queue :
    let off : ChanSet := ⟨none, none, none, none, some 0⟩
    let y := after (.setChannel 1 2 off) eightAsking
    let z := after (.setChannel 1 7 off) eightAsking
    let w := after (.phantomFallEnd 2) (operating stage |>.onChannel 2 fun c => { c with request := true, phantom := .falling })
    (y.channel 2).phantom = .falling ∧ (y.channel 2).phantomTimer = 24000 ∧ (y.channel 6).phantom = .rising ∧
    y.chs.phantomQueue = [7] ∧ (z.channel 7).phantom = .off ∧ (z.channel 7).version = 1 ∧ z.chs.phantomQueue = [6] ∧
    (w.channel 2).phantom = .rising ∧ (w.channel 2).version = 0 := by decide +kernel

/-- Table 5-7: the desk's mute is applied at the stage at version 43, and the stage host's unmute is then LOCKED. -/
theorem test_crossing_edits :
    let x := (stage.onChannel 9 fun c => { c with inverted := true, version := 42 }).applyMsg
      (.update (.setChannel 9 ⟨none, none, none, some 1, none⟩))
    let y := x.applyMsg (.update (.setLock ⟨none, some 1, none, none⟩))
    let z := after (.setChannel 5 9 ⟨none, none, none, some 0, none⟩) y
    x.channel 9 = { Channel.powerOn with inverted := true, mute := true, version := 43 } ∧
    y.chs.locks = ⟨false, true, false, false, 1⟩ ∧ z.cmp.replies = [⟨5, .locked, .none⟩] ∧
    z.channel 9 = x.channel 9 := by decide +kernel

/-- Table 6-2: the drop at E, and the put with code 200 after twenty of its steps. -/
theorem test_drop_reversed :
    let c : Contrib := ⟨⟨.input, 7⟩, 192, Ramp.rest 65536, true, false⟩
    let x := stage.onMix 2 fun m => { m with contribs := [c] }
    let y := after (.dropContrib 1 2 0 7) x
    let z := after (.putContrib 2 2 0 7 200) (y.onMix 2 fun m => { m with contribs :=
      [{ c with ramp := ⟨45056, 0, -1024, 44⟩, live := false }] })
    (y.mix 2).contribs = [{ c with ramp := ⟨65536, 0, -1024, 64⟩, live := false }] ∧
    (z.mix 2).contribs = [⟨⟨.input, 7⟩, 200, ⟨45056, 98304, 832, 64⟩, true, false⟩] ∧ (z.mix 2).version = 2 := by
  decide +kernel

/-- Table 6-5: SET_MIX offset 8 at S, and LEAVING's end at S+64 with 16 pending. -/
theorem test_offset_changes :
    let c (b : Bank) (i code : Nat) (v : Int) (cur : Int) : Contrib := ⟨⟨b, i⟩, code, ⟨cur, v, 0, 0⟩, true, false⟩
    let x := stage.onMix 4 fun m => { m with version := 7
                                             contribs := [c .input 2 192 65536 65536, c .ret 1 192 65536 65536] }
    let y := (after (.setMix 1 4 ⟨none, some 8, none, none, none⟩) x).mix 4
    let z := (after (.leavingEnd 4) (stage.onMix 4 fun m =>
      { m with version := 10, phase := .leaving, pendingOffset := 16, leavingDue := true
               contribs := [c .input 2 192 0 0, c .input 3 176 0 0] })).mix 4
    (y.phase = .leaving ∧ y.offset = 0 ∧ y.pendingOffset = 8 ∧ y.version = 8 ∧
      y.contribs.map (fun c => c.ramp.step) = [-1024, 0]) ∧
    (z.phase = .arriving ∧ z.offset = 16 ∧ z.pendingOffset = 16 ∧ z.version = 11 ∧
      z.contribs.map (fun c => c.ramp.step) = [1024, 512]) := by decide +kernel

/-- A session of a priority with a requested and a granted set. -/
def session (pri : Nat) (latched : Bool) (requested granted order : Nat) : Session :=
  ⟨pri, latched, requested, granted, order, 0, false⟩

/-- Mixes 3 and 4 held by MON at priority 3 in OPERATE on an EXPOSED link, as Table 7-4 begins. -/
def monHolds : Part :=
  let x := ((serving .a stage).onDest 3 fun _ => ⟨.held, some .mon, false⟩).onDest 4 fun _ => ⟨.held, some .mon, false⟩
  let y := x.onSource .mon fun _ => ⟨some (session 3 false 24 24 1), 1, .none⟩
  { y with tka := { y.tka with openCounter := 1 } }

/-- Table 7-4: STAGE opens at priority 5 for mix 3 and FOH CUE; at P+64 the fade ends. -/
theorem test_preemption :
    let p := after (.openTalk 1 2 5 0 65544) monHolds
    let q := after (.fadeEnd 3) (p.onDest 3 fun d => { d with fadeDue := true })
    p.dest 3 = ⟨.fading, some .mon, false⟩ ∧ p.dest 16 = ⟨.held, some .stg, false⟩ ∧
    (p.session .mon).map (fun z => z.granted) = some 16 ∧ (p.session .stg).map (fun z => z.granted) = some 65536 ∧
    q.dest 3 = ⟨.held, some .stg, false⟩ ∧ (q.session .stg).map (fun z => z.granted) = some 65544 := by decide +kernel

/-- Table 8-2: METER_READ first 10 count 4 at F+30, and the cell with 7,031 at F+160. -/
theorem test_meter_followed :
    let e (n : Nat) : MeterEntry := if n = 12 then ⟨14062, false, 30⟩ else MeterEntry.powerOn
    let x := { desk with mtu := { desk.mtu with table := (List.range 80).map e } }
    let y := after (.meterRead 9 10 4) x
    let read (n : Nat) : MeterInfo := ⟨n, (e n).level, false, (e n).age, n != 12⟩
    y.cmp.replies = [⟨9, .ok, .meters 4 [read 10, read 11, read 12, read 13]⟩] ∧
    y.mtu.table[12]? = some ⟨0, false, 30⟩ ∧ y.mtu.table[14]? = some MeterEntry.powerOn ∧
    (Mtu.cell { desk.mtu with accs := [⟨2500000, false⟩] }).level = 19531 := by decide +kernel

/-- A part whose port holds seven replies, as Table 9-4 begins. -/
def heldLine : Part :=
  { stage with cmp := { stage.cmp with hold := true, replies := List.replicate 7 ⟨1, .ok, .none⟩ } }

/-- Table 9-4: tags 40 to 43 against a held line. -/
theorem test_held_line :
    let a := after (.getChannel 40 0) heldLine
    let b := after (.getMix 41 0) a
    let c := after (.meterRead 42 0 1) b
    let d := after (.getPath 43 0) c
    a.cmp.replies.length = 8 ∧ a.cmp.executing = none ∧
    b.cmp.executing = some ⟨41, .getMix 0⟩ ∧ b.cmp.staged = none ∧ c.cmp.staged = some ⟨42, .meterRead 0 1⟩ ∧
    d.cmp.executing = some ⟨41, .getMix 0⟩ ∧ d.cmp.staged = some ⟨42, .meterRead 0 1⟩ ∧ d.cmp.repliesLost = 1 ∧
    d.cmp.replies.length = 8 := by decide +kernel

/-- Table 10-3: the same requests at each end, with class MIX locked at the stage. -/
theorem test_same_edits :
    let l := { stage with chs := { stage.chs with locks := { stage.chs.locks with mix := true } } }
    let f (master offset : Option Nat) : MixSet := ⟨master, offset, none, none, none⟩
    let code (c : Instr) (x : Part) : List ReplyCode := (after c x).cmp.replies.map fun r => r.code
    code (.setMix 1 20 (f (some 192) none)) desk = [.range] ∧ code (.setMix 1 20 (f (some 192) none)) l = [.range] ∧
    code (.setMix 1 5 (f none (some 90))) desk = [.accepted] ∧ code (.setMix 1 5 (f none (some 90))) l = [.locked] ∧
    (after (.setMix 1 5 (f none (some 90))) desk).ple.queue = [⟨.update (.setMix 5 (f none (some 63))), none⟩] ∧
    code (.setMix 1 5 (f none none)) desk = [.already] ∧ code (.setMix 1 5 (f none none)) l = [.already] ∧
    code (.putContrib 1 5 2 0 0) desk = [.range] ∧ code (.putContrib 1 5 2 0 0) l = [.range] := by decide +kernel

/-- Table 9-2 and R1: the straps are read at power-on. -/
theorem test_power_on_straps :
    let x := after (.powerOn ⟨.desk, true, false⟩) stage
    x.dsc.role = .desk ∧ x.cmp.speed1 = true ∧ x.cmp.speed0 = false ∧ x.dsc.restartFlag = true ∧ x.api.queue = [] := by
  decide +kernel

/-- R15, R16 and R41: a sample event at DESK carries its returns in the frame and leaves the talk slot 0 with no session. -/
theorem test_sample_event_desk :
    let x := { desk with pa := { desk.pa with tx := .full }, fmu := { desk.fmu with txSeq := 65535 } }
    let y := after (.sampleEvent ⟨[[0x00000100, 0xFFFFFF00]], [0x7FFFFF00], false, false⟩) x
    y.pa.sentFrame = some ⟨65535, 255, .desk, true, false, false, List.replicate 4 Sym.idle, [1, -1, 0, 0, 0, 0, 0, 0, 0], none⟩ ∧
    y.pb.sentFrame = none ∧ y.fmu.txSeq = 0 := by decide +kernel


/-- R31 and R36: the silence timer is 0 where a path recovers and, on a DARK path too, at STANDBY entry. -/
theorem test_silence_timer_restarts :
    let c (st : PathState) (x : Part) : Part := (pathAt .b st .none 0 x).onPath .b fun c => { c with silenceTimer := 7, recovery := 10 }
    (after (.pathRecovered .b) (c .impaired stage)).pb.silenceTimer = 0 ∧
    (after (.setState 1 0) (c .dark (operating stage))).pb.silenceTimer = 0 := by decide +kernel

/-- R73 and Table 9-9: an echo whose identifier is out of range, and a refusal with count 0, fit their kinds. -/
theorem test_identifiers_out_of_range_fit :
    let e : LaneMsg := .echoContrib 200 ⟨.ret, 255⟩ ⟨9, none⟩
    let r : LaneMsg := .refused ⟨1, 200, 0, 0⟩ .state 0
    readRecord .desk e.kind e.body = some e ∧ readRecord .desk r.kind r.body = some r := by decide +kernel

/-- R166: of a reply and a notice that both joined while the transmitter was idle, either begins. -/
theorem test_both_joined_while_idle :
    let x := after (.setClock 4 1) desk
    x.cmp.eitherFirst = true ∧
    (x.cmp.transmit true).sending = some (.notice (.clockState ⟨.desk, some .ext, .free, none⟩)) ∧
    (x.cmp.transmit false).sending = some (.reply ⟨4, .ok, .none⟩) := by decide +kernel

/-! ### Witnesses: the hypotheses of each statement are met

Each theorem names the statement whose hypotheses its parts meet, clause by clause, at the values where clauses meet. -/

/-- A full house-bound frame with every value at its limit. -/
def houseFrame : Frame :=
  ⟨65535, 255, .stage, true, true, false, List.replicate 4 ⟨true, 255⟩, List.replicate 65 (-8388608), some ⟨79, 65535, true⟩⟩

theorem ready_desk : desk.PortReady := by
  unfold Part.PortReady; decide +kernel

theorem ready_stage : stage.PortReady := by
  unfold Part.PortReady; decide +kernel

theorem ready_operating : (operating stage).PortReady := by
  unfold Part.PortReady; decide +kernel

/-- The link state and the reference of a part follow its usable paths. -/
theorem link_witness (x : Part)
    (h : (x.fmu.link = .protect ↔ (x.pa.usable = true ∧ x.pb.usable = true)) ∧
      (x.fmu.link = .exposed ↔ (x.pa.usable ≠ x.pb.usable)) ∧ x.fmu.ref.isSome = x.fmu.link.up)
    (r : (x.fmu.ref.all fun p => (x.path p).usable) = true) : x.LinkInv :=
  ⟨h.1, h.2.1, h.2.2, fun p k => by rw [k] at r; exact r⟩

/-- The sessions of a source agree with the destinations. -/
def sessionAgrees (x : Part) (src : Source) : Bool :=
  match x.session src with
  | none => true
  | some z => decide (z.granted < 2 ^ 17) && decide (x.dsc.role = .stage) && (List.range 17).all fun d =>
      !z.granted.testBit d || ((x.dest d).state == .held && (x.dest d).holder == some src && x.eligible z d)

theorem talk_witness (x : Part) (hd : x.tka.dests.length = 17) (hm : x.mxe.mixes.length = 16)
    (a : sessionAgrees x .foh = true ∧ sessionAgrees x .mon = true ∧ sessionAgrees x .stg = true)
    (f : ∀ d : Fin 17, ((x.dest d).state = .free ↔ (x.dest d).holder = none) ∧ ((x.dest d).state = .held →
      (((x.dest d).holder.bind x.session).all fun z => z.granted.testBit d) = true ∧ ((x.dest d).holder.bind x.session).isSome = true))
    (m : ∀ m : Fin 16, (x.mix m).dest = (x.dest m).state) : x.TalkInv := by
  have out : ∀ d, 17 ≤ d → x.dest d = Dest.powerOn := fun d h => by
    simp [Part.dest, hd, h]
  have ag : ∀ src, sessionAgrees x src = true := fun src => by
    cases src
    · exact a.1
    · exact a.2.1
    · exact a.2.2
  refine ⟨hd, hm, fun d => ?_, fun d src h k => ?_, fun src z d h k => ?_, fun k h => m ⟨k, h⟩, fun h src => ?_⟩
  · by_cases h : d < 17
    · exact (f ⟨d, h⟩).1
    · rw [out d (by omega)]; decide
  · by_cases hd' : d < 17
    · obtain ⟨p, q⟩ := (f ⟨d, hd'⟩).2 h
      rw [show ((x.dest d).holder.bind x.session) = x.session src by rw [k]; rfl] at p q
      obtain ⟨z, hz⟩ := Option.isSome_iff_exists.mp q
      rw [hz] at p
      exact ⟨z, hz, by simpa using p⟩
    · rw [out d (by omega)] at h; cases h
  · have g := ag src
    simp only [sessionAgrees, h, Bool.and_eq_true, decide_eq_true_eq, List.all_eq_true, List.mem_range] at g
    have hd' : d < 17 := by
      by_contra hc
      have := Nat.testBit_lt_two_pow (Nat.lt_of_lt_of_le g.1.1 (Nat.pow_le_pow_right (by decide) (by omega : 17 ≤ d)))
      rw [this] at k; cases k
    have := g.2 d hd'
    simp only [k, Bool.not_true, Bool.false_or, Bool.and_eq_true, beq_iff_eq] at this
    exact ⟨hd', this.1.1, this.1.2, this.2⟩
  · have g := ag src
    cases hs : x.session src with
    | none => rfl
    | some z => simp [sessionAgrees, hs, h] at g

/-- FOH holds mix 2 and FOH CUE, MON holds mixes 3 and 4 and waits for FOH CUE, with path A in service. -/
def talking : Part :=
  ((serving .a stage).talkOpen .foh 5 false 65540 .lane).talkOpen .mon 3 false 65560 .host

/-- MON holds FOH CUE with mix 3, with path A in service. -/
def monOnCue : Part :=
  (serving .a stage).talkOpen .mon 3 false 65544 .host

/-- MON holds mix 3 and waits for FOH CUE, with the link down. -/
def waitingForCue : Part :=
  (operating stage).talkOpen .mon 3 false 65544 .host

theorem talk_talking : talking.TalkInv :=
  talk_witness _ (by decide +kernel) (by decide +kernel) (by decide +kernel) (by decide +kernel) (by decide +kernel)

theorem talk_stage : stage.TalkInv :=
  talk_witness _ (by decide +kernel) (by decide +kernel) (by decide +kernel) (by decide +kernel) (by decide +kernel)

theorem talk_desk : desk.TalkInv :=
  talk_witness _ (by decide +kernel) (by decide +kernel) (by decide +kernel) (by decide +kernel) (by decide +kernel)

theorem witness_StepTakesFrontCommand :
    State.reset.pending = [] ∧
    (let x := (pathAt .a .acquiring .lock 7 stage).onPath .a fun c => { c with stepTimer := 11999 }
     x.pa.state = .acquiring ∧ x.pa.step = .lock ∧ x.pa.count < 8 ∧ x.pa.stepTimer < 12000 ∧ x.pa.lightDue = false ∧
      x.pa.errDue = false ∧ x.pa.silenceDue = false ∧ x.pb.darkTimer < 96000 ∧ x.pb.burstCounter < 24000) ∧
    (stage.fmu.reArrival = none ∧ stage.ple.done = [] ∧ stage.ple.tailDue = false ∧ stage.ple.inFlight = 0 ∧
      stage.scu.winDue = false ∧ stage.scu.qual < 16 ∧ stage.dsc.opState ≠ .waking ∧ stage.cmp.rxDue = none ∧
      stage.cmp.executing = none ∧ stage.cmp.sending = none ∧ stage.cmp.replies = [] ∧ stage.cmp.notices = []) ∧
    ((stage.channel 63).walkDue = false ∧ (stage.channel 64).phantom ≠ .rising ∧ (stage.mix 15).contribs = [] ∧
      (stage.mix 15).leavingDue = false ∧ (stage.dest 16).fadeDue = false ∧ stage.session .mon = none) := by
  decide +kernel

theorem witness_ResetPinSilences :
    let x := after .resetPinAssert stage
    x.dsc.resetPin = true ∧ x.PinInv ∧ ∃ t, step ⟨x, [.transmitFrameStart]⟩ = .next t := by
  refine ⟨rfl, fun _ => ⟨rfl, rfl, rfl⟩, _, rfl⟩

theorem witness_RoleKeptByEveryOtherCommand :
    (∀ st, Instr.holdAssert ≠ .powerOn st ∧ Instr.holdAssert ≠ .resetPinRelease st) ∧
    ∃ t, exec .holdAssert (at_ desk) = .next t := by
  refine ⟨fun _ => ⟨nofun, nofun⟩, _, rfl⟩

/-- A STAGE part that serves on both paths, path A the reference, with frame 100 in the buffer. -/
def playing : Part :=
  let x := pathAt .b .inService .none 0 (serving .a stage)
  { x with fmu := ({ x.fmu with link := .protect } : Fmu).place .a (fullFrame 100) }

/-- Both paths in service with the transmitters in a mode and the handshake past, a frame with given symbols and ack 4 due if
`good`, records 3 and 4 in flight, one more unsent, the resend timer one event from its expiry, and a record begun. -/
def laneAtEvent (tx : TxMode) (good : Bool) (syms : List Sym) : Part :=
  let x := pathAt .b .inService .none 0 (serving .a stage)
  let y := (x.onPath .a fun c => { c with tx := tx }).onPath .b fun c => { c with tx := tx }
  let f : Fmu := { y.fmu with link := .protect }
  { y with
    dsc := { y.dsc with restartFlag := false }
    fmu := if good then f.place .a { fullFrame 100 with syms := syms, ack := 4 } else f
    ple := { y.ple with
      queue := [⟨.dumpBegin, some 3⟩, ⟨.dumpEnd, some 4⟩, ⟨.dumpBegin, none⟩]
      nextSeq := 5
      resendTimer := 191
      asm := .body 1 3 2 [5] } }

theorem witness_SampleEventPlaysOneFrame :
    (playing.dsc.resetPin = false ∧ playing.Settled ∧ (playing.fmu.slot 100).seq = some 100) ∧
    (stage.Settled ∧ stage.fmu.p = none) ∧
    (let gap := laneAtEvent .full false []
     let good := laneAtEvent .full true [⟨false, 6⟩, ⟨true, 0⟩, ⟨true, 1⟩, ⟨false, 0⟩]
     let none_ : Part := { gap with fmu := { gap.fmu with p := none } }
     (gap.Settled ∧ gap.ple.asm ≠ .idle ∧ gap.quiet = false ∧ gap.pa.tx = .full ∧ (gap.fmu.slot 100).seq ≠ some 100) ∧
     (good.Settled ∧ (good.fmu.slot 100).seq = some 100 ∧ (good.fmu.slot 100).stored.map (fun f => f.ack) = some 4 ∧
       192 ≤ good.ple.resendTimer + 1 ∧ 0 < good.ple.inFlight) ∧
     none_.Settled) ∧
    (let l (a : Asm) : Ple := { Ple.powerOn with asm := a }
     ((⟨true, 0⟩ : Sym).marker = true ∧ (⟨true, 1⟩ : Sym).data ≠ 0 ∧ (l .idle).asm = .idle) ∧
     ((l (.header 5)).asm = .header 5 ∧ (l (.sequence 5 9)).asm = .sequence 5 9 ∧ (l (.body 5 9 2 [7])).asm = .body 5 9 2 [7]) ∧
     (40 < (⟨false, 41⟩ : Sym).data ∧ (⟨false, 40⟩ : Sym).data ≤ 40 ∧ ([7] : List Nat).length + 1 ≥ 2 ∧
       ([] : List Nat).length + 1 < 2)) := by
  unfold Part.Settled; decide +kernel

/-- R47, R48, R70, R72: a gap breaks the record begun and takes no ack, a good playout takes its symbols and its ack. -/
theorem test_lane_at_a_playout :
    (let x := after (.sampleEvent default) (laneAtEvent .full false [])
     x.ple.broken = 1 ∧ x.ple.asm = .idle ∧ x.ple.queue.length = 3) ∧
    (let x := after (.sampleEvent default) (laneAtEvent .off true [⟨false, 6⟩, ⟨true, 0⟩, ⟨true, 1⟩, ⟨false, 0⟩])
     x.ple.broken = 0 ∧ x.ple.done = [⟨1, 3, [5, 6]⟩] ∧ x.ple.asm = .sequence 1 0 ∧ x.ple.queue = [⟨.dumpBegin, none⟩]) := by
  decide +kernel

/-- A DESK part whose transmitters are in a mode, with a burst counter. -/
def sending (tx : TxMode) (n : Nat) : Part :=
  (desk.onPath .a fun c => { c with tx := tx, burstCounter := n }).onPath .b fun c => { c with tx := tx, burstCounter := n }

theorem witness_SampleEventSendsOneFrame :
    (desk.dsc.resetPin = false ∧ desk.dsc.role = .desk ∧ desk.Settled ∧ (sending .full 0).Settled ∧
      (sending .burst 191).Settled ∧ (sending .burst 192).Settled ∧ playing.Settled ∧ playing.dsc.role = .stage) ∧
    (let x : Part := { sending .full 0 with
       ple := { desk.ple with queue := [⟨.dumpEnd, none⟩] }, dsc := { desk.dsc with restartFlag := false } }
     x.Settled ∧ x.quiet = false ∧ x.fmu.p = none ∧ x.ple.queue ≠ []) ∧
    (let l (n : Nat) (c : Option (Nat × Nat)) : Ple := { Ple.powerOn with
       queue := List.replicate n ⟨.dumpBegin, some 255⟩ ++ [⟨.dumpEnd, none⟩], cursor := c }
     ((l 1 (some (0, 2))).queue[0]? = some ⟨.dumpBegin, some 255⟩ ∧ (recordSyms .dumpBegin 255)[2]? = some ⟨false, 0⟩ ∧
       (recordSyms .dumpBegin 255).length = 3 ∧ (l 2 (some (0, 2))).queue[1]? = some ⟨.dumpBegin, some 255⟩) ∧
     ((l 11 none).queue = List.replicate 11 ⟨.dumpBegin, some 255⟩ ++ ⟨.dumpEnd, none⟩ :: [] ∧ (l 11 none).inFlight < 12 ∧
       12 ≤ (l 12 none).inFlight ∧ ∀ r ∈ Ple.powerOn.queue, r.seq ≠ none)) := by
  unfold Part.Settled; decide +kernel

theorem witness_SampleEventConditionsChannels :
    stage.dsc.resetPin = false ∧ stage.dsc.role = .stage ∧ stage.Settled ∧ 63 < stage.chs.channels.length := by
  unfold Part.Settled; decide +kernel

/-- A STAGE part in OPERATE whose mix 15 stands at master 192 with talk from MON fading. -/
def mixing : Part :=
  let x := (operating stage).onMix 15 fun m => { m with
    masterRamp := Ramp.rest 65536, talkRamp := ⟨32768, 0, -1024, 32⟩, dest := .fading
    contribs := [⟨⟨.input, 63⟩, 192, Ramp.rest 65536, true, false⟩] }
  x.onDest 15 fun _ => ⟨.fading, some .mon, false⟩

theorem witness_SampleEventMixes :
    (stage.dsc.resetPin = false ∧ stage.dsc.role = .stage ∧ stage.Settled ∧ 15 < stage.mxe.mixes.length ∧
      stage.dsc.opState ≠ .operate ∧ (stage.mix 15).masterRamp.cur = 0 ∧ (stage.mix 15).talkRamp.count = 0) ∧
    (mixing.dsc.resetPin = false ∧ mixing.Settled ∧ mixing.dsc.opState = .operate ∧ 15 < mixing.mxe.mixes.length) := by
  unfold Part.Settled; decide +kernel

/-- A STAGE part whose rotation stands at the last meter, with a peak and an aged entry there. -/
def rotated : Part :=
  { stage with mtu :=
    ⟨stage.mtu.accs.set 79 ⟨1000, true⟩, 79, stage.mtu.table.set 79 ⟨3, false, 320⟩⟩ }

theorem witness_SampleEventEmitsMeterCell :
    (rotated.dsc.resetPin = false ∧ rotated.dsc.role = .stage ∧ rotated.Settled ∧ rotated.mtu.accs[79]? = some ⟨1000, true⟩ ∧
      rotated.mtu.table[79]? = some ⟨3, false, 320⟩ ∧ rotated.mtu.table[0]? = some ⟨0, false, 321⟩) ∧
    (wellInput.emitFirst = false ∧ ({ wellInput with emitFirst := true } : SampleInput).emitFirst = true) ∧
    (let x (p : Nat) : Part := { desk with fmu := ({ desk.fmu with p := some p } : Fmu).place .a houseFrame }
     (x 65535).dsc.resetPin = false ∧ (x 65535).dsc.role = .desk ∧ (x 65535).Settled ∧ (x 65535).fmu.p = some 65535 ∧
      ((x 65535).fmu.slot 65535).seq = some 65535 ∧ ((x 65535).fmu.slot 65535).stored = some houseFrame ∧
      houseFrame.cell = some ⟨79, 65535, true⟩ ∧ (x 65535).mtu.table[79]? = some ⟨0, false, 321⟩ ∧
      (x 65535).mtu.table[78]? = some ⟨0, false, 321⟩ ∧ (x 15).Settled ∧ ((x 15).fmu.slot 15).seq ≠ some 15) ∧
    (desk.dsc.resetPin = false ∧ desk.Settled ∧ desk.fmu.p = none ∧ desk.mtu.table[79]? = some ⟨0, false, 321⟩) := by
  unfold Part.Settled; decide +kernel

/-- A STAGE part in WAKING with a path ACQUIRING and a LATCHED session open. -/
def counting : Part :=
  let x := pathAt .a .acquiring .lock 3 stage
  let y := x.onSource .mon fun _ => ⟨some (session 3 true 8 0 1), 1, .none⟩
  { y with dsc := { y.dsc with opState := .waking, wakeTimer := 1 } }

theorem witness_SampleEventCountsTimers :
    (counting.dsc.resetPin = false ∧ counting.Settled ∧ counting.dsc.role = .stage ∧ counting.dsc.opState = .waking ∧
      counting.api.queue ≠ [] ∧ 63 < counting.chs.channels.length ∧ (counting.session .mon).isSome = true ∧
      (sending .burst 23999).Settled ∧ (sending .burst 23999).pa.tx = .burst ∧
      15 < counting.mxe.mixes.length ∧ 16 < counting.tka.dests.length ∧ counting.pa.cfg.silenceSel ≤ 3) ∧
    (desk.dsc.resetPin = false ∧ desk.Settled ∧ desk.dsc.role = .desk) ∧
    (let x (tail : Nat) (q : List LaneRec) : Part := { serving .a desk with
       dsc := { desk.dsc with restartFlag := false }
       fmu := { (serving .a desk).fmu with p := none }
       ple := { desk.ple with quietTail := tail, queue := q, resendTimer := 191 } }
     let sends (q : List LaneRec) : Part := (x 0 q).onPath .a fun c => { c with tx := .full }
     ((sends [⟨.dumpEnd, some 0⟩]).Settled ∧ (sends [⟨.dumpEnd, some 0⟩]).pa.tx = .full) ∧
     ((sends [⟨.dumpEnd, none⟩]).Settled ∧ (sends [⟨.dumpEnd, none⟩]).ple.inFlight = 0 ∧
       (sends [⟨.dumpEnd, none⟩]).quiet = false ∧ (sends [⟨.dumpEnd, none⟩]).ple.cursor = none) ∧
     (let y := laneAtEvent .full true []
      y.Settled ∧ (default : SampleInput).expiryFirst = false ∧ y.quiet = false ∧
        ∃ r ∈ (Ple.takeSyms y.quiet 4 y.ple).2.queue, r.seq = some 4) ∧
     (x 1 []).Settled ∧ (x 2 []).Settled ∧ (x 0 []).ple.inFlight = 0 ∧ (x 0 []).Settled ∧
      (x 0 [⟨.dumpEnd, some 0⟩]).Settled ∧ (x 0 [⟨.dumpEnd, some 0⟩]).quiet = false ∧ 0 < (x 0 [⟨.dumpEnd, some 0⟩]).ple.inFlight ∧
      (x 0 []).fmu.link = .exposed ∧ (x 0 []).fmu.p = none ∧ (x 0 []).pa.tx ≠ .full ∧ (x 0 []).pb.tx ≠ .full) := by
  unfold Part.Settled; decide +kernel

/-- An idle frame from DESK as bits. -/
def deskBits : List Bool :=
  encodeFrame (idleFrame .desk 7 false false)

/-- A full frame from DESK as bits. -/
def fullBitsOf (seq : Nat) : List Bool :=
  encodeFrame (fullFrame seq)

theorem witness_FramesBeforeService :
    decodeFrame .stage [] = none ∧ decodeFrame .stage deskBits = some (idleFrame .desk 7 false false) ∧
    decodeFrame .stage (encodeFrame (idleFrame .stage 7 false false)) = some (idleFrame .stage 7 false false) ∧
    stage.FrameReady .a ∧ stage.pa.state = .dark ∧
    (pathAt .a .disabled .none 0 stage).FrameReady .a ∧ (pathAt .a .mismatched .none 0 stage).FrameReady .a ∧
    (pathAt .a .acquiring .lock 6 stage).FrameReady .a ∧ (pathAt .b .acquiring .ident 6 stage).FrameReady .b ∧
    (pathAt .b .acquiring .align 0 stage).FrameReady .b ∧
    (serving .a stage).FrameReady .a ∧ (serving .a stage).pa.usable = true := by
  unfold Part.FrameReady; decide +kernel

theorem witness_ArrivalJudgedByDistance :
    (playing.FrameReady .b ∧ playing.pb.usable = true ∧ playing.ple.episode = false ∧ playing.fmu.anchor = none ∧
      playing.fmu.p = some 100 ∧ playing.fmu.ref ≠ some .b ∧ playing.FrameReady .a ∧ playing.pa.usable = true ∧
      playing.fmu.ref = some .a) ∧
    (decodeFrame .stage (fullBitsOf 32868) = some (fullFrame 32868) ∧ decodeFrame .stage (fullBitsOf 32867) = some (fullFrame 32867) ∧
      decodeFrame .stage (fullBitsOf 116) = some (fullFrame 116) ∧ decodeFrame .stage (fullBitsOf 115) = some (fullFrame 115)) ∧
    ((playing.fmu.slot 100).seq = some 100 ∧ (playing.fmu.slot 100).good .a = true ∧ (playing.fmu.slot 100).good .b = false ∧
      (playing.fmu.slot 115).seq ≠ some 115 ∧ 115 % 16 < playing.fmu.slots.length) := by
  unfold Part.FrameReady; decide +kernel

theorem witness_ArrivalAndPlayoutInEitherOrder :
    (playing.fmu.slots.length = 16 ∧ playing.fmu.p = some (fullFrame 100).seq ∧
      (playing.fmu.slot 100).seq = some 100 ∧ (playing.fmu.slot 100).stored.isSome = true) ∧
    ((Fmu.powerOn .stage).slots.length = 16 ∧ ((Fmu.powerOn .stage).slot 100).seq ≠ some 100) ∧
    distance 100 99 = 1 ∧ distance 100 85 = 15 := by decide +kernel

theorem witness_PointerAnchored :
    (playing.fmu.anchor = none ∧ playing.fmu.p = some 100 ∧ playing.fmu.ref = some .a ∧ playing.fmu.reCount < 47) ∧
    (let fm (n : Nat) : Fmu := { playing.fmu with reCount := n }
     (fm 46).reCount < 47 ∧ (fm 47).reCount = 47 ∧ (fm 47).p = some 100 ∧ (fm 47).ref = some .a ∧
      distance 115 100 = 15 ∧ distance 116 100 = 16 ∧ distance 100 100 = 0) ∧
    ({ playing.fmu with reArrival := some (Path.a, fullFrame 9) } : Fmu).reArrival = some (.a, fullFrame 9) ∧
    (stage.fmu.anchor = none ∧ stage.fmu.p = none) ∧ ({ stage.fmu with anchor := some .a } : Fmu).anchor = some .a := by
  decide +kernel

/-- A part that serves on path A, in an episode or not. -/
def inEpisode (x : Part) (on : Bool) : Part :=
  { serving .a x with ple := { (serving .a x).ple with episode := on, ackRaised := on } }

/-- Path B at IDENT with its eighth good frame and a pair of flags. -/
def identified (flags : Option (Bool × Bool)) (x : Part) : Part :=
  (pathAt .b .acquiring .ident 8 x).onPath .b fun c => { c with identFlags := flags }

theorem witness_RestartHandshake :
    ((inEpisode stage false).FrameReady .a ∧ (inEpisode desk false).FrameReady .a ∧ (inEpisode stage true).FrameReady .a ∧
      (inEpisode desk true).FrameReady .a) ∧
    (decodeFrame .stage (encodeFrame (idleFrame .desk 1 true false)) = some (idleFrame .desk 1 true false) ∧
      decodeFrame .desk (encodeFrame (idleFrame .stage 1 true false)) = some (idleFrame .stage 1 true false) ∧
      decodeFrame .stage (encodeFrame (idleFrame .desk 1 false true)) = some (idleFrame .desk 1 false true) ∧
      decodeFrame .desk (encodeFrame (idleFrame .stage 1 false true)) = some (idleFrame .stage 1 false true)) ∧
    (let f (restart : Bool) : Frame := { fullFrame 100 with restart := restart, restartAck := true }
     decodeFrame .stage (encodeFrame (f true)) = some (f true) ∧ decodeFrame .stage (encodeFrame (f false)) = some (f false) ∧
      (f true).idle = false) ∧
    ((inEpisode stage false).pa.state = .inService ∧ stage.dsc.restartFlag = true ∧ desk.dsc.restartFlag = true) ∧
    (let held (x : Part) : Part := { inEpisode x false with dsc := { (inEpisode x false).dsc with heldLink := some 9 } }
     (held stage).FrameReady .a ∧ (held desk).FrameReady .a ∧ (held stage).dsc.heldLink = some 9 ∧
      (held stage).dsc.restartFlag = true) ∧
    (talking.FrameReady .a ∧ talking.pa.state = .inService ∧ talking.ple.episode = false ∧
      (talking.session .foh).map (fun z => z.granted) = some 65540) ∧ talking.TalkInv ∧
    ((identified (some (true, false)) desk).LinkInv ∧ (identified (some (true, true)) (serving .a stage)).LinkInv) ∧
    (let x := identified (some (true, false)) desk
     x.pb.state = .acquiring ∧ x.pb.step = .ident ∧ 8 ≤ x.pb.count ∧ x.pb.identFlags = some (true, false) ∧
      x.ple.episode = false ∧ x.anyUsable = false ∧ x.pa.atAlign = false ∧
      (identified (some (true, true)) (serving .a stage)).anyUsable = true) := by
  refine ⟨?_, by decide +kernel, by decide +kernel, by decide +kernel, ?_, ?_, talk_talking,
    ⟨link_witness _ (by decide +kernel) (by decide +kernel), link_witness _ (by decide +kernel) (by decide +kernel)⟩,
    by decide +kernel⟩ <;>
  (unfold Part.FrameReady; decide +kernel)

/-- R6, R30, R81, R82: an acknowledgement in a full frame answers the held LINK_RESET, starts the dump, and the frame arrives. -/
theorem test_acknowledged_in_a_full_frame :
    let x := { inEpisode stage false with dsc := { (inEpisode stage false).dsc with heldLink := some 9 } }
    let y := after (.frameReceived .a (encodeFrame { fullFrame 100 with restartAck := true })) x
    y.cmp.replies = [⟨9, .ok, .none⟩] ∧ y.dsc.heldLink = none ∧ y.dsc.restartFlag = false ∧ y.ple.dump = .channel 31 ∧
    y.ple.queue.length = 32 ∧ (y.fmu.slot 100).seq = some 100 := by decide +kernel

/-- Path B at ALIGN while path A serves, or with the pointer given. -/
def aligning (p : Option Nat) : Part :=
  let x := pathAt .b .acquiring .align 0 (serving .a stage)
  { x with fmu := { x.fmu with p := p } }

theorem witness_AlignStepCompletes :
    (let x := pathAt .a .acquiring .ident 8 stage
     x.pa.state = .acquiring ∧ x.pa.step = .ident ∧ 8 ≤ x.pa.count ∧ x.pa.identFlags = none ∧ x.anyUsable = false ∧
      x.pb.atAlign = false) ∧
    (let x := identified (some (false, true)) (serving .a stage)
     8 ≤ x.pb.count ∧ x.pb.identFlags = some (false, true) ∧ x.anyUsable = true) ∧
    ((aligning (some 100)).FrameReady .b ∧ (aligning none).FrameReady .b) ∧
    (((aligning (some 100)).arrive .b (fullFrame 101)).1 = some 1 ∧ ((aligning (some 100)).arrive .b (fullFrame 115)).1 = some 15 ∧
      ((aligning (some 100)).arrive .b (fullFrame 100)).1 = some 0 ∧ ((aligning (some 100)).arrive .b (fullFrame 116)).1 = some 16 ∧
      ((aligning none).arrive .b (fullFrame 101)).1 = none ∧ decodeFrame .stage (fullBitsOf 101) = some (fullFrame 101)) ∧
    (let x := pathAt .b .acquiring .align 0 (serving .a desk)
     x.PortReady ∧ x.LinkInv ∧ x.dsc.role = .desk ∧ x.dsc.opState = .operate ∧ x.pb.atAlign = true ∧ x.pa.usable = true) := by
  refine ⟨by decide +kernel, by decide +kernel, ?_, by decide +kernel, ?_, link_witness _ (by decide +kernel) (by decide +kernel),
    by decide +kernel⟩
  · unfold Part.FrameReady; decide +kernel
  · unfold Part.PortReady; decide +kernel

theorem witness_LockStepCounts :
    let x (n : Nat) := pathAt .a .acquiring .lock n stage
    (x 7).pa.state = .acquiring ∧ (x 7).pa.step = .lock ∧ (x 7).FrameReady .a ∧ (x 8).pa.count = 8 ∧
    decodeFrame .stage deskBits = some (idleFrame .desk 7 false false) ∧ decodeFrame .stage [true] = none := by
  unfold Part.FrameReady; decide +kernel

/-- Path A in service with its silence timer run out. -/
def silent (x : Part) : Part :=
  x.onPath .a fun c => { c with silenceDue := true }

theorem witness_ReportGivesLinkAndReference :
    (playing.anyUsable = true ∧ (stage.pa.atAlign = false ∧ stage.pb.atAlign = false) ∧ playing.pair.revertive = true ∧
      playing.fmu.ref = some .a ∧ playing.pa.state = .inService ∧ desk.dsc.role = .desk ∧
      (let y := pathAt .a .impaired .none 0 playing
       (y.path y.pair.preferred).state ≠ .inService ∧ (y.path (otherPath y.pair.preferred)).state = .inService) ∧
      (let y := pathAt .a .impaired .none 0 (serving .a stage)
       y.pa.state ≠ .inService ∧ y.pb.state ≠ .inService ∧ y.pa.usable = true ∧ y.fmu.ref = some .a)) ∧
    (let x := silent talking
     x.LinkInv ∧ x.TalkInv ∧ x.pa.silenceDue = true ∧ x.pa.usable = true ∧ x.pb.usable = false ∧ x.pb.atAlign = false ∧
      (x.session .foh).isSome = true ∧ x.dsc.role = .stage) ∧
    (let x := silent monOnCue
     x.LinkInv ∧ x.TalkInv ∧ (x.dest 16).state = .held ∧ (x.dest 16).holder = some .mon ∧ x.session .foh = none) ∧
    ((silent (serving .a desk)).LinkInv ∧ (silent (serving .a desk)).TalkInv) ∧
    (let x := identified none waitingForCue
     x.LinkInv ∧ x.TalkInv ∧ x.pb.state = .acquiring ∧ x.pb.step = .ident ∧ 8 ≤ x.pb.count ∧ x.pb.identFlags = none ∧
      x.anyUsable = false ∧ x.pa.atAlign = false ∧ (x.dest 16).state = .free ∧
      (x.session .mon).map (fun z => (z.requested, z.priority)) = some (65544, 3) ∧ x.session .foh = none ∧ x.session .stg = none) ∧
    ((identified none desk).LinkInv ∧ (identified none desk).TalkInv) := by
  refine ⟨by decide +kernel, ⟨?_, ?_, by decide +kernel⟩, ⟨?_, ?_, by decide +kernel⟩, ⟨?_, ?_⟩, ⟨?_, ?_, by decide +kernel⟩, ?_, ?_⟩
  all_goals first
    | exact link_witness _ (by decide +kernel) (by decide +kernel)
    | exact talk_witness _ (by decide +kernel) (by decide +kernel) (by decide +kernel) (by decide +kernel) (by decide +kernel)

/-- Path A with a light window to close. -/
def windowDue (h : LightHist) (seen : Bool) (x : Part) : Part :=
  x.onPath .a fun c => { c with hist := h, light := h.judge, lightSeen := seen, lightNow := seen, lightDue := true }

theorem witness_LightWindowJudged :
    let lost := windowDue ⟨true, true, false⟩ false (serving .a stage)
    let found := windowDue ⟨false, false, true⟩ true (operating stage)
    (lost.pa.lightDue = true ∧ lost.pa.state = .inService ∧ lost.pa.hist.middle = true ∧ lost.pa.hist.newest = false ∧
      lost.pa.lightSeen = false) ∧
    (found.pa.lightDue = true ∧ found.pa.state = .dark ∧ found.dsc.opState = .operate ∧ found.pa.hist.newest = true ∧
      found.pa.lightSeen = true) ∧
    stage.pa.lightDue = false := by decide +kernel

theorem witness_ErrorWindowJudged :
    let c (n : Nat) := (serving .a stage).onPath .a fun c => { c with badCount := n, errDue := true }
    (c 48).pa.errDue = true ∧ (c 48).pa.cfg.threshold = 48 ∧ (c 47).pa.errDue = true ∧
    (let x := (pathAt .b .impaired .none 0 stage).onPath .b fun c => { c with recovery := 10 }
     x.pb.state = .impaired ∧ x.pb.recovery = 10) := by decide +kernel

theorem witness_PathTimersAct :
    (let x := (pathAt .a .acquiring .ident 3 stage).onPath .a fun c => { c with stepTimer := 12000 }
     x.pa.state = .acquiring ∧ 12000 ≤ x.pa.stepTimer ∧ x.pa.stallReported = false) ∧
    (let x := (serving .a stage).onPath .a fun c => { c with silenceDue := true }
     x.pa.silenceDue = true ∧ x.pa.usable = true) ∧
    (let x := (operating stage).onPath .b fun c => { c with darkTimer := 96000 }
     x.pb.state = .dark ∧ x.dsc.opState = .operate ∧ x.pb.cfg.enabled = true ∧ x.pb.cfg.autoBurst = true ∧
       x.pb.darkTimer = 96000 ∧ x.pb.tx ≠ .burst) ∧
    (let x := (operating stage).onPath .b fun c => { c with tx := .burst, burstCounter := 24000 }
     x.pb.tx = .burst ∧ x.pb.burstCounter = 24000) := by decide +kernel

/-- A DESK part on its EXTERNAL clock. -/
def wordClock (s : Scu) : Part :=
  { desk with scu := { s with source := .ext } }

theorem witness_WordClockQualifies :
    let w (edges : Nat) := wordClock ⟨.ext, .locked, 15, true, 0, edges, true⟩
    let o := wordClock ⟨.ext, .free, 16, true, 5, 20, false⟩
    (o.dsc.role = .desk ∧ o.scu.source = .ext ∧ o.scu.winDue = false ∧ o.scu.winOpen = true ∧ o.scu.lock = .free ∧
      o.scu.qual = 16) ∧
    ((w 46).scu.winDue = true ∧ (w 46).scu.edges < 47 ∧ 47 ≤ (w 47).scu.edges ∧ (w 49).scu.edges ≤ 49 ∧ 49 < (w 50).scu.edges) ∧
    desk.PortReady ∧ stage.PortReady ∧ desk.scu.source = .loc := by
  refine ⟨by decide +kernel, by decide +kernel, ready_desk, ready_stage, rfl⟩

theorem witness_SetStateByTable :
    let waking := after (.setState 17 1) stage
    stage.PortReady ∧ stage.dsc.opState = .standby ∧ waking.PortReady ∧ waking.dsc.opState = .waking ∧
    waking.dsc.heldState = some 17 ∧ (operating stage).PortReady ∧ (operating stage).dsc.opState = .operate := by
  unfold Part.PortReady; decide +kernel

/-- The phantom queue of a part whose channels past its last entry are none of its own. -/
theorem phantom_witness (x : Part) (h : x.chs.channels.length = 64) (r : x.rising ≤ 6) (d : x.chs.phantomQueue.Nodup)
    (q : ∀ n ∈ x.chs.phantomQueue, n < 64) (f : ∀ n : Fin 64, (n : Nat) ∈ x.chs.phantomQueue ↔ (x.channel n).phantom = .queued) :
    x.PhantomInv :=
  ⟨h, r, d, fun n => ⟨fun m => ⟨q n m, (f ⟨n, q n m⟩).mp m⟩, fun m => (f ⟨n, m.1⟩).mpr m.2⟩⟩

theorem phantom_stage : stage.PhantomInv :=
  phantom_witness _ (by decide +kernel) (by decide +kernel) (by decide +kernel) (by decide +kernel) (by decide +kernel)

theorem phantom_asking : eightAsking.PhantomInv :=
  phantom_witness _ (by decide +kernel) (by decide +kernel) (by decide +kernel) (by decide +kernel) (by decide +kernel)

/-- A part in OPERATE whose path B was DARK for an event and then disabled. -/
def darkThenDisabled : Part :=
  after (.setPath 1 1 ⟨some 0, none, none, none, none, none⟩) ((operating stage).onPath .b fun c => { c with darkTimer := 1 })
    |> fun x => { x with cmp := { x.cmp with replies := [] } }

theorem witness_StandbyEntryEffects :
    eightAsking.PortReady ∧ eightAsking.PhantomInv ∧ eightAsking.dsc.opState = .operate ∧ eightAsking.dsc.role = .stage ∧
    (eightAsking.channel 5).phantom = .rising ∧ (eightAsking.channel 6).phantom = .queued ∧
    (monHolds.PortReady ∧ monHolds.PhantomInv ∧ (monHolds.session .mon).isSome = true) ∧
    (let x := darkThenDisabled
     x.PortReady ∧ x.PhantomInv ∧ x.dsc.opState = .operate ∧ x.pb.state = .disabled ∧ x.pb.darkTimer = 1) ∧
    (talking.TalkInv ∧ talking.PortReady ∧ talking.PhantomInv ∧ talking.dsc.opState = .operate) := by
  refine ⟨?_, phantom_asking, rfl, rfl, by decide +kernel, by decide +kernel, ⟨?_, ?_, by decide +kernel⟩,
    ⟨?_, ?_, by decide +kernel⟩, talk_talking, ?_, ?_, by decide +kernel⟩
  · unfold Part.PortReady; decide +kernel
  · unfold Part.PortReady; decide +kernel
  · exact phantom_witness _ (by decide +kernel) (by decide +kernel) (by decide +kernel) (by decide +kernel) (by decide +kernel)
  · unfold Part.PortReady; decide +kernel
  · exact phantom_witness _ (by decide +kernel) (by decide +kernel) (by decide +kernel) (by decide +kernel) (by decide +kernel)
  · unfold Part.PortReady; decide +kernel
  · exact phantom_witness _ (by decide +kernel) (by decide +kernel) (by decide +kernel) (by decide +kernel) (by decide +kernel)

/-- R36: the dark timer of a path that was DARK and then disabled is 0 after STANDBY entry too. -/
theorem test_standby_clears_disabled_path :
    (after (.setState 1 0) darkThenDisabled).pb.darkTimer = 0 ∧ (after (.setState 1 0) darkThenDisabled).pb.state = .disabled := by
  decide +kernel

theorem witness_WakeCompletes :
    let x : Part := { stage with dsc := { stage.dsc with opState := .waking, heldState := some 4 } }
    x.dsc.opState = .waking ∧ x.dsc.wakeTimer = 0 ∧ x.dsc.role = .stage ∧ x.chs.channels.length = 64 ∧ x.rising = 0 ∧
    x.chs.phantomQueue = [] := by decide +kernel

theorem witness_ResetSoftValues : (after (.setState 17 1) desk).PortReady ∧ stage.PortReady := by
  unfold Part.PortReady; decide +kernel

theorem witness_LinkResetHeld :
    let x : Part := { talking with dsc := { talking.dsc with restartFlag := false } }
    (stage.PortReady ∧ stage.TalkInv ∧ stage.dsc.restartFlag = true ∧ stage.session .foh = none) ∧
    (x.PortReady ∧ x.TalkInv ∧ x.dsc.restartFlag = false ∧ x.dsc.role = .stage ∧
      (x.session .foh).map (fun z => z.granted) = some 65540) ∧
    (desk.PortReady ∧ desk.TalkInv ∧ desk.dsc.role = .desk) := by
  refine ⟨⟨ready_stage, talk_stage, by decide +kernel, by decide +kernel⟩, ⟨?_, ?_, by decide +kernel⟩, ready_desk, talk_desk,
    by decide +kernel⟩
  · unfold Part.PortReady; decide +kernel
  · exact talk_witness _ (by decide +kernel) (by decide +kernel) (by decide +kernel) (by decide +kernel) (by decide +kernel)

theorem witness_LineReceiverFrames :
    stage.LineReady ∧ ({ stage with cmp := { stage.cmp with awaitIdle := true } } : Part).LineReady ∧
    stage.cmp.awaitIdle = false ∧ stage.cmp.inFrame = false ∧
    (let c : LineChar := ⟨(false, false, true), (true, true, false) :: List.replicate 7 (true, false, false), (true, false, true)⟩
     c.data.length = 8 ∧ c.data[0]? = some (true, true, false) ∧ c.data[7]? = some (true, false, false) ∧ lineByte c = 1) ∧
    (majority (true, true, false) = true ∧ majority (true, false, false) = false) ∧
    (let c (n : Nat) (esc : Bool) : Cmp := { stage.cmp with inFrame := true, bytes := List.replicate n 0, escape := esc }
     (c 258 false).bytes.length = 258 ∧ (c 257 true).escape = true ∧ (c 0 false).bytes = [] ∧ (c 1 false).bytes ≠ [] ∧
      ({ stage with cmp := c 1 false } : Part).LineReady) := by
  unfold Part.LineReady; decide +kernel

/-- A STAGE part with a closed frame that waits to be checked, and replies in the queue. -/
def closing (bytes : List Nat) (replies : Nat) : Part :=
  { stage with cmp := { stage.cmp with rxDue := some (.closed bytes), replies := List.replicate replies ⟨1, .ok, .none⟩ } }

/-- A frame body with its check. -/
def checked (body : List Nat) : List Nat :=
  body ++ beBytes 2 (crc16 body)

theorem witness_DamagedFramesAnswered :
    (closing [1, 2, 3, 4] 0).cmp.rxDue = some (.closed [1, 2, 3, 4]) ∧ [1, 2, 3, 4].length < 5 ∧
    crc16 [1, 2, 3] ≠ beNat [0, 0] ∧
    (let bytes := checked [2, 9, 1]
     bytes.length = 5 ∧ bytes.take 3 = [2, 9, 1] ∧ crc16 [2, 9, 1] = beNat (bytes.drop 3)) ∧
    parseRequest 0xFF [] = .unknown ∧ parseRequest 1 [0] = .malformed ∧
    crc16 [1, 9, 1, 0] = beNat ((checked [1, 9, 1, 0]).drop 4) := by decide +kernel

theorem witness_RequestsExecuteInOrder :
    let r : HostRequest := ⟨9, .identify⟩
    let q : HostRequest := ⟨8, .getLink⟩
    let soft : HostRequest := ⟨7, .resetSoft⟩
    let full (staged : Option HostRequest) : Part := { closing (requestFrame r) 8 with
      cmp := { (closing (requestFrame r) 8).cmp with executing := some q, staged := staged } }
    let waits (n : Nat) (e : HostRequest) (staged : Option HostRequest) : Part := { stage with
      cmp := { stage.cmp with replies := List.replicate n ⟨1, .ok, .none⟩, executing := some e, staged := staged } }
    checkFrame (requestFrame r) = .request r ∧ (closing (requestFrame r) 0).cmp.executing = none ∧
    (full none).freeReplies = 0 ∧ (full none).cmp.staged = none ∧ (full (some r)).cmp.staged = some r ∧
    ((waits 7 q (some r)).freeReplies = 1 ∧ q.req ≠ .resetSoft ∧ (waits 8 q none).freeReplies = 0) ∧
    ((waits 7 soft (some r)).freeReplies = 1 ∧ (waits 6 soft (some r)).freeReplies = 2 ∧
      (waits 7 soft none).cmp.staged = none) ∧
    (let line (d : RxDue) : Part := { stage with cmp := { stage.cmp with rxDue := some d } }
     let empty : Part := { waits 8 q none with cmp := { (waits 8 q none).cmp with executing := none } }
     stage.PortReady ∧ (waits 8 q none).cmp.rxDue = none ∧ (empty.cmp.executing = none ∧ empty.freeReplies = 0) ∧
      (waits 8 q (some r)).freeReplies = 0 ∧ ((waits 7 soft (some r)).cmp.staged ≠ none ∧ soft.req = .resetSoft) ∧
      (∃ t, exec .requestExecute (at_ (waits 7 q (some r))) = .next t) ∧ (line .tooLong).cmp.rxDue = some .tooLong ∧
      (line .escapeBoundary).cmp.rxDue = some .escapeBoundary ∧ (∃ t, exec .frameTooLong (at_ (line .tooLong)) = .next t) ∧
      ∃ t, exec .cmpFrameClosed (at_ (closing (requestFrame r) 0)) = .next t) := by
  refine ⟨by decide +kernel, by decide +kernel, by decide +kernel, by decide +kernel, by decide +kernel, by decide +kernel,
    by decide +kernel, ready_stage, rfl, by decide +kernel, by decide +kernel, by decide +kernel, ⟨_, rfl⟩, rfl, rfl, ⟨_, rfl⟩,
    _, rfl⟩

/-- R164: a request row behind one that waits for a reply place is staged, and a third is answered BUSY, which is lost. -/
theorem test_request_rows_queue :
    let x : Part := { stage with cmp := { stage.cmp with replies := List.replicate 8 ⟨1, .ok, .none⟩ } }
    let y := after (.getLock 4) (after (.getLink 3) (after (.identify 2) x))
    y.cmp.executing = some ⟨2, .identify⟩ ∧ y.cmp.staged = some ⟨3, .getLink⟩ ∧ y.cmp.repliesLost = 1 ∧
    y.cmp.replies.length = 8 := by decide +kernel

theorem witness_TransmitterChooses :
    let x (r : List Reply) (n : List Notice) (loss stood : Bool) : Part := { stage with
      cmp := { stage.cmp with replies := r, notices := n, lossFlag := loss, lost := 5, replyFirst := stood } }
    (stage.dsc.resetPin = false ∧ stage.cmp.hold = false ∧ stage.cmp.sending = none ∧ stage.cmp.replies = [] ∧
      stage.cmp.notices = []) ∧
    ((x [⟨1, .ok, .none⟩] [.noticesLost 1] true false).cmp.replies = [⟨1, .ok, .none⟩] ∧
      (x [⟨1, .ok, .none⟩] [.noticesLost 1] true false).cmp.replyFirst = false ∧
      (x [⟨1, .ok, .none⟩] [.noticesLost 1] true true).cmp.replyFirst = true ∧
      (x [⟨1, .ok, .none⟩] [] true false).cmp.notices = []) ∧
    ((x [] [.noticesLost 1] true false).cmp.lossFlag = true ∧ (x [] [.noticesLost 1] false false).cmp.lossFlag = false ∧
      heldLine.cmp.hold = true ∧ ({ stage.cmp with sending := some (.notice (.noticesLost 1)) } : Cmp).sending ≠ none) := by decide +kernel

theorem witness_NoticesMaskedAndCounted :
    let c (n : Nat) (mask : List Bool) : Cmp := { stage.cmp with notices := List.replicate n (.noticesLost 1), mask := mask }
    stage.PortReady ∧ (List.range 14).map (fun k => Nat.testBit 16383 k) = stage.cmp.mask ∧
    (List.range 14).map (fun k => Nat.testBit 8191 k) ≠ stage.cmp.mask ∧
    (c 31 []).notices.length < 32 ∧ 32 ≤ (c 32 []).notices.length ∧ (Notice.noticesLost 1).kind = 0x0F ∧
    (Notice.laneReset .loc 0).kind ≠ 0x0F ∧
    (c 0 (List.replicate 14 false)).mask.getD ((Notice.laneReset .loc 0).kind - 1) true = false := by
  unfold Part.PortReady; decide +kernel

theorem witness_QueueInvariantKept : heldLine.QueueInv ∧ ∃ t, step ⟨heldLine, [.getChannel 40 0]⟩ = .next t := by
  refine ⟨?_, _, rfl⟩
  unfold Part.QueueInv; decide +kernel

/-- A part whose lane is not quiet, with one complete record waiting, expecting a sequence. -/
def receiving (role : Role) (r : RawRecord) (exp : Nat) : Part :=
  let x := Part.powerOn ⟨role, false, false⟩
  { x with dsc := { x.dsc with restartFlag := false }, ple := { x.ple with done := [r], expSeq := exp } }

theorem witness_LaneRecordJudged :
    ({ stage with ple := { stage.ple with done := [⟨5, 0, [3]⟩] } } : Part).quiet = true ∧
    (receiving .stage ⟨5, 0, [3]⟩ 1).quiet = false ∧ (1 + 256 - 0 % 256) % 256 = 1 ∧ (127 + 256 - 0 % 256) % 256 = 127 ∧
    (128 + 256 - 0 % 256) % 256 = 128 ∧ readRecord .stage 5 [3] = some (.update (.clearMix 3)) ∧
    readRecord .stage 5 [16] = none ∧ readRecord .desk 5 [3] = none := by decide +kernel

theorem witness_RefusedRecordNotifies :
    let msg : LaneMsg := .refused ⟨6, 0, 0, 0⟩ .state 2
    let x := receiving .desk ⟨msg.kind, 0, msg.body⟩ 0
    x.dsc.role = .desk ∧ x.ple.done = [⟨msg.kind, 0, msg.body⟩] ∧ x.quiet = false ∧ x.ple.expSeq = 0 ∧
    readRecord .desk msg.kind msg.body = some msg := by decide +kernel

theorem witness_RefusedUpdateReported :
    let x (n free : Nat) : Part := { stage with
      ple := { stage.ple with queue := List.replicate n ⟨.dumpEnd, some 0⟩ }, mxe := { stage.mxe with free := free } }
    ((x 31 384).dsc.opState ≠ .operate ∧ (serving .a stage).fmu.link = .exposed) ∧
    ((x 32 0).mxe.free = 0 ∧ ((x 32 0).mix 2).find ⟨.input, 63⟩ = none) ∧
    (x 31 0).ple.marks = [] ∧ (∀ r ∈ (x 31 0).ple.queue, r.seq ≠ none) ∧ (x 31 0).ple.queue.length < 32 ∧
    32 ≤ (x 32 0).ple.queue.length ∧ refOf 1 7 = some ⟨.ret, 7⟩ ∧
    (let y := stage.onMix 2 fun m => { m with contribs := (List.range 48).map fun i => ⟨⟨.input, i⟩, 192, Ramp.rest 0, true, false⟩ }
     48 ≤ (y.mix 2).contribs.length ∧ (y.mix 2).find ⟨.ret, 7⟩ = none) := by decide +kernel

theorem witness_EchoAcceptedByVersion :
    let e : ChanEcho := ⟨65535, 0, false, false, false, false, .rising⟩
    let m : Mirror := { Mirror.powerOn with state := .valid, channels := (List.replicate 64 none).set 63 (some e) }
    let x (n : Nat) (pos : DumpPos) (marks : List Mark) : Part := { stage with
      ple := { stage.ple with queue := List.replicate n ⟨.dumpBegin, some 0⟩, dump := pos, marks := marks } }
    let echo (n : Nat) : LaneMsg := .echoChannel n (stage.channel n).echo
    (63 < m.channels.length ∧ m.state ≠ .invalid ∧ m.channels.getD 63 none = some e ∧ Mirror.powerOn.state = .invalid ∧
      (1 ≤ (32766 + 65536 - 65535 % 65536) % 65536 ∧ (32766 + 65536 - 65535 % 65536) % 65536 = 32767) ∧
      (32767 + 65536 - 65535 % 65536) % 65536 = 32768 ∧ (65535 + 65536 - 65535 % 65536) % 65536 = 0 ∧
      15 < m.mixes.length ∧ ({ m with state := .filling } : Mirror).contribs[15]? = some (List.replicate 72 none)) ∧
    ((x 31 .idle []).buildEcho (.channel 63) = some (echo 63) ∧ (echo 63).target = .channel 63 ∧
      (x 31 .idle []).dumpPassed (.channel 63) = true ∧ (x 31 (.channel 63) []).dumpPassed (.channel 63) = false ∧
      (x 31 .idle []).ple.queue.length < 32 ∧ 32 ≤ (x 32 .idle []).ple.queue.length ∧
      (∀ r ∈ (x 32 .idle []).ple.queue, r.seq ≠ none) ∧ (Mark.echo (.channel 63)).target = .channel 63 ∧
      (⟨echo 63, none⟩ : LaneRec).seq = none) ∧
    refOf 1 7 = some ⟨.ret, 7⟩ ∧
    (let targets := [Target.channel 5, .locks]
     let msgs := [echo 5, .echoLock stage.chs.locks]
     (x 31 .idle (targets.map Mark.echo)).dsc.role = .stage ∧ targets.map (x 31 .idle []).buildEcho = msgs.map some ∧
      msgs.map LaneMsg.target = targets ∧ targets.Nodup ∧ 32 - (x 31 .idle []).ple.queue.length ≤ targets.length ∧
      targets.length < 32 - (x 0 .idle []).ple.queue.length) := by
  decide +kernel

theorem witness_AcksAndGoBack :
    let l : Ple := { Ple.powerOn with
      queue := [⟨.dumpBegin, some 20⟩, ⟨.dumpEnd, some 21⟩, ⟨.dumpEnd, none⟩], nextSeq := 22, cursor := some (2, 0)
      goBackDue := true, quietTail := 16, tailDue := true }
    l.tailDue = true ∧ l.goBackDue = true ∧ 0 < l.inFlight ∧ (∀ r ∈ l.queue, r.seq ≠ some 19) ∧
    l.queue = [⟨.dumpBegin, some 20⟩] ++ ⟨.dumpEnd, some 21⟩ :: [⟨.dumpEnd, none⟩] ∧
    (∀ o ∈ [(⟨.dumpBegin, some 20⟩ : LaneRec)], o.seq ≠ some 21) ∧ l.cursor = some (2, 0) ∧
    ({ l with cursor := some (1, 2) } : Ple).cursor = some (1, 2) ∧ ({ l with cursor := some (0, 1) } : Ple).cursor = some (0, 1) := by
  decide +kernel

/-- A DESK part with one record in flight and one unsent. -/
def queued : Part :=
  { desk with ple := { desk.ple with
    queue := [⟨.update (.clearMix 1), some 255⟩, ⟨.update (.clearMix 2), none⟩], cursor := some (1, 0) } }

theorem witness_LaneQueueInvariantKept : queued.ple.QueueInv ∧ ∃ t, step ⟨queued, [.clearMix 9 3]⟩ = .next t := by
  refine ⟨⟨by decide +kernel, by decide +kernel, by decide +kernel, ?_, ?_⟩, _, rfl⟩
  · rintro (_ | _ | i) r h
    · obtain rfl := Option.some.inj h; decide +kernel
    · obtain rfl := Option.some.inj h; decide +kernel
    · exact absurd h (by simp [queued])
  · rintro (_ | _ | i) (_ | _ | j) r q h k hr hq ht
    · rfl
    · obtain rfl := Option.some.inj h; cases hr
    · exact absurd k (by simp [queued])
    · obtain rfl := Option.some.inj k; cases hq
    · rfl
    · exact absurd k (by simp [queued])
    all_goals exact absurd h (by simp [queued])

theorem witness_GainWalkSteps :
    let x (gain : Nat) := stage.onChannel 63 fun c => { c with gainTarget := 30, gain := gain, walkDue := true }
    63 < (x 29).chs.channels.length ∧ ((x 29).channel 63).walkDue = true ∧ ((x 29).channel 63).gain ≠ ((x 29).channel 63).gainTarget ∧
    ((x 31).channel 63).gainTarget < ((x 31).channel 63).gain := by decide +kernel

theorem witness_PhantomTimersEnd :
    let rise := eightAsking.onChannel 2 fun c => { c with phantomTimer := 0 }
    let fall (x : Part) (on : Bool) := x.onChannel 63 fun c => { c with request := on, phantom := .falling }
    (rise.PhantomInv ∧ (rise.channel 2).phantom = .rising ∧ (rise.channel 2).phantomTimer = 0 ∧
      rise.chs.phantomQueue.head? = some 6) ∧
    (63 < (fall stage true).chs.channels.length ∧ ((fall stage true).channel 63).phantom = .falling ∧
      ((fall stage true).channel 63).phantomTimer = 0 ∧ (fall (operating stage) true).rising < 6 ∧
      6 ≤ (fall eightAsking true).rising ∧ ((fall eightAsking false).channel 63).request = false) := by
  refine ⟨⟨?_, by decide +kernel, by decide +kernel, by decide +kernel⟩, by decide +kernel⟩
  exact phantom_witness _ (by decide +kernel) (by decide +kernel) (by decide +kernel) (by decide +kernel) (by decide +kernel)

theorem witness_MixStepsTaken :
    let c (i : Nat) (live : Bool) (cur : Int) : Contrib := ⟨⟨.input, i⟩, 192, ⟨cur, cur, 0, 0⟩, live, !live⟩
    let x (ph : Phase) (cs : List Contrib) := stage.onMix 15 fun m =>
      { m with phase := ph, leavingDue := true, arrivingDue := true, pendingOffset := 63, contribs := cs }
    15 < (x .steady []).mxe.mixes.length ∧
    (((x .steady [c 1 true 65536, c 2 false 0]).mix 15).contribs = [c 1 true 65536] ++ c 2 false 0 :: [] ∧
      (c 1 true 65536).ref ≠ (c 2 false 0).ref ∧
      ({ x .steady [c 1 true 65536, c 2 false 0] with ple := { stage.ple with dump := .contrib 15 2 } } : Part).ple.dump =
        .contrib 15 2 ∧ (c 2 false 0).live = false ∧ (c 2 false 0).freeDue = true) ∧
    (((x .leaving [c 1 true 0]).mix 15).phase = .leaving ∧ ((x .leaving [c 1 true 0]).mix 15).leavingDue = true ∧
      (c 1 true 0).ramp.cur = 0) ∧
    (((x .arriving [c 1 true 65536]).mix 15).phase = .arriving ∧ ((x .arriving [c 1 true 65536]).mix 15).arrivingDue = true ∧
      (c 1 true 65536).ramp.count = 0 ∧ (c 1 true 65536).ramp.cur = (c 1 true 65536).ramp.target) := by decide +kernel

theorem witness_TalkStepsTaken :
    (let x := monHolds.onDest 16 fun _ => ⟨.fading, some .foh, true⟩
     x.tka.dests.length = 17 ∧ x.mxe.mixes.length = 16 ∧ (x.dest 16).fadeDue = true ∧ (x.dest 16).state = .fading ∧ x.session .foh = none ∧
      x.session .stg = none ∧ (session 3 false 24 24 1).waits 16 = false) ∧
    (let z := session 5 false 8 0 2
     let x := (monHolds.onDest 3 fun _ => ⟨.fading, some .foh, true⟩).onSource .stg fun _ => ⟨some z, 1, .none⟩
     x.session .stg = some z ∧ z.waits 3 = true ∧ x.eligible z 3 = true ∧ (x.dest 3).fadeDue = true ∧
      (session 3 false 24 24 1).priority < z.priority) ∧
    (let z : Session := { session 3 true 24 24 1 with latchDue := true }
     let x := monHolds.onSource .mon fun _ => ⟨some z, 1, .none⟩
     x.tka.dests.length = 17 ∧ x.mxe.mixes.length = 16 ∧ x.session .mon = some z ∧ z.granted.testBit 3 = true ∧ z.latched = true ∧ z.latchDue = true) := by decide +kernel

theorem witness_ReadRequestsReport :
    stage.PortReady ∧ desk.PortReady ∧ stage.dsc.role = .stage ∧ desk.dsc.role = .desk ∧ 15 < stage.mxe.mixes.length ∧
    stage.mtu.table[79]? = some ⟨0, false, 321⟩ := by
  refine ⟨ready_stage, ready_desk, rfl, rfl, by decide +kernel, by decide +kernel⟩

/-- R83, R128: the DESK reply to GET_MIX lists a contribution known LIVE with its gain code and version, and none known
ABSENT. -/
theorem test_desk_get_mix_lists_versions :
    let row := ((List.replicate 72 none).set 63 (some ⟨8, none⟩)).set 71 (some ⟨9, some 200⟩)
    let x := { desk with mirror := { desk.mirror with contribs := desk.mirror.contribs.set 15 row } }
    (after (.getMix 3 15) x).cmp.replies =
      [⟨3, .ok, .mixMirror .invalid none [(⟨.ret, 7⟩, ⟨9, some 200⟩)] 70⟩] := by
  decide +kernel

theorem witness_PlayoutDelaySet :
    stage.PortReady ∧ stage.dsc.opState = .standby ∧ stage.fmu.delay = 6 ∧ (operating stage).PortReady ∧
    (operating stage).dsc.opState ≠ .standby :=
  ⟨ready_stage, rfl, rfl, ready_operating, by decide⟩

theorem witness_PathConfigured :
    let off := stage.onPath .b fun c => { c with cfg := { c.cfg with enabled := false }, state := .disabled }
    stage.PortReady ∧ off.PortReady ∧ stage.pb.cfg = ⟨true, 48, 1, true⟩ ∧ off.pb.cfg.enabled = false ∧
    stage.pair = ⟨.a, true⟩ ∧ stage.pb.atAlign = false ∧
    (let dark (tx : TxMode) (auto : Bool) : Part := (operating stage).onPath .a fun c =>
       { c with cfg := { c.cfg with autoBurst := auto }, tx := tx, darkTimer := 96000, burstCounter := 7 }
     ((dark .burst true).PortReady ∧ (dark .burst true).pa.tx = .burst ∧ (dark .burst true).pa.cfg.autoBurst = true) ∧
     ((dark .full false).PortReady ∧ (dark .full false).pa.state = .dark ∧ (dark .full false).dsc.opState = .operate ∧
       (dark .full false).pa.cfg = ⟨true, 48, 1, false⟩ ∧ 96000 ≤ (dark .full false).pa.darkTimer ∧
       (dark .full false).pa.atAlign = false)) := by
  refine ⟨ready_stage, ?_, by decide +kernel, by decide +kernel, rfl, by decide +kernel, ?_⟩ <;>
  (unfold Part.PortReady; decide +kernel)

theorem witness_UpdatesForwarded :
    let u : Update := .setChannel 63 ⟨some 61, none, none, none, none⟩
    let q (n : Nat) : List LaneRec := List.replicate n ⟨.update (.clearMix 0), some 0⟩
    let unsent : LaneRec := ⟨.update (.setChannel 63 ⟨none, some 1, none, none, none⟩), none⟩
    desk.PortReady ∧ desk.dsc.role = .desk ∧ u.identOk .desk = true ∧ u.noField = false ∧
    (Update.setChannel 64 ⟨some 1, none, none, none, none⟩).identOk .desk = false ∧
    (Update.setChannel 0 ⟨none, none, none, none, none⟩).noField = true ∧
    (admitTo (.update u.clamp) (q 31)).isSome = true ∧ admitTo (.update u.clamp) (q 32) = none ∧
    (unsent.seq = none ∧ unsent.msg.target = (LaneMsg.update u).target ∧ (∀ b ∈ q 2, b.seq ≠ none)) ∧
    (LaneMsg.update (.clearMix 0)).kind ∉ [0x01, 0x02, 0x08, 0x09, 0x16] := by
  refine ⟨ready_desk, rfl, ?_⟩
  decide +kernel

theorem witness_ChannelSetAtStage :
    let l : Part := { stage with chs := { stage.chs with locks := ⟨true, true, true, true, 4⟩ } }
    stage.PortReady ∧ stage.dsc.role = .stage ∧ stage.PhantomInv ∧ (stage.channel 63).gainTarget = 0 ∧
    (eightAsking.PortReady ∧ eightAsking.PhantomInv ∧ eightAsking.dsc.opState = .operate ∧ eightAsking.rising = 6) ∧
    (l.PortReady ∧ l.PhantomInv ∧ l.chs.locks.preamp = true) := by
  refine ⟨ready_stage, rfl, phantom_stage, by decide +kernel, ⟨?_, phantom_asking, rfl, by decide +kernel⟩, ?_, ?_, rfl⟩
  · unfold Part.PortReady; decide +kernel
  · unfold Part.PortReady; decide +kernel
  · exact phantom_witness _ (by decide +kernel) (by decide +kernel) (by decide +kernel) (by decide +kernel) (by decide +kernel)

/-- MON waits at priority 3 for mix 5 and FOH CUE, both FREE and shut at mask 6, with path A in service. -/
def shutOut (m : Nat) (x : Part) : Part :=
  let y := (serving .a x).onMix m fun k => { k with talkMask := 6 }
  ({ y with tka := { y.tka with cfg := { y.tka.cfg with cueMask := 6 } } }).talkOpen .mon 3 false 65568 .host

theorem witness_MixSetAtStage :
    let l : Part := { stage with chs := { stage.chs with locks := ⟨false, false, true, true, 4⟩ } }
    stage.PortReady ∧ stage.dsc.role = .stage ∧ stage.mxe.mixes.length = 16 ∧ (stage.mix 15).master ≠ 255 ∧
    (l.PortReady ∧ l.chs.locks.mix = true) ∧
    (monHolds.PortReady ∧ monHolds.tka.dests.length = 17 ∧ (monHolds.dest 3).state = .held ∧
      (monHolds.dest 3).holder = some .mon ∧ monHolds.session .mon = some (session 3 false 24 24 1) ∧
      (monHolds.mix 3).talkMask = 0) ∧
    (talking.PortReady ∧ talking.tka.dests.length = 17 ∧ (talking.mix 3).dest = (talking.dest 3).state) ∧
    (let x := shutOut 5 stage
     x.PortReady ∧ x.tka.dests.length = 17 ∧ (x.dest 5).state = .free ∧ (x.mix 5).talkMask = 6 ∧
      (x.session .mon).map (fun z => (z.requested, z.granted, z.priority)) = some (65568, 0, 3) ∧ x.session .foh = none ∧
      x.session .stg = none) := by
  unfold Part.PortReady; decide +kernel

theorem witness_ContributionsEditedAtStage :
    let c (n : Nat) : List Contrib := (List.range n).map fun i => ⟨⟨.input, i⟩, 192, Ramp.rest 0, i != 0, false⟩
    let x (n free : Nat) := { stage.onMix 15 fun m => { m with contribs := c n } with
      mxe := ⟨(stage.onMix 15 fun m => { m with contribs := c n }).mxe.mixes, free⟩ }
    (x 47 1).PortReady ∧ (x 47 1).dsc.role = .stage ∧ (x 47 1).mxe.mixes.length = 16 ∧
    ((∀ e ∈ ((x 47 1).mix 15).contribs, e.ref ≠ ⟨.input, 63⟩) ∧ 0 < (x 47 1).mxe.free ∧ ((x 47 1).mix 15).contribs.length < 48) ∧
    (48 ≤ ((x 48 1).mix 15).contribs.length ∧ (x 47 0).mxe.free = 0) ∧
    (((x 47 1).mix 15).find ⟨.input, 1⟩).map (fun e => (e.live, e.code)) = some (true, 192) ∧
    (((x 47 1).mix 15).find ⟨.input, 0⟩).map (fun e => e.live) = some false ∧
    ((∀ e ∈ ((x 1 1).mix 15).contribs, e.live = false) ∧ ∃ e ∈ ((x 47 1).mix 15).contribs, e.live = true) ∧
    (x 47 1).chs.locks.mix = false := by
  unfold Part.PortReady; decide +kernel

theorem witness_TalkOpenedAndClosedAtStage :
    (stage.PortReady ∧ stage.dsc.role = .stage ∧ stage.tka.dests.length = 17 ∧ stage.dsc.opState ≠ .operate) ∧
    (monHolds.PortReady ∧ monHolds.mxe.mixes.length = 16 ∧ monHolds.dsc.opState = .operate ∧ monHolds.session .stg = none ∧ (131071 : Nat) < 131072 ∧
      (monHolds.dest 16).state = .free ∧ (monHolds.dest 3).holder = some .mon ∧
      monHolds.session .mon = some (session 3 false 24 24 1) ∧ monHolds.tka.dests.length = 17) ∧
    (talking.PortReady ∧ talking.dsc.opState = .operate ∧ (talking.session .mon).map (fun z => z.granted) = some 24 ∧
      (talking.dest 16).holder = some .foh ∧ (talking.dest 5).state = .free ∧ (talking.session .foh).isSome = true ∧
      talking.fmu.link = .exposed ∧ monHolds.session .foh = none ∧ monHolds.fmu.link = .exposed) ∧ talking.TalkInv := by
  refine ⟨?_, ?_, ?_, talk_talking⟩ <;> (unfold Part.PortReady; decide +kernel)

theorem witness_TalkAndLocksConfigured :
    let l : Part := { stage with chs := { stage.chs with locks := ⟨false, false, false, true, 4⟩ } }
    stage.PortReady ∧ stage.dsc.role = .stage ∧ stage.tka.cfg = ⟨0, 192, 60, 0⟩ ∧ stage.chs.locks.talk = false ∧
    (l.PortReady ∧ l.chs.locks.talk = true) ∧
    (let x := shutOut 5 stage
     x.PortReady ∧ x.tka.dests.length = 17 ∧ (x.dest 16).state = .free ∧ x.tka.cfg.cueMask = 6 ∧ x.fmu.link = .exposed ∧
      (x.session .mon).map (fun z => (z.requested, z.granted, z.priority)) = some (65568, 0, 3)) ∧
    (monOnCue.PortReady ∧ (monOnCue.dest 16).state = .held ∧ (monOnCue.dest 16).holder = some .mon ∧
      (monOnCue.session .mon).map (fun z => z.priority) = some 3 ∧ monOnCue.tka.cfg.cueMask = 0) ∧
    (stage.dest 16).state = .free := by
  unfold Part.PortReady; decide +kernel

theorem witness_LinkInvariantKept : playing.LinkInv ∧ ∃ t, step ⟨playing, [.receiverLightChange .a true]⟩ = .next t := by
  refine ⟨⟨by decide +kernel, by decide +kernel, by decide +kernel, ?_⟩, _, rfl⟩
  rintro (_ | _) h
  · decide +kernel
  · cases h

theorem witness_PhantomInvariantKept :
    eightAsking.PhantomInv ∧ ∃ t, step ⟨eightAsking, [.setChannel 1 63 ⟨none, none, none, none, some 1⟩]⟩ = .next t :=
  ⟨phantom_asking, _, rfl⟩

theorem witness_PoolInvariantKept :
    let x := { stage.onMix 15 fun m => { m with contribs := [⟨⟨.ret, 7⟩, 1, Ramp.rest 0, true, false⟩] } with
      mxe := ⟨(stage.onMix 15 fun m => { m with contribs := [⟨⟨.ret, 7⟩, 1, Ramp.rest 0, true, false⟩] }).mxe.mixes, 383⟩ }
    x.PoolInv ∧ ∃ t, step ⟨x, [.clearMix 1 15]⟩ = .next t := by
  refine ⟨?_, _, rfl⟩
  unfold Part.PoolInv; decide +kernel

theorem witness_TalkInvariantKept : talking.TalkInv ∧ ∃ t, step ⟨talking, [.closeTalk 1 1]⟩ = .next t :=
  ⟨talk_talking, _, rfl⟩

theorem witness_FibreFramesRoundTrip :
    houseFrame.fits .desk ∧ (fullFrame 65535).fits .stage ∧ (idleFrame .desk 0 true false).fits .stage := by
  refine ⟨⟨by decide, by decide, nofun, fun _ => ⟨by decide, by decide +kernel, by decide, by decide +kernel, ?_⟩⟩,
    ⟨by decide, by decide, nofun, fun _ => ⟨by decide, by decide +kernel, by decide, by decide +kernel, trivial⟩⟩,
    ⟨by decide, by decide, fun _ => ⟨rfl, rfl, rfl⟩, nofun⟩⟩
  exact (by decide : (79 : Nat) < 128 ∧ (65535 : Nat) < 65536)

theorem witness_HostRequestsRoundTrip :
    let r : HostRequest := ⟨255, .setPath 1 ⟨some 1, some 65535, some 3, some 0, some 1, some 165⟩⟩
    r.tag < 256 ∧ r.req.wf = true ∧ stage.cmp.inFrame = false := by decide +kernel

theorem witness_LaneRecordsRoundTrip :
    let u : Update := .openTalk 0 7 1 131071
    Ple.powerOn.asm = .idle ∧ u.wf = true ∧ u.identOk .desk = true ∧
    (LaneMsg.echoContrib 15 ⟨.ret, 7⟩ ⟨65535, some 255⟩).fitsHouse := by
  refine ⟨rfl, by decide +kernel, by decide +kernel, by decide, by decide, by decide, ?_⟩
  rintro c h
  obtain rfl := Option.some.inj h
  decide

end Sys2Proof.Tests
end

section
/-!
PROOFS. Step LOCK of the bring-up (R24): what a good frame, a bad frame and the completion do to a path at LOCK.
-/

namespace Sys2Proof.Machine

/-- A good frame at step LOCK is only counted, idle or full alike. -/
theorem Part.goodFrame_lock (p : Path) (f : Frame) (x : Part) (acquiring : (x.path p).state = .acquiring)
    (lock : (x.path p).step = .lock) :
    x.goodFrame p f = x.onPath p fun c => { c with count := c.count + 1 } := by
  unfold Part.goodFrame
  rw [acquiring, lock]

/-- A bad frame returns the consecutive-frame count of an ACQUIRING path to 0, save at step ALIGN. -/
theorem PathCtl.badFrame_count (c : PathCtl) (acquiring : c.state = .acquiring) (counted : c.step ≠ .align) :
    c.badFrame.count = 0 := by
  unfold PathCtl.badFrame
  rw [acquiring]
  exact if_neg counted

/-- A bad frame never moves the bring-up step. -/
@[simp] theorem PathCtl.badFrame_step (c : PathCtl) : c.badFrame.step = c.step := by
  unfold PathCtl.badFrame
  split <;> rfl

/-- LOCK_STEP_COMPLETE on a path that has counted its 8 frames. -/
theorem exec_lockStepComplete_due (p : Path) (s : State) (acquiring : (s.part.path p).state = .acquiring)
    (lock : (s.part.path p).step = .lock) (counted : 8 ≤ (s.part.path p).count) :
    exec (.lockStepComplete p) s =
      .next { s with part := s.part.onPath p fun c => { c with step := .ident, count := 0, stepTimer := 0 } } := by
  show Host.Outcome.next { s with part := s.part.takeLock p } = _
  unfold Part.takeLock
  rw [if_pos ⟨acquiring, lock, counted⟩]

/-- Settles O18, one part each for the good frame, the bad frame and the completion. -/
theorem lockStepCounts : Obligations.LockStepCounts := by
  intro p s acquiring lock
  refine ⟨fun bits f ready good => ?_, fun bits ready bad => ?_, fun counted => ?_⟩
  · have taken := exec_frameReceived_good p bits f s ready good
    rw [s.part.goodFrame_lock p f acquiring lock] at taken
    exact ⟨_, taken, by simp, by simp [lock]⟩
  · have emptied := PathCtl.badFrame_count (s.part.path p) acquiring (by simp [lock])
    exact ⟨_, exec_frameReceived_bad p bits s ready bad, by simp [emptied], by simp [lock]⟩
  · exact exec_lockStepComplete_due p s acquiring lock counted.ge

end Sys2Proof.Machine
end

section
/-!
PROOFS. The placing of an arrival and the playout on one slot (R44, R45), and the two orders in which they may meet there
(R46).
-/

namespace Sys2Proof.Machine

/-! ### Placing (R44) -/

/-- Placing an arrival leaves the playout pointer where it stands. -/
@[simp] theorem Fmu.place_p (p : Path) (f : Frame) (fm : Fmu) : (fm.place p f).p = fm.p := by
  unfold Fmu.place
  dsimp only
  split
  · split
    · cases p <;> rfl
    · rfl
  · rfl

/-- The first copy of a sequence takes its slot, and drops what stood there. -/
theorem Fmu.slot_place_first (p : Path) (f : Frame) (fm : Fmu) (inRange : f.seq % 16 < fm.slots.length)
    (first : (fm.slot f.seq).seq ≠ some f.seq) : (fm.place p f).slot f.seq = MergeSlot.fresh p f := by
  unfold Fmu.place
  dsimp only
  rw [if_neg first]
  exact (updAt_getD _ _ _ _ _).trans (if_pos ⟨rfl, inRange⟩)

/-- A further copy of a sequence leaves its slot's sequence and stored copy as they are. -/
theorem Fmu.slot_place_again (p : Path) (f : Frame) (fm : Fmu) (inRange : f.seq % 16 < fm.slots.length)
    (held : (fm.slot f.seq).seq = some f.seq) :
    ((fm.place p f).slot f.seq).seq = some f.seq ∧
      ((fm.place p f).slot f.seq).stored = (fm.slot f.seq).stored := by
  unfold Fmu.place
  dsimp only
  rw [if_pos held]
  split
  · cases p <;> exact ⟨held, rfl⟩
  · have taken : Fmu.slot { fm with slots := updAt (f.seq % 16) (MergeSlot.second p) fm.slots } f.seq =
        MergeSlot.second p (fm.slot f.seq) :=
      (updAt_getD _ _ _ _ _).trans (if_pos ⟨rfl, inRange⟩)
    rw [taken]
    cases p <;> exact ⟨held, rfl⟩

/-! ### Playout (R45) -/

/-- A playout gives the stored copy of the pointer's sequence, if its slot holds it. -/
theorem Fmu.playout_got (q : Nat) (fm : Fmu) (pointer : fm.p = some q) :
    fm.playout.1 = if (fm.slot q).seq = some q then (fm.slot q).stored else none := by
  unfold Fmu.playout
  rw [pointer]

/-- A playout moves the pointer one up. -/
theorem Fmu.playout_p (q : Nat) (fm : Fmu) (pointer : fm.p = some q) : fm.playout.2.p = some (inc16 q) := by
  unfold Fmu.playout
  rw [pointer]

/-- A playout empties the slot it reaches. -/
theorem Fmu.slot_playout (q : Nat) (fm : Fmu) (pointer : fm.p = some q) : fm.playout.2.slot q = MergeSlot.empty := by
  have emptied : fm.playout.2.slots = updAt (q % 16) (fun _ => MergeSlot.empty) fm.slots := by
    unfold Fmu.playout
    rw [pointer]
  unfold Fmu.slot
  rw [emptied, updAt_getD]
  split
  · rfl
  · next outside => exact List.getD_eq_default _ _ (not_lt.mp fun inRange => outside ⟨rfl, inRange⟩)

/-! ### The two orders (R46) -/

/-- The playout after the first copy of the pointer's sequence plays that copy. -/
theorem Fmu.playout_place_first (p : Path) (f : Frame) (fm : Fmu) (inRange : f.seq % 16 < fm.slots.length)
    (pointer : fm.p = some f.seq) (first : (fm.slot f.seq).seq ≠ some f.seq) :
    (fm.place p f).playout.1 = some f := by
  rw [Fmu.playout_got f.seq _ (by simpa using pointer), fm.slot_place_first p f inRange first]
  exact if_pos rfl

/-- The playout after a further copy of the pointer's sequence plays the copy stored before. -/
theorem Fmu.playout_place_again (p : Path) (f : Frame) (fm : Fmu) (inRange : f.seq % 16 < fm.slots.length)
    (pointer : fm.p = some f.seq) (held : (fm.slot f.seq).seq = some f.seq) :
    (fm.place p f).playout.1 = (fm.slot f.seq).stored := by
  obtain ⟨seqKept, copyKept⟩ := fm.slot_place_again p f inRange held
  rw [Fmu.playout_got f.seq _ (by simpa using pointer), if_pos seqKept, copyKept]

/-- A sequence the pointer has just passed is at distance 65535. -/
theorem distance_passed (q : Nat) : distance q (inc16 q) = 65535 := by
  unfold distance inc16
  omega

/-- A sequence at distance 1 to 15 falls into another slot than the pointer's. -/
theorem slot_ne_of_distance (q pointer : Nat) (ahead : 1 ≤ distance q pointer)
    (inWindow : distance q pointer ≤ 15) : q % 16 ≠ pointer % 16 := by
  unfold distance at ahead inWindow
  omega

/-- An arrival at distance 32768 or more is counted late, and nothing else (R43). -/
theorem Part.judgeArrival_late (p : Path) (f : Frame) (d : Nat) (x : Part) (late : 32768 ≤ d) :
    x.judgeArrival p f d = x.onPath p fun c => { c with lateCount := min 65535 (c.lateCount + 1) } := by
  unfold Part.judgeArrival
  simp only [if_pos late, satInc_eq]

/-- Settles O14: placing keeps the pointer, so the one playout law serves both orders, and what is played splits on whether
the slot holds the sequence already. -/
theorem arrivalAndPlayoutInEitherOrder : Obligations.ArrivalAndPlayoutInEitherOrder := by
  intro p f fm _ sixteen pointer stored
  have inRange : f.seq % 16 < fm.slots.length := by omega
  have placedPointer : (fm.place p f).p = some f.seq := by simpa using pointer
  have played : (fm.place p f).playout.1.isSome = true := by
    by_cases held : (fm.slot f.seq).seq = some f.seq
    · rw [fm.playout_place_again p f inRange pointer held]
      exact stored held
    · rw [fm.playout_place_first p f inRange pointer held]
      rfl
  have passed : distance f.seq ((f.seq + 1) % 65536) = 65535 := distance_passed f.seq
  exact ⟨played, fm.playout_place_first p f inRange pointer,
    Fmu.slot_playout f.seq _ placedPointer, Fmu.playout_p f.seq _ placedPointer,
    fm.slot_playout f.seq pointer, fm.playout_p f.seq pointer, fm.playout_got f.seq pointer, passed,
    fun x => x.judgeArrival_late p f _ (by omega), fun q _ => slot_ne_of_distance f.seq q⟩

end Sys2Proof.Machine
end

section
/-!
PROOFS. A record the lane applies (R73), and a REFUSED record at the DESK end (R85): its notice, and nothing of the mirror.
-/

namespace Sys2Proof.Machine

/-! ### A record applied (R73) -/

/-- LANE_RECORD_COMPLETE takes the oldest record that waits, and judges it. -/
theorem exec_laneRecordComplete_waiting (r : RawRecord) (rest : List RawRecord) (s : State)
    (waiting : s.part.ple.done = r :: rest) :
    exec .laneRecordComplete s =
      .next { s with part := (s.part.onPle fun l => { l with done := rest }).judgeRecord r } := by
  show Host.Outcome.next { s with part := s.part.takeRecord } = _
  unfold Part.takeRecord
  rw [waiting]

/-- A record of the expected sequence that fits this end is applied, and the expected sequence rises, while the lane is not
quiet. -/
theorem Part.judgeRecord_applied (r : RawRecord) (msg : LaneMsg) (x : Part) (heard : x.quiet = false)
    (expected : r.seq = x.ple.expSeq) (fits : readRecord x.dsc.role r.kind r.bytes = some msg) :
    x.judgeRecord r = (x.onPle fun l => { l with expSeq := inc8 l.expSeq }).applyMsg msg := by
  unfold Part.judgeRecord
  rw [if_neg (by simp [heard]), if_pos expected, fits]

/-- Taking a record off those that wait does not quiet the lane. -/
@[simp] theorem Part.quiet_onPle_done (rest : List RawRecord) (x : Part) :
    (x.onPle fun l => { l with done := rest }).quiet = x.quiet := rfl

/-- LANE_RECORD_COMPLETE on a record that is applied. -/
theorem exec_laneRecordComplete_applied (r : RawRecord) (rest : List RawRecord) (msg : LaneMsg) (s : State)
    (waiting : s.part.ple.done = r :: rest) (heard : s.part.quiet = false) (expected : r.seq = s.part.ple.expSeq)
    (fits : readRecord s.part.dsc.role r.kind r.bytes = some msg) :
    exec .laneRecordComplete s =
      .next { s with part :=
        (s.part.onPle fun l => { l with done := rest, expSeq := inc8 l.expSeq }).applyMsg msg } := by
  rw [exec_laneRecordComplete_waiting r rest s waiting,
    Part.judgeRecord_applied r msg _ (by simpa using heard) (by simpa using expected) (by simpa using fits)]
  rfl

/-! ### REFUSED (R85) -/

/-- A REFUSED record only offers its notice, whatever the mirror's state. -/
theorem Part.applyMsg_refused (id : RefusedId) (why : RefuseReason) (n : Nat) (x : Part) :
    x.applyMsg (.refused id why n) = x.notify (.updateRefused id why n) := rfl

/-- Settles O36: the record is applied, and applying a REFUSED record is one notice, which touches the port alone. -/
theorem refusedRecordNotifies : Obligations.RefusedRecordNotifies := by
  intro r rest id why n s desk waiting heard expected refused
  have fits : readRecord s.part.dsc.role r.kind r.bytes = some (.refused id why n) := by rw [desk, refused]
  rw [exec_laneRecordComplete_applied r rest _ s waiting heard expected fits, Part.applyMsg_refused]
  rfl

end Sys2Proof.Machine
end

section
/-!
PROOFS. What the arbiter, the link and the lane leave of the stage tables: `stock` holds the role, the preamp queue, the channel
store and of each mix all but what the arbiter hands it. Only channel and mix commands and the resets change it.
-/

namespace Sys2Proof.Machine

/-- A mix without what the arbiter hands it: the destination state and the two ramps that follow it (R118). -/
def Mix.sansTalk (m : Mix) : Mix :=
  { m with dest := .free, dimRamp := Ramp.rest 0, talkRamp := Ramp.rest 0 }

/-- The role, the preamp queue, the channel store, and of the mixes all but what the arbiter hands them. -/
def Part.stock (x : Part) : Role × Api × Chs × Nat × List Mix :=
  (x.dsc.role, x.api, x.chs, x.mxe.free, x.mxe.mixes.map Mix.sansTalk)

/-- A change of one entry that a view does not see is not seen in the list. -/
theorem map_updAt {α β : Type} (g : α → β) (f : α → α) (h : ∀ a, g (f a) = g a) (i : Nat) (l : List α) :
    (updAt i f l).map g = l.map g := by
  induction l generalizing i with
  | nil => cases i <;> rfl
  | cons a l ih => cases i <;> simp [updAt, h, ih]

@[simp] theorem Part.withTka_stock (x : Part) (t : Tka) : ({ x with tka := t } : Part).stock = x.stock := rfl
@[simp] theorem Part.withPle_stock (x : Part) (t : Ple) : ({ x with ple := t } : Part).stock = x.stock := rfl
@[simp] theorem Part.withScu_stock (x : Part) (t : Scu) : ({ x with scu := t } : Part).stock = x.stock := rfl
@[simp] theorem Part.withFmu_stock (x : Part) (t : Fmu) : ({ x with fmu := t } : Part).stock = x.stock := rfl
@[simp] theorem Part.withMtu_stock (x : Part) (t : Mtu) : ({ x with mtu := t } : Part).stock = x.stock := rfl
@[simp] theorem Part.withMirror_stock (x : Part) (t : Mirror) : ({ x with mirror := t } : Part).stock = x.stock := rfl
@[simp] theorem Part.withCmp_stock (x : Part) (t : Cmp) : ({ x with cmp := t } : Part).stock = x.stock := rfl
@[simp] theorem Part.withBus_stock (x : Part) (t : Bus) : ({ x with bus := t } : Part).stock = x.stock := rfl
@[simp] theorem Part.withPair_stock (x : Part) (t : PairCfg) : ({ x with pair := t } : Part).stock = x.stock := rfl
@[simp] theorem Part.notify_stock (n) (x : Part) : (x.notify n).stock = x.stock := rfl
@[simp] theorem Part.onPle_stock (f) (x : Part) : (x.onPle f).stock = x.stock := rfl
@[simp] theorem Part.onFmu_stock (f) (x : Part) : (x.onFmu f).stock = x.stock := rfl
@[simp] theorem Part.onCmp_stock (f) (x : Part) : (x.onCmp f).stock = x.stock := rfl
@[simp] theorem Part.onDest_stock (d f) (x : Part) : (x.onDest d f).stock = x.stock := rfl
@[simp] theorem Part.onSource_stock (s f) (x : Part) : (x.onSource s f).stock = x.stock := rfl
@[simp] theorem Part.onSession_stock (s f) (x : Part) : (x.onSession s f).stock = x.stock := rfl
@[simp] theorem Part.answer_stock (t c) (x : Part) : (x.answer t c).stock = x.stock := rfl
@[simp] theorem Part.reply_stock (t c b) (x : Part) : (x.reply t c b).stock = x.stock := rfl

@[simp] theorem Part.onPath_stock (p f) (x : Part) : (x.onPath p f).stock = x.stock := by
  cases p <;> rfl

@[simp] theorem Part.echo_stock (t) (x : Part) : (x.echo t).stock = x.stock := by
  obtain ⟨l, h⟩ := x.echo_eq t
  rw [h]; rfl

/-! ### Talk -/

@[simp] theorem Part.setDest_stock (d st h) (x : Part) : (x.setDest d st h).stock = x.stock := by
  unfold Part.setDest
  dsimp only
  split
  · rfl
  · show (_, _, _, _, List.map Mix.sansTalk (updAt d (Mix.handDest st) x.mxe.mixes)) = _
    rw [map_updAt Mix.sansTalk (Mix.handDest st) fun _ => rfl]
    rfl

@[simp] theorem Part.grant_stock (s d) (x : Part) : (x.grant s d).stock = x.stock := by
  simp [Part.grant]

@[simp] theorem Part.lose_stock (d) (x : Part) : (x.lose d).stock = x.stock := by
  unfold Part.lose; split <;> simp

@[simp] theorem Part.arbitrate_stock (s d) (x : Part) : (x.arbitrate s d).stock = x.stock := by
  unfold Part.arbitrate; dsimp only; repeat' split
  all_goals simp

@[simp] theorem Part.arbitrateFree_stock (d) (x : Part) : (x.arbitrateFree d).stock = x.stock := by
  unfold Part.arbitrateFree; split <;> simp

@[simp] theorem Part.publish_stock (b c s) (x : Part) : (Part.publish b c x s).stock = x.stock := by
  unfold Part.publish; dsimp only; split <;> simp

@[simp] theorem Part.publishAll_stock (b c o) (x : Part) : (x.publishAll b c o).stock = x.stock :=
  foldl_keeps Part.stock _ (fun _ _ => Part.publish_stock ..) ..

@[simp] theorem Part.releaseOne_stock (s d) (x : Part) : (x.releaseOne s d).stock = x.stock := by
  unfold Part.releaseOne; repeat' split
  all_goals simp

@[simp] theorem Part.openSession_stock (s p l r) (x : Part) : (x.openSession s p l r).stock = x.stock :=
  foldl_keeps Part.stock _ (fun _ _ => Part.arbitrate_stock ..) ..

@[simp] theorem Part.amendSession_stock (s p l r) (x : Part) : (x.amendSession s p l r).stock = x.stock :=
  (foldl_keeps Part.stock _ (fun _ _ => Part.arbitrate_stock ..) ..).trans
    (foldl_keeps Part.stock _ (fun _ _ => Part.releaseOne_stock ..) ..)

@[simp] theorem Part.talkOpen_stock (s p l r c) (x : Part) : (x.talkOpen s p l r c).stock = x.stock := by
  unfold Part.talkOpen; dsimp only; split <;> simp

@[simp] theorem Part.fadeGranted_stock (s d) (x : Part) : (x.fadeGranted s d).stock = x.stock := by
  unfold Part.fadeGranted; repeat' split
  all_goals simp

@[simp] theorem Part.closeSession_stock (s r c) (x : Part) : (x.closeSession s r c).stock = x.stock := by
  unfold Part.closeSession; dsimp only; split
  · rw [Part.publishAll_stock, Part.onSource_stock, foldl_keeps Part.stock _ (fun _ _ => Part.fadeGranted_stock ..)]
  · rfl

@[simp] theorem Part.takeFadeEnd_stock (d) (x : Part) : (x.takeFadeEnd d).stock = x.stock := by
  unfold Part.takeFadeEnd; split <;> simp

@[simp] theorem Part.judgeDest_stock (d) (x : Part) : (x.judgeDest d).stock = x.stock := by
  unfold Part.judgeDest; repeat' split
  all_goals simp

@[simp] theorem Part.maskChanged_stock (d) (x : Part) : (x.maskChanged d).stock = x.stock := by
  simp [Part.maskChanged]

@[simp] theorem Part.talkLink_stock (o) (x : Part) : (x.talkLink o).stock = x.stock := by
  unfold Part.talkLink; dsimp only; repeat' split
  all_goals simp

@[simp] theorem Part.takeLatchedLimit_stock (s) (x : Part) : (x.takeLatchedLimit s).stock = x.stock := by
  unfold Part.takeLatchedLimit; repeat' split
  all_goals simp

@[simp] theorem Part.talkStandby_stock (x : Part) : x.talkStandby.stock = x.stock :=
  foldl_keeps Part.stock _ (fun _ _ => Part.closeSession_stock ..) ..

@[simp] theorem Part.evalCue_stock (x : Part) : x.evalCue.stock = x.stock := rfl

@[simp] theorem Part.applyTalkCfg_stock (f c) (x : Part) : (x.applyTalkCfg f c).2.stock = x.stock := by
  unfold Part.applyTalkCfg; dsimp only; repeat' split
  all_goals simp

@[simp] theorem Part.latchTicks_stock (x : Part) : x.latchTicks.stock = x.stock :=
  foldl_keeps Part.stock _ (fun _ _ => Part.onSession_stock ..) ..

/-! ### Lane and restart -/

@[simp] theorem Part.refuse_stock (u r) (x : Part) : (x.refuse u r).stock = x.stock := by
  unfold Part.refuse; dsimp only; repeat' split
  all_goals rfl

@[simp] theorem Part.drainMarks_stock (ms : List Mark) (x : Part) : (Part.drainMarks ms x).stock = x.stock := by
  induction ms generalizing x with
  | nil => rfl
  | cons m ms ih =>
    unfold Part.drainMarks; split
    · rw [ih]; split <;> rfl
    · rfl

@[simp] theorem Part.dumpFill_stock (n : Nat) (x : Part) : (Part.dumpFill n x).stock = x.stock := by
  induction n generalizing x with
  | zero => rfl
  | succ n ih =>
    unfold Part.dumpFill; split
    · split
      · rw [ih]; rfl
      · rfl
    · rfl

@[simp] theorem Part.refill_stock (x : Part) : x.refill.stock = x.stock := by
  unfold Part.refill; split
  · rfl
  · dsimp only; split <;> simp

@[simp] theorem Part.dumpStart_stock (x : Part) : x.dumpStart.stock = x.stock := by
  unfold Part.dumpStart; rw [Part.dumpFill_stock]; rfl

@[simp] theorem Part.mirrorTo_stock (st) (x : Part) : (x.mirrorTo st).stock = x.stock := by
  unfold Part.mirrorTo; dsimp only; split <;> rfl

@[simp] theorem Part.endEpisode_stock (x : Part) : x.endEpisode.stock = x.stock := rfl

@[simp] theorem Part.restartHandling_stock (x : Part) : x.restartHandling.stock = x.stock := by
  unfold Part.restartHandling; dsimp only; split <;> simp

@[simp] theorem Part.farFlag_stock (a b) (x : Part) : (x.farFlag a b).stock = x.stock := by
  unfold Part.farFlag Part.farRestart; dsimp only; repeat' split
  all_goals simp

@[simp] theorem Part.answerHeldLink_stock (c) (x : Part) : (x.answerHeldLink c).stock = x.stock := by
  unfold Part.answerHeldLink; split <;> rfl

@[simp] theorem Part.answerHeldState_stock (c) (x : Part) : (x.answerHeldState c).stock = x.stock := by
  unfold Part.answerHeldState; split <;> rfl

@[simp] theorem Part.restartAcked_stock (x : Part) : x.restartAcked.stock = x.stock := by
  unfold Part.restartAcked; dsimp only; split <;> simp <;> rfl

@[simp] theorem Part.serviceFlags_stock (f) (x : Part) : (x.serviceFlags f).stock = x.stock := by
  unfold Part.serviceFlags; dsimp only; split <;> simp

@[simp] theorem Part.linkReset_stock (t) (x : Part) : (x.linkReset t).stock = x.stock := by
  unfold Part.linkReset; dsimp only; split <;> simp <;> rfl

@[simp] theorem Part.linkChanged_stock (o) (x : Part) : (x.linkChanged o).stock = x.stock := by
  have lane (y : Part) : (y.laneLink o).stock = y.stock := by
    unfold Part.laneLink; repeat' split
    all_goals simp
  have meter (y : Part) : y.meterLink.stock = y.stock := by
    unfold Part.meterLink; split <;> rfl
  unfold Part.linkChanged; dsimp only; split <;> simp [lane, meter]

/-! ### Paths -/

@[simp] theorem Part.clockFollow_stock (x : Part) : x.clockFollow.stock = x.stock := by
  unfold Part.clockFollow Part.notifyClock; split <;> simp

@[simp] theorem Part.notifyPath_stock (p o) (x : Part) : (Part.notifyPath p x o).stock = x.stock := by
  unfold Part.notifyPath; split <;> simp

@[simp] theorem Part.anchoring_stock (x : Part) : x.anchoring.1.stock = x.stock := by
  unfold Part.anchoring; repeat' split
  all_goals simp

@[simp] theorem Part.fmuReport_stock (n) (x : Part) : (x.fmuReport n).stock = x.stock := by
  unfold Part.fmuReport; dsimp only; repeat' split
  all_goals simp

@[simp] theorem Part.report_stock (o) (x : Part) : (x.report o).stock = x.stock := by
  simp [Part.report]

@[simp] theorem Part.changePath_stock (p f) (x : Part) : (x.changePath p f).stock = x.stock := by
  simp [Part.changePath]

@[simp] theorem Part.standbyAligns_stock (x : Part) : x.standbyAligns.stock = x.stock := by
  unfold Part.standbyAligns; split
  · simp only [Part.notifyPath_stock, Part.anchoring_stock]; rfl
  · rfl

@[simp] theorem Part.pathsStandby_stock (x : Part) : x.pathsStandby.stock = x.stock := by
  have both (u : Part) : ({ u with pa := u.pa.standby, pb := u.pb.standby } : Part).stock = u.stock := rfl
  unfold Part.pathsStandby; dsimp only; split <;> simp [both]

@[simp] theorem Part.setPath_stock (p f) (x : Part) : (x.setPath p f).2.stock = x.stock := by
  unfold Part.setPath; dsimp only; split
  · rfl
  · rw [Part.report_stock, Part.withPair_stock, Part.onPath_stock]

/-! ### Frames -/

@[simp] theorem Part.judgeArrival_stock (p f d) (x : Part) : (x.judgeArrival p f d).stock = x.stock := by
  unfold Part.judgeArrival; repeat' split
  all_goals simp

@[simp] theorem Part.arrive_stock (p f) (x : Part) : (x.arrive p f).2.stock = x.stock := by
  unfold Part.arrive Part.refArrival; dsimp only; repeat' split
  all_goals simp

@[simp] theorem Part.frame_stock (p b) (x : Part) : (x.frame p b).stock = x.stock := by
  unfold Part.frame Part.goodFrame Part.identFrame Part.alignFrame Part.usableFrame Part.offerFull
  dsimp only; repeat' split
  all_goals simp

end Sys2Proof.Machine
end

section
/-!
PROOFS. Every command is a sequence of moves: the steps that come due, the work of one sample event, the receipt of a frame or
a character, a request carried out with a reply place free, the transmitter, the resets. A fact that every move keeps is a fact
that every step of the machine keeps.
-/

namespace Sys2Proof.Machine

/-- One move of the part. A request is carried out only with its reply places free, and a change of the receiver or of the
request places leaves the replies and the notices. -/
inductive Part.Move : Part → Part → Prop
  | reAnchor (x : Part) : Move x x.takeReAnchor
  | lock (p : Path) (x : Part) : Move x (x.takeLock p)
  | ident (p : Path) (x : Part) : Move x (x.takeIdent p)
  | light (p : Path) (x : Part) : Move x (x.takeLight p)
  | silence (p : Path) (x : Part) : Move x (x.takeSilence p)
  | stall (p : Path) (x : Part) : Move x (x.takeStall p)
  | errors (p : Path) (x : Part) : Move x (x.takeErrors p)
  | recovered (p : Path) (x : Part) : Move x (x.takeRecovered p)
  | burst (p : Path) (x : Part) : Move x (x.takeBurst p)
  | cycle (p : Path) (x : Part) : Move x (x.takeCycle p)
  | frame (p : Path) (bits : List Bool) (x : Part) : Move x (x.frame p bits)
  | lightChange (p : Path) (lit : Bool) (x : Part) : Move x (x.onPath p (PathCtl.lightChange lit))
  | record (x : Part) : Move x x.takeRecord
  | tailEnd (x : Part) : Move x (x.onPle Ple.takeTailEnd)
  | goBack (x : Part) : Move x (x.onPle Ple.takeGoBack)
  | clockWindow (x : Part) : Move x x.takeClockWindow
  | qualified (x : Part) : Move x x.takeQualified
  | clockEdge (x : Part) : Move x x.clockEdge
  | wake (x : Part) : Move x x.takeWake
  | walk (n : Nat) (x : Part) : Move x (x.takeWalkStep n)
  | rise (n : Nat) (x : Part) : Move x (x.takeRiseEnd n)
  | fall (n : Nat) (x : Part) : Move x (x.takeFallEnd n)
  | freed (m : Nat) (r : SrcRef) (x : Part) : Move x (x.takeFreed m r)
  | leaving (m : Nat) (x : Part) : Move x (x.takeLeavingEnd m)
  | arriving (m : Nat) (x : Part) : Move x (x.takeArrivingEnd m)
  | fadeEnd (d : Nat) (x : Part) : Move x (x.takeFadeEnd d)
  | limit (s : Source) (x : Part) : Move x (x.takeLatchedLimit s)
  | port (f : Cmp → Cmp) (x : Part) (replies : (f x.cmp).replies = x.cmp.replies)
      (notices : (f x.cmp).notices = x.cmp.notices) : Move x (x.onCmp f)
  | entry (tag : Nat) (code : ReplyCode) (x : Part) : Move x (x.entryReply tag code)
  | carry (r : HostRequest) (x : Part) (place : 1 ≤ x.freeReplies)
      (second : r.req = .resetSoft → x.cmp.executing.isSome = true → 2 ≤ x.freeReplies) : Move x (x.carryOut r)
  | transmit (x : Part) : Move x x.takeTransmit
  | sample (i : SampleInput) (x : Part) : Move x (x.sampleWork i)
  | restart (st : Straps) (pin : Bool) (x : Part) : Move x (x.restart st pin)
  | pin (x : Part) : Move x x.assertPin

/-- Moves one after another. -/
abbrev Part.Moves : Part → Part → Prop :=
  Relation.ReflTransGen Part.Move

namespace Part.Moves

/-- What every move keeps, moves keep. -/
theorem keep {I : Part → Prop} (kept : ∀ x y, Part.Move x y → I x → I y) {x y : Part} (h : Part.Moves x y) (hx : I x) :
    I y := by
  induction h with
  | refl => exact hx
  | tail _ move ih => exact kept _ _ move ih

/-- A fold of moves is moves. -/
theorem foldl {β : Type} {f : Part → β → Part} (h : ∀ x b, Part.Moves x (f x b)) (l : List β) (x : Part) :
    Part.Moves x (l.foldl f x) := by
  induction l generalizing x with
  | nil => exact .refl
  | cons b l ih => exact (h x b).trans (ih (f x b))

/-- Two moves of both paths. -/
theorem bothPaths {f : Path → Part → Part} (h : ∀ p x, Part.Moves x (f p x)) (x : Part) :
    Part.Moves x (Machine.bothPaths f x) :=
  (h .a x).trans (h .b _)

end Part.Moves

/-! ### The lane and the paths -/

theorem Part.takeRecords_moves (n : Nat) (x : Part) : Part.Moves x (Part.takeRecords n x) := by
  induction n generalizing x with
  | zero => exact .refl
  | succ n ih => exact (Relation.ReflTransGen.single (.record x)).trans (ih _)

theorem Part.settlePath_moves (p : Path) (x : Part) : Part.Moves x (x.settlePath p) :=
  (((((((Relation.ReflTransGen.single (.light p x)).tail (.silence p _)).tail (.stall p _)).tail (.errors p _)).tail
    (.recovered p _)).tail (.burst p _)).tail (.cycle p _))

theorem Part.settleFrame_moves (p : Path) (x : Part) : Part.Moves x (x.settleFrame p) :=
  ((((Relation.ReflTransGen.single (.reAnchor x)).tail (.lock p _)).tail (.ident p _)).trans
    (Part.takeRecords_moves _ _)).trans (Part.settlePath_moves p _)

theorem Part.settleLink_moves (x : Part) : Part.Moves x x.settleLink := by
  have bringUp (y : Part) : Part.Moves y (Machine.bothPaths (fun p y => (y.takeLock p).takeIdent p) y) :=
    Part.Moves.bothPaths (fun p z => (Relation.ReflTransGen.single (.lock p z)).tail (.ident p _)) y
  have lane (y : Part) : Part.Moves y ((y.settleRecords.onPle Ple.takeTailEnd).onPle Ple.takeGoBack) :=
    ((Part.takeRecords_moves _ y).tail (.tailEnd _)).tail (.goBack _)
  exact (((Relation.ReflTransGen.single (.reAnchor x)).trans (bringUp _)).trans (lane _)).trans
    (Part.Moves.bothPaths Part.settlePath_moves _)

/-! ### The device and the tables -/

theorem Part.settleDevice_moves (x : Part) : Part.Moves x x.settleDevice :=
  ((Relation.ReflTransGen.single (.clockWindow x)).tail (.qualified _)).tail (.wake _)

theorem Part.settleTables_moves (x : Part) : Part.Moves x x.settleTables := by
  have each {β : Type} {f : Part → β → Part} (h : ∀ y b, Part.Move y (f y b)) (l : List β) (y : Part) :
      Part.Moves y (l.foldl f y) :=
    Part.Moves.foldl (fun y b => .single (h y b)) l y
  have mix (y : Part) (m : Nat) : Part.Moves y (Part.settleMix y m) := each (fun z r => .freed m r z) _ y
  exact (((((((each (fun y n => .walk n y) _ x).trans (each (fun y n => .rise n y) _ _)).trans
    (each (fun y n => .fall n y) _ _)).trans (Part.Moves.foldl mix _ _)).trans (each (fun y m => .leaving m y) _ _)).trans
    (each (fun y m => .arriving m y) _ _)).trans (each (fun y d => .fadeEnd d y) _ _)).trans
    (each (fun y s => .limit s y) _ _)

/-! ### The Control Message Port -/

theorem Part.executeHead_moves (x : Part) : Part.Moves x x.executeHead := by
  unfold Part.executeHead
  split
  · exact .refl
  · next r waits =>
    split
    · next places =>
      have one : 1 ≤ placesFor r x.cmp.staged := by unfold placesFor; split <;> decide
      refine (Relation.ReflTransGen.single (.port _ x rfl rfl)).tail (.carry r _ (one.trans places) fun soft staged => ?_)
      have two : placesFor r x.cmp.staged = 2 := if_pos ⟨soft, staged⟩
      exact two ▸ places
    · exact .refl

theorem Part.drain_moves (x : Part) : Part.Moves x x.drain :=
  (Part.executeHead_moves x).trans (Part.executeHead_moves _)

theorem Part.enqueue_moves (r : HostRequest) (x : Part) : Part.Moves x (x.enqueue r) := by
  unfold Part.enqueue
  split
  · exact .single (.port _ x rfl rfl)
  · exact .single (.port _ x rfl rfl)
  · exact .single (.entry _ _ x)

theorem Part.damaged_moves (x : Part) : Part.Moves x x.damaged :=
  ((Part.drain_moves x).tail (.port _ _ rfl rfl)).tail (.entry _ _ _)

theorem Part.closed_moves (bytes : List Nat) (x : Part) : Part.Moves x (x.closed bytes) := by
  unfold Part.closed
  split
  · exact Part.damaged_moves x
  · exact (Part.drain_moves x).tail (.entry _ _ _)
  · exact (Part.drain_moves x).tail (.entry _ _ _)
  · exact (Part.drain_moves x).trans (Part.enqueue_moves _ _)

theorem Part.takeClosed_moves (x : Part) : Part.Moves x x.takeClosed := by
  unfold Part.takeClosed
  split
  · exact (Relation.ReflTransGen.single (.port _ x rfl rfl)).trans (Part.closed_moves _ _)
  · exact .refl

theorem Part.takeTooLong_moves (x : Part) : Part.Moves x x.takeTooLong := by
  have discarded : Part.Moves x (x.onCmp fun c => { c with rxDue := none }).damaged :=
    (Relation.ReflTransGen.single (.port _ x rfl rfl)).trans (Part.damaged_moves _)
  unfold Part.takeTooLong
  split
  · exact discarded
  · exact discarded
  · exact .refl

theorem Part.settleLine_moves (x : Part) : Part.Moves x x.settleLine :=
  (Part.takeClosed_moves x).trans (Part.takeTooLong_moves _)

theorem Part.submit_moves (tag : Nat) (req : Request) (x : Part) : Part.Moves x (x.submit tag req) := by
  refine ((Part.settleLine_moves x).trans (Part.drain_moves _)).trans ?_
  dsimp only [Part.submit]
  split
  · next ready => exact .single (.carry _ _ ready.2 fun _ some => by simp [ready.1] at some)
  · exact Part.enqueue_moves _ _

theorem Part.framingError_moves (x : Part) : Part.Moves x x.framingError := by
  have hunts : Part.Moves x ((x.drain.onCmp Cmp.countError).onCmp fun c => { c.hunt with awaitIdle := true }) :=
    ((Part.drain_moves x).tail (.port _ _ rfl rfl)).tail (.port _ _ rfl rfl)
  unfold Part.framingError
  dsimp only
  repeat' split
  · exact .refl
  · exact hunts.tail (.entry _ _ _)
  · exact hunts

/-- A byte taken by the framing leaves the replies and the notices. -/
theorem Cmp.takeByte_queues (b : Nat) (c : Cmp) :
    (c.takeByte b).replies = c.replies ∧ (c.takeByte b).notices = c.notices := by
  unfold Cmp.takeByte Cmp.addByte
  repeat' split
  all_goals exact ⟨rfl, rfl⟩

theorem Part.character_moves (c : LineChar) (x : Part) : Part.Moves x (x.character c) := by
  unfold Part.character
  repeat' split
  · exact .refl
  · exact .refl
  · exact .single (.port _ x (Cmp.takeByte_queues ..).1 (Cmp.takeByte_queues ..).2)
  · exact Part.framingError_moves x

theorem Part.settlePort_moves (x : Part) : Part.Moves x x.settlePort :=
  ((Part.settleLine_moves x).trans (Part.drain_moves _)).tail (.transmit _)

theorem Part.sampleEvent_moves (i : SampleInput) (x : Part) : Part.Moves x (x.sampleEvent i) := by
  unfold Part.sampleEvent
  split
  · exact .refl
  · exact ((((Part.settleLink_moves x).trans (Part.settleDevice_moves _)).trans (Part.settleTables_moves _)).trans
      (Part.settlePort_moves _)).tail (.sample i _)

theorem Part.endTransmit_moves (x : Part) : Part.Moves x x.endTransmit := by
  unfold Part.endTransmit
  split
  · exact .refl
  · exact .single (.port _ x rfl rfl)

theorem Part.setHold_moves (level : Bool) (x : Part) : Part.Moves x (x.setHold level) := by
  cases level <;> exact .single (.port _ x rfl rfl)

/-! ### Every command -/

/-- Every command is moves of the part, and leaves the waiting commands. -/
theorem exec_moves (c : Instr) (s : State) : ∃ y, exec c s = .next { s with part := y } ∧ Part.Moves s.part y := by
  cases c with
  | powerOn st => exact ⟨_, rfl, .single (.restart st _ _)⟩
  | resetPinAssert => exact ⟨_, rfl, .single (.pin _)⟩
  | resetPinRelease st => exact ⟨_, rfl, .single (.restart st _ _)⟩
  | sampleEvent i => exact ⟨_, rfl, Part.sampleEvent_moves i _⟩
  | laneRecordComplete => exact ⟨_, rfl, .single (.record _)⟩
  | frameReceived p bits => exact ⟨_, rfl, (Part.settleFrame_moves p _).tail (.frame p bits _)⟩
  | reAnchor => exact ⟨_, rfl, .single (.reAnchor _)⟩
  | lockStepComplete p => exact ⟨_, rfl, .single (.lock p _)⟩
  | identStepComplete p => exact ⟨_, rfl, .single (.ident p _)⟩
  | quietTailEnd => exact ⟨_, rfl, .single (.tailEnd _)⟩
  | goBack => exact ⟨_, rfl, .single (.goBack _)⟩
  | lightWindowEnd p => exact ⟨_, rfl, .single (.light p _)⟩
  | silenceTimeout p => exact ⟨_, rfl, .single (.silence p _)⟩
  | bringupStall p => exact ⟨_, rfl, .single (.stall p _)⟩
  | errorWindowEnd p => exact ⟨_, rfl, .single (.errors p _)⟩
  | pathRecovered p => exact ⟨_, rfl, .single (.recovered p _)⟩
  | burstEntry p => exact ⟨_, rfl, .single (.burst p _)⟩
  | burstCycleRestart p => exact ⟨_, rfl, .single (.cycle p _)⟩
  | clockWindowEnd => exact ⟨_, rfl, .single (.clockWindow _)⟩
  | clockQualified => exact ⟨_, rfl, .single (.qualified _)⟩
  | wakeComplete => exact ⟨_, rfl, .single (.wake _)⟩
  | gainWalkStep n => exact ⟨_, rfl, .single (.walk n _)⟩
  | phantomRiseEnd n => exact ⟨_, rfl, .single (.rise n _)⟩
  | phantomFallEnd n => exact ⟨_, rfl, .single (.fall n _)⟩
  | contribFreed m r => exact ⟨_, rfl, .single (.freed m r _)⟩
  | leavingEnd m => exact ⟨_, rfl, .single (.leaving m _)⟩
  | arrivingEnd m => exact ⟨_, rfl, .single (.arriving m _)⟩
  | fadeEnd d => exact ⟨_, rfl, .single (.fadeEnd d _)⟩
  | latchedLimit src => exact ⟨_, rfl, .single (.limit src _)⟩
  | cmpFrameClosed => exact ⟨_, rfl, Part.takeClosed_moves _⟩
  | framingError => exact ⟨_, rfl, (Part.settleLine_moves _).trans (Part.framingError_moves _)⟩
  | frameTooLong => exact ⟨_, rfl, Part.takeTooLong_moves _⟩
  | requestExecute => exact ⟨_, rfl, Part.executeHead_moves _⟩
  | transmitFrameStart => exact ⟨_, rfl, .single (.transmit _)⟩
  | transmitFrameEnd => exact ⟨_, rfl, Part.endTransmit_moves _⟩
  | holdAssert => exact ⟨_, rfl, Part.setHold_moves true _⟩
  | holdRelease => exact ⟨_, rfl, (Part.setHold_moves false _).tail (.transmit _)⟩
  | characterReceived c => exact ⟨_, rfl, (Part.settleLine_moves _).trans (Part.character_moves c _)⟩
  | lineIdleCharacterTime => exact ⟨_, rfl, (Part.settleLine_moves _).tail (.port _ _ rfl rfl)⟩
  | receiverLightChange p lit => exact ⟨_, rfl, (Relation.ReflTransGen.single (.light p _)).tail (.lightChange p lit _)⟩
  | wordClockEdge => exact ⟨_, rfl, (Relation.ReflTransGen.single (.clockWindow _)).tail (.clockEdge _)⟩
  | _ => exact ⟨_, rfl, Part.submit_moves _ _ _⟩

/-- A fact that every move keeps is kept by every step of the machine. -/
theorem step_keeps {I : Part → Prop} (kept : ∀ x y, Part.Move x y → I x → I y) (s t : State) (hs : I s.part)
    (h : step s = .next t) : I t.part := by
  unfold step at h
  split at h
  · cases h; exact hs
  · obtain ⟨y, result, moves⟩ := exec_moves _ _
    rw [result] at h
    cases h
    exact moves.keep kept hs

end Sys2Proof.Machine
end

section
/-!
PROOFS. The stages of a sample event, field by field: what each stage gives a block, and what it leaves. Together with the
stages of Laws/SampleWork this reads every block of the part after the whole event.
-/

namespace Sys2Proof.Machine

/-! ### The ports read -/

@[simp] theorem Part.takePorts_dsc (i) (x : Part) : (x.takePorts i).dsc = x.dsc := rfl
@[simp] theorem Part.takePorts_scu (i) (x : Part) : (x.takePorts i).scu = x.scu := rfl
@[simp] theorem Part.takePorts_api (i) (x : Part) : (x.takePorts i).api = x.api := rfl
@[simp] theorem Part.takePorts_pa (i) (x : Part) : (x.takePorts i).pa = x.pa := rfl
@[simp] theorem Part.takePorts_pb (i) (x : Part) : (x.takePorts i).pb = x.pb := rfl
@[simp] theorem Part.takePorts_pair (i) (x : Part) : (x.takePorts i).pair = x.pair := rfl
@[simp] theorem Part.takePorts_fmu (i) (x : Part) : (x.takePorts i).fmu = x.fmu := rfl
@[simp] theorem Part.takePorts_ple (i) (x : Part) : (x.takePorts i).ple = x.ple := rfl
@[simp] theorem Part.takePorts_chs (i) (x : Part) : (x.takePorts i).chs = x.chs := rfl
@[simp] theorem Part.takePorts_mxe (i) (x : Part) : (x.takePorts i).mxe = x.mxe := rfl
@[simp] theorem Part.takePorts_tka (i) (x : Part) : (x.takePorts i).tka = x.tka := rfl
@[simp] theorem Part.takePorts_mtu (i) (x : Part) : (x.takePorts i).mtu = x.mtu := rfl
@[simp] theorem Part.takePorts_mirror (i) (x : Part) : (x.takePorts i).mirror = x.mirror := rfl
@[simp] theorem Part.takePorts_cmp (i) (x : Part) : (x.takePorts i).cmp = x.cmp := rfl

/-! ### The timers -/

/-- The device state controller after the timers: the wake timer counts in WAKING. -/
theorem Part.wakeTick_eq (x : Part) :
    x.wakeTick = { x with dsc := if x.dsc.opState = .waking then { x.dsc with wakeTimer := x.dsc.wakeTimer - 1 } else x.dsc } := by
  unfold Part.wakeTick; split <;> rfl

theorem Part.timers_dsc (x : Part) :
    x.timers.dsc = if x.dsc.opState = .waking then { x.dsc with wakeTimer := x.dsc.wakeTimer - 1 } else x.dsc := by
  unfold Part.timers; rw [Part.wakeTick_eq]; dsimp only; split <;> split <;> rfl

@[simp] theorem Part.timers_scu (x : Part) : x.timers.scu = x.scu.tick := by
  unfold Part.timers; rw [Part.wakeTick_eq]; dsimp only; split <;> rfl

theorem Part.timers_pa (x : Part) : x.timers.pa = x.pa.tick x.dsc.opState := by
  unfold Part.timers; rw [Part.wakeTick_eq]; dsimp only; split <;> split <;> rfl

theorem Part.timers_pb (x : Part) : x.timers.pb = x.pb.tick x.dsc.opState := by
  unfold Part.timers; rw [Part.wakeTick_eq]; dsimp only; split <;> split <;> rfl

/-- What the timers leave. -/
theorem Part.timers_stands (x : Part) :
    x.timers.api = x.api ∧ x.timers.pair = x.pair ∧ x.timers.fmu = x.fmu ∧ x.timers.mxe = x.mxe ∧ x.timers.mtu = x.mtu ∧
    x.timers.mirror = x.mirror ∧ x.timers.cmp = x.cmp ∧ x.timers.bus = x.bus := by
  unfold Part.timers; rw [Part.wakeTick_eq]; dsimp only; split <;> exact ⟨rfl, rfl, rfl, rfl, rfl, rfl, rfl, rfl⟩

@[simp] theorem Part.timers_api (x : Part) : x.timers.api = x.api := x.timers_stands.1
@[simp] theorem Part.timers_pair (x : Part) : x.timers.pair = x.pair := x.timers_stands.2.1
@[simp] theorem Part.timers_fmu (x : Part) : x.timers.fmu = x.fmu := x.timers_stands.2.2.1
@[simp] theorem Part.timers_mxe (x : Part) : x.timers.mxe = x.mxe := x.timers_stands.2.2.2.1
@[simp] theorem Part.timers_mtu (x : Part) : x.timers.mtu = x.mtu := x.timers_stands.2.2.2.2.1
@[simp] theorem Part.timers_mirror (x : Part) : x.timers.mirror = x.mirror := x.timers_stands.2.2.2.2.2.1
@[simp] theorem Part.timers_cmp (x : Part) : x.timers.cmp = x.cmp := x.timers_stands.2.2.2.2.2.2.1
@[simp] theorem Part.timers_bus (x : Part) : x.timers.bus = x.bus := x.timers_stands.2.2.2.2.2.2.2

theorem Part.timers_role (x : Part) : x.timers.dsc.role = x.dsc.role := by
  rw [Part.timers_dsc]; split <;> rfl

theorem Part.timers_opState (x : Part) : x.timers.dsc.opState = x.dsc.opState := by
  rw [Part.timers_dsc]; split <;> rfl

/-- At STAGE the walk and phantom timers of every channel count, and the latch timers; at DESK neither stands live. -/
theorem Part.timers_chs (x : Part) :
    x.timers.chs = match x.dsc.role with
      | .stage => { x.chs with channels := x.chs.channels.map fun c => c.walkTick.phantomTick }
      | .desk => x.chs := by
  unfold Part.timers; rw [Part.wakeTick_eq]
  by_cases w : x.dsc.opState = .waking <;> cases h : x.dsc.role <;> simp only [w, h, if_true, if_false] <;> rfl

theorem Part.timers_tka (x : Part) :
    x.timers.tka = match x.dsc.role with
      | .stage => x.latchTicks.tka
      | .desk => x.tka := by
  unfold Part.timers; rw [Part.wakeTick_eq]
  by_cases w : x.dsc.opState = .waking <;> cases h : x.dsc.role <;> simp only [w, h, if_true, if_false] <;> rfl

/-- The resend timer counts with the link up and the lane not quiet (R71). -/
theorem Part.timers_ple (x : Part) : x.timers.ple = x.ple.timerTick (x.fmu.link.up && !x.quiet) := by
  unfold Part.timers; rw [Part.wakeTick_eq]; dsimp only
  split <;> (simp only [Part.onPle, Part.quiet]; split <;> rfl)

/-! ### Conditioning, lane and playout -/

@[simp] theorem Part.stageCondition_desk (x : Part) (h : x.dsc.role = .desk) : x.stageCondition = x := by
  unfold Part.stageCondition; rw [h]

theorem Part.stageCondition_stage (x : Part) (h : x.dsc.role = .stage) : x.stageCondition = x.condition := by
  unfold Part.stageCondition; rw [h]

/-- What the conditioning leaves: all but the channels and the conditioned samples. -/
theorem Part.stageCondition_stands (x : Part) :
    x.stageCondition = { x with chs := x.stageCondition.chs, bus := { x.bus with conditioned := x.stageCondition.bus.conditioned } } := by
  unfold Part.stageCondition; split <;> rfl

@[simp] theorem Part.stageCondition_dsc (x : Part) : x.stageCondition.dsc = x.dsc := by rw [Part.stageCondition_stands]
@[simp] theorem Part.stageCondition_scu (x : Part) : x.stageCondition.scu = x.scu := by rw [Part.stageCondition_stands]
@[simp] theorem Part.stageCondition_api (x : Part) : x.stageCondition.api = x.api := by rw [Part.stageCondition_stands]
@[simp] theorem Part.stageCondition_pa (x : Part) : x.stageCondition.pa = x.pa := by rw [Part.stageCondition_stands]
@[simp] theorem Part.stageCondition_pb (x : Part) : x.stageCondition.pb = x.pb := by rw [Part.stageCondition_stands]
@[simp] theorem Part.stageCondition_pair (x : Part) : x.stageCondition.pair = x.pair := by rw [Part.stageCondition_stands]
@[simp] theorem Part.stageCondition_fmu (x : Part) : x.stageCondition.fmu = x.fmu := by rw [Part.stageCondition_stands]
@[simp] theorem Part.stageCondition_ple (x : Part) : x.stageCondition.ple = x.ple := by rw [Part.stageCondition_stands]
@[simp] theorem Part.stageCondition_mxe (x : Part) : x.stageCondition.mxe = x.mxe := by rw [Part.stageCondition_stands]
@[simp] theorem Part.stageCondition_tka (x : Part) : x.stageCondition.tka = x.tka := by rw [Part.stageCondition_stands]
@[simp] theorem Part.stageCondition_mtu (x : Part) : x.stageCondition.mtu = x.mtu := by rw [Part.stageCondition_stands]
@[simp] theorem Part.stageCondition_mirror (x : Part) : x.stageCondition.mirror = x.mirror := by rw [Part.stageCondition_stands]
@[simp] theorem Part.stageCondition_cmp (x : Part) : x.stageCondition.cmp = x.cmp := by rw [Part.stageCondition_stands]
@[simp] theorem Part.stageCondition_mic (x : Part) : x.stageCondition.bus.mic = x.bus.mic := by rw [Part.stageCondition_stands]
@[simp] theorem Part.stageCondition_talkIn (x : Part) : x.stageCondition.bus.talkIn = x.bus.talkIn := by
  rw [Part.stageCondition_stands]
@[simp] theorem Part.stageCondition_syms (x : Part) : x.stageCondition.bus.syms = x.bus.syms := by
  rw [Part.stageCondition_stands]
@[simp] theorem Part.stageCondition_cellIn (x : Part) : x.stageCondition.bus.cellIn = x.bus.cellIn := by
  rw [Part.stageCondition_stands]

/-- The lane gives its symbols: the rest of the part stands. -/
theorem Part.takeLane_stands (x : Part) :
    x.takeLane = { x with ple := x.takeLane.ple, bus := { x.bus with syms := x.takeLane.bus.syms } } := by
  unfold Part.takeLane; split <;> rfl

@[simp] theorem Part.takeLane_dsc (x : Part) : x.takeLane.dsc = x.dsc := by rw [Part.takeLane_stands]
@[simp] theorem Part.takeLane_scu (x : Part) : x.takeLane.scu = x.scu := by rw [Part.takeLane_stands]
@[simp] theorem Part.takeLane_api (x : Part) : x.takeLane.api = x.api := by rw [Part.takeLane_stands]
@[simp] theorem Part.takeLane_pa (x : Part) : x.takeLane.pa = x.pa := by rw [Part.takeLane_stands]
@[simp] theorem Part.takeLane_pb (x : Part) : x.takeLane.pb = x.pb := by rw [Part.takeLane_stands]
@[simp] theorem Part.takeLane_pair (x : Part) : x.takeLane.pair = x.pair := by rw [Part.takeLane_stands]
@[simp] theorem Part.takeLane_fmu (x : Part) : x.takeLane.fmu = x.fmu := by rw [Part.takeLane_stands]
@[simp] theorem Part.takeLane_chs (x : Part) : x.takeLane.chs = x.chs := by rw [Part.takeLane_stands]
@[simp] theorem Part.takeLane_mxe (x : Part) : x.takeLane.mxe = x.mxe := by rw [Part.takeLane_stands]
@[simp] theorem Part.takeLane_tka (x : Part) : x.takeLane.tka = x.tka := by rw [Part.takeLane_stands]
@[simp] theorem Part.takeLane_mtu (x : Part) : x.takeLane.mtu = x.mtu := by rw [Part.takeLane_stands]
@[simp] theorem Part.takeLane_mirror (x : Part) : x.takeLane.mirror = x.mirror := by rw [Part.takeLane_stands]
@[simp] theorem Part.takeLane_cmp (x : Part) : x.takeLane.cmp = x.cmp := by rw [Part.takeLane_stands]
@[simp] theorem Part.takeLane_mic (x : Part) : x.takeLane.bus.mic = x.bus.mic := by rw [Part.takeLane_stands]
@[simp] theorem Part.takeLane_talkIn (x : Part) : x.takeLane.bus.talkIn = x.bus.talkIn := by rw [Part.takeLane_stands]
@[simp] theorem Part.takeLane_conditioned (x : Part) : x.takeLane.bus.conditioned = x.bus.conditioned := by
  rw [Part.takeLane_stands]
@[simp] theorem Part.takeLane_cellIn (x : Part) : x.takeLane.bus.cellIn = x.bus.cellIn := by rw [Part.takeLane_stands]

@[simp] theorem Part.playout_pair (e) (x : Part) : (x.playout e).pair = x.pair :=
  (congrArg Part.pair (x.playout_sans e) :)
@[simp] theorem Part.playout_cmp (e) (x : Part) : (x.playout e).cmp = x.cmp :=
  (congrArg Part.cmp (x.playout_sans e) :)

/-! ### Meters, sending, ports and preamps -/

/-- The meters: the rest of the part stands. -/
theorem Part.meters_stands (e) (x : Part) :
    x.meters e = { x with mtu := (x.meters e).mtu, bus := { x.bus with cellOut := (x.meters e).bus.cellOut } } := by
  unfold Part.meters; dsimp only; repeat' split
  all_goals rfl

@[simp] theorem Part.meters_dsc (e) (x : Part) : (x.meters e).dsc = x.dsc := by rw [Part.meters_stands]
@[simp] theorem Part.meters_scu (e) (x : Part) : (x.meters e).scu = x.scu := by rw [Part.meters_stands]
@[simp] theorem Part.meters_api (e) (x : Part) : (x.meters e).api = x.api := by rw [Part.meters_stands]
@[simp] theorem Part.meters_pa (e) (x : Part) : (x.meters e).pa = x.pa := by rw [Part.meters_stands]
@[simp] theorem Part.meters_pb (e) (x : Part) : (x.meters e).pb = x.pb := by rw [Part.meters_stands]
@[simp] theorem Part.meters_pair (e) (x : Part) : (x.meters e).pair = x.pair := by rw [Part.meters_stands]
@[simp] theorem Part.meters_fmu (e) (x : Part) : (x.meters e).fmu = x.fmu := by rw [Part.meters_stands]
@[simp] theorem Part.meters_ple (e) (x : Part) : (x.meters e).ple = x.ple := by rw [Part.meters_stands]
@[simp] theorem Part.meters_chs (e) (x : Part) : (x.meters e).chs = x.chs := by rw [Part.meters_stands]
@[simp] theorem Part.meters_mxe (e) (x : Part) : (x.meters e).mxe = x.mxe := by rw [Part.meters_stands]
@[simp] theorem Part.meters_tka (e) (x : Part) : (x.meters e).tka = x.tka := by rw [Part.meters_stands]
@[simp] theorem Part.meters_mirror (e) (x : Part) : (x.meters e).mirror = x.mirror := by rw [Part.meters_stands]
@[simp] theorem Part.meters_cmp (e) (x : Part) : (x.meters e).cmp = x.cmp := by rw [Part.meters_stands]
@[simp] theorem Part.meters_mic (e) (x : Part) : (x.meters e).bus.mic = x.bus.mic := by rw [Part.meters_stands]
@[simp] theorem Part.meters_talkIn (e) (x : Part) : (x.meters e).bus.talkIn = x.bus.talkIn := by rw [Part.meters_stands]
@[simp] theorem Part.meters_conditioned (e) (x : Part) : (x.meters e).bus.conditioned = x.bus.conditioned := by
  rw [Part.meters_stands]
@[simp] theorem Part.meters_played (e) (x : Part) : (x.meters e).bus.played = x.bus.played := by rw [Part.meters_stands]
@[simp] theorem Part.meters_mixOut (e) (x : Part) : (x.meters e).bus.mixOut = x.bus.mixOut := by rw [Part.meters_stands]
@[simp] theorem Part.meters_cueSlot (e) (x : Part) : (x.meters e).bus.cueSlot = x.bus.cueSlot := by rw [Part.meters_stands]
@[simp] theorem Part.meters_syms (e) (x : Part) : (x.meters e).bus.syms = x.bus.syms := by rw [Part.meters_stands]

/-- The ports and the preamp record sent: the rest of the part stands. -/
theorem Part.outputs_stands (x : Part) : x.placePorts.sendPreamp = { x with api := x.placePorts.sendPreamp.api } := by
  unfold Part.sendPreamp Part.placePorts; split <;> (dsimp only; split <;> rfl)

@[simp] theorem Part.outputs_dsc (x : Part) : x.placePorts.sendPreamp.dsc = x.dsc := by rw [Part.outputs_stands]
@[simp] theorem Part.outputs_scu (x : Part) : x.placePorts.sendPreamp.scu = x.scu := by rw [Part.outputs_stands]
@[simp] theorem Part.outputs_pa (x : Part) : x.placePorts.sendPreamp.pa = x.pa := by rw [Part.outputs_stands]
@[simp] theorem Part.outputs_pb (x : Part) : x.placePorts.sendPreamp.pb = x.pb := by rw [Part.outputs_stands]
@[simp] theorem Part.outputs_pair (x : Part) : x.placePorts.sendPreamp.pair = x.pair := by rw [Part.outputs_stands]
@[simp] theorem Part.outputs_fmu (x : Part) : x.placePorts.sendPreamp.fmu = x.fmu := by rw [Part.outputs_stands]
@[simp] theorem Part.outputs_ple (x : Part) : x.placePorts.sendPreamp.ple = x.ple := by rw [Part.outputs_stands]
@[simp] theorem Part.outputs_chs (x : Part) : x.placePorts.sendPreamp.chs = x.chs := by rw [Part.outputs_stands]
@[simp] theorem Part.outputs_mxe (x : Part) : x.placePorts.sendPreamp.mxe = x.mxe := by rw [Part.outputs_stands]
@[simp] theorem Part.outputs_tka (x : Part) : x.placePorts.sendPreamp.tka = x.tka := by rw [Part.outputs_stands]
@[simp] theorem Part.outputs_mtu (x : Part) : x.placePorts.sendPreamp.mtu = x.mtu := by rw [Part.outputs_stands]
@[simp] theorem Part.outputs_mirror (x : Part) : x.placePorts.sendPreamp.mirror = x.mirror := by rw [Part.outputs_stands]
@[simp] theorem Part.outputs_cmp (x : Part) : x.placePorts.sendPreamp.cmp = x.cmp := by rw [Part.outputs_stands]
@[simp] theorem Part.outputs_bus (x : Part) : x.placePorts.sendPreamp.bus = x.bus := by rw [Part.outputs_stands]

/-! ### The whole event -/

/-- The part as the frame of a sample event is composed from it. -/
def Part.atCompose (i : SampleInput) (x : Part) : Part :=
  ((((x.takePorts i).timers.stageCondition.takeLane.playout i.expiryFirst).stageWork).meters i.emitFirst)

theorem Part.sampleWork_eq (i : SampleInput) (x : Part) : x.sampleWork i = (x.atCompose i).sendFrame.placePorts.sendPreamp := rfl

theorem Part.sampleWork_pa (i) (x : Part) :
    (x.sampleWork i).pa = (x.pa.tick x.dsc.opState).transmit (x.atCompose i).compose := by
  rw [Part.sampleWork_eq, Part.outputs_pa]
  show (x.atCompose i).pa.transmit _ = _
  rw [show (x.atCompose i).pa = x.pa.tick x.dsc.opState by simp [Part.atCompose, Part.timers_pa]]

theorem Part.sampleWork_pb (i) (x : Part) :
    (x.sampleWork i).pb = (x.pb.tick x.dsc.opState).transmit (x.atCompose i).compose := by
  rw [Part.sampleWork_eq, Part.outputs_pb]
  show (x.atCompose i).pb.transmit _ = _
  rw [show (x.atCompose i).pb = x.pb.tick x.dsc.opState by simp [Part.atCompose, Part.timers_pb]]

/-- The merge unit after a sample event: one playout, its concealment, and the next transmit sequence. -/
theorem Part.sampleWork_fmu (i) (x : Part) :
    (x.sampleWork i).fmu =
      { (x.fmu.playout.2.concealed x.fmu.playout.1).2 with
        txSeq := inc16 (x.fmu.playout.2.concealed x.fmu.playout.1).2.txSeq } := by
  rw [Part.sampleWork_eq, Part.outputs_fmu]
  show ({ (x.atCompose i).fmu with txSeq := inc16 (x.atCompose i).fmu.txSeq } : Fmu) = _
  rw [show (x.atCompose i).fmu = (x.fmu.playout.2.concealed x.fmu.playout.1).2 by
    simp [Part.atCompose, Part.playout_fmu]]

theorem Part.sampleWork_dsc (i) (x : Part) :
    (x.sampleWork i).dsc =
      if x.dsc.opState = .waking then { x.dsc with wakeTimer := x.dsc.wakeTimer - 1 } else x.dsc := by
  rw [Part.sampleWork_eq, Part.outputs_dsc]
  show (x.atCompose i).dsc = _
  simp only [Part.atCompose, Part.meters_dsc, Part.stageWork_dsc, Part.playout_dsc, Part.takeLane_dsc,
    Part.stageCondition_dsc, Part.timers_dsc]
  rfl

theorem Part.sampleWork_role (i) (x : Part) : (x.sampleWork i).dsc.role = x.dsc.role := by
  rw [Part.sampleWork_dsc]; split <;> rfl

theorem Part.sampleWork_scu (i) (x : Part) : (x.sampleWork i).scu = x.scu.tick := by
  rw [Part.sampleWork_eq, Part.outputs_scu]
  show (x.atCompose i).scu = _
  simp [Part.atCompose]

theorem Part.sampleWork_mirror (i) (x : Part) : (x.sampleWork i).mirror = x.mirror := by
  rw [Part.sampleWork_eq, Part.outputs_mirror]
  show (x.atCompose i).mirror = _
  simp [Part.atCompose]

end Sys2Proof.Machine
end

section
/-!
PROOFS. The link invariant (R55, R57): every report of the paths gives the link state and the reference the values the usable
paths ask for, and what is no report leaves the usable paths, the link state and the reference.
-/

namespace Sys2Proof.Machine

/-! ### What the invariant reads -/

/-- The usable judgements, the link state and the reference. -/
def Part.linkView (x : Part) : Bool × Bool × LinkState × Option Path :=
  (x.pa.usable, x.pb.usable, x.fmu.link, x.fmu.ref)

theorem Part.path_usable (x : Part) (p : Path) :
    (x.path p).usable = match p with
      | .a => x.linkView.1
      | .b => x.linkView.2.1 := by
  cases p <;> rfl

/-- Parts of one view meet the invariant together. -/
theorem Part.LinkInv.of_view {x y : Part} (h : y.linkView = x.linkView) (hx : x.LinkInv) : y.LinkInv := by
  have ea : y.pa.usable = x.pa.usable := congrArg Prod.fst h
  have eb : y.pb.usable = x.pb.usable := congrArg (fun v => v.2.1) h
  have el : y.fmu.link = x.fmu.link := congrArg (fun v => v.2.2.1) h
  have er : y.fmu.ref = x.fmu.ref := congrArg (fun v => v.2.2.2) h
  obtain ⟨protect, exposed, up, usable⟩ := hx
  refine ⟨by rw [el, ea, eb]; exact protect, by rw [el, ea, eb]; exact exposed, by rw [el, er]; exact up, fun p hp => ?_⟩
  have kept := usable p (er ▸ hp)
  rw [Part.path_usable] at kept ⊢
  rw [h]
  exact kept

theorem Part.linkView_of_sans {x y : Part} (h : x.sansTables = y.sansTables) : x.linkView = y.linkView :=
  (congrArg Part.linkView h :)

/-! ### A report gives the invariant -/

/-- The link state that the usable judgements give. -/
theorem linkOf_spec (old : LinkState) (a b : Bool) :
    (linkOf old a b = .protect ↔ (a = true ∧ b = true)) ∧ (linkOf old a b = .exposed ↔ a ≠ b) ∧
    (linkOf old a b).up = (a || b) := by
  cases old <;> cases a <;> cases b <;> decide

/-- A path in service is usable. -/
theorem PathCtl.usable_of_inService (c : PathCtl) (h : (c.state == .inService) = true) : c.usable = true := by
  unfold PathCtl.usable; rw [h]; rfl

/-- A reference is chosen exactly when a path is usable, and it is a usable path. -/
theorem chooseRef_spec (a b : PathCtl) (pair : PairCfg) (cur : Option Path) :
    (chooseRef a b pair cur).isSome = (a.usable || b.usable) ∧
    (chooseRef a b pair cur = some .a → a.usable = true) ∧ (chooseRef a b pair cur = some .b → b.usable = true) := by
  have sa := a.usable_of_inService
  have sb := b.usable_of_inService
  unfold chooseRef
  cases hp : pair.preferred <;> rcases cur with _ | (_ | _) <;> dsimp only [otherPath] <;> grind

/-- The values the FMU takes at a report meet the invariant. -/
theorem Part.fmuAfter_linkInv (new : Option Path) (x y : Part) (ha : y.pa = x.pa) (hb : y.pb = x.pb)
    (hf : y.fmu = x.fmuAfter new) : y.LinkInv := by
  obtain ⟨protect, exposed, up⟩ := linkOf_spec x.fmu.link x.pa.usable x.pb.usable
  obtain ⟨chosen, isA, isB⟩ := chooseRef_spec x.pa x.pb x.pair x.fmu.ref
  unfold Part.LinkInv Part.path
  rw [ha, hb, hf]
  refine ⟨protect, exposed, chosen.trans up.symm, fun p hp => ?_⟩
  cases p
  · exact isA hp
  · exact isB hp

theorem Part.report_linkInv (old x : Part) : (x.report old).LinkInv := by
  obtain ⟨ha, hb, hf⟩ := Part.report_fields old x
  exact Part.fmuAfter_linkInv _ _ _ ha hb hf

theorem Part.changePath_linkInv (p : Path) (f : PathCtl → PathCtl) (x : Part) : (x.changePath p f).LinkInv :=
  Part.report_linkInv ..

/-- With both paths out of use and the link down there is nothing to agree on. -/
theorem Part.linkInv_of_down (x : Part) (ha : x.pa.usable = false) (hb : x.pb.usable = false) (down : x.fmu.link.up = false)
    (noRef : x.fmu.ref = none) : x.LinkInv := by
  unfold Part.LinkInv
  rw [ha, hb, noRef]
  cases h : x.fmu.link <;> simp_all [LinkState.up]

/-! ### What leaves the view -/

theorem Part.onPath_view (p : Path) (f : PathCtl → PathCtl) (x : Part) (h : (f (x.path p)).usable = (x.path p).usable) :
    (x.onPath p f).linkView = x.linkView := by
  cases p <;> simp only [Part.linkView, Part.onPath] <;> (unfold Part.path at h; rw [h])

@[simp] theorem Part.onPle_view (f) (x : Part) : (x.onPle f).linkView = x.linkView := rfl
@[simp] theorem Part.onCmp_view (f) (x : Part) : (x.onCmp f).linkView = x.linkView := rfl
@[simp] theorem Part.notify_view (n) (x : Part) : (x.notify n).linkView = x.linkView := rfl
@[simp] theorem Part.answer_view (t c) (x : Part) : (x.answer t c).linkView = x.linkView := rfl
@[simp] theorem Part.reply_view (t c b) (x : Part) : (x.reply t c b).linkView = x.linkView := rfl

@[simp] theorem Part.entryReply_view (t c) (x : Part) : (x.entryReply t c).linkView = x.linkView := by
  unfold Part.entryReply; split <;> rfl

@[simp] theorem Part.closeSession_view (s r c) (x : Part) : (x.closeSession s r c).linkView = x.linkView :=
  Part.linkView_of_sans (Part.closeSession_sans ..)

@[simp] theorem Part.dumpStart_view (x : Part) : x.dumpStart.linkView = x.linkView :=
  Part.linkView_of_sans (Part.dumpStart_sans ..)

@[simp] theorem Part.mirrorTo_view (st) (x : Part) : (x.mirrorTo st).linkView = x.linkView := by
  unfold Part.mirrorTo; dsimp only; split <;> rfl

@[simp] theorem Part.farFlag_view (a b) (x : Part) : (x.farFlag a b).linkView = x.linkView := by
  unfold Part.farFlag Part.farRestart Part.restartHandling Part.endEpisode; dsimp only; repeat' split
  all_goals simp

@[simp] theorem Part.answerHeldLink_view (c) (x : Part) : (x.answerHeldLink c).linkView = x.linkView := by
  unfold Part.answerHeldLink; split <;> rfl

@[simp] theorem Part.answerHeldState_view (c) (x : Part) : (x.answerHeldState c).linkView = x.linkView := by
  unfold Part.answerHeldState; split <;> rfl

@[simp] theorem Part.restartAcked_view (x : Part) : x.restartAcked.linkView = x.linkView := by
  unfold Part.restartAcked; dsimp only; split <;> simp <;> rfl

@[simp] theorem Part.serviceFlags_view (f) (x : Part) : (x.serviceFlags f).linkView = x.linkView := by
  unfold Part.serviceFlags; dsimp only; split <;> simp

@[simp] theorem Part.linkReset_view (t) (x : Part) : (x.linkReset t).linkView = x.linkView := by
  unfold Part.linkReset; dsimp only; split <;> simp <;> rfl

/-- Placing an arrival leaves the link state and the reference. -/
theorem Fmu.place_link (p : Path) (f : Frame) (fm : Fmu) : (fm.place p f).link = fm.link ∧ (fm.place p f).ref = fm.ref := by
  unfold Fmu.place Fmu.countDup; dsimp only; repeat' split
  all_goals exact ⟨rfl, rfl⟩

theorem Part.onFmu_view (f : Fmu → Fmu) (x : Part) (h : (f x.fmu).link = x.fmu.link ∧ (f x.fmu).ref = x.fmu.ref) :
    (x.onFmu f).linkView = x.linkView := by
  simp only [Part.linkView, Part.onFmu]; rw [h.1, h.2]

theorem Part.takeReAnchor_view (x : Part) : x.takeReAnchor.linkView = x.linkView := by
  unfold Part.takeReAnchor; split
  · exact Part.onFmu_view _ x (Fmu.place_link _ _ _)
  · rfl

@[simp] theorem Part.judgeArrival_view (p f d) (x : Part) : (x.judgeArrival p f d).linkView = x.linkView := by
  unfold Part.judgeArrival; repeat' split
  · exact Part.onPath_view _ _ x rfl
  · cases p <;> rfl
  · exact Part.onFmu_view _ x (Fmu.place_link _ _ _)

@[simp] theorem Part.arrive_view (p f) (x : Part) : (x.arrive p f).2.linkView = x.linkView := by
  have reCount (k : Nat) (r : Option (Path × Frame)) (y : Part) :
      (y.onFmu fun fm => { fm with reCount := k, reArrival := r }).linkView = y.linkView := rfl
  unfold Part.arrive Part.refArrival; dsimp only; repeat' split
  · exact Part.onFmu_view _ x (Fmu.place_link _ _ _)
  all_goals first
    | rfl
    | exact Part.judgeArrival_view ..

/-! ### Every move keeps the invariant -/

theorem Part.linkInv_goodFrame (p : Path) (f : Frame) (x : Part) (h : x.LinkInv) : (x.goodFrame p f).LinkInv := by
  have count (g : PathCtl → PathCtl) (keeps : ∀ c, (g c).usable = c.usable) : (x.onPath p g).LinkInv :=
    h.of_view (Part.onPath_view _ _ x (keeps _))
  have used : (x.usableFrame p f).LinkInv := by
    have quietView : (x.onPath p fun c => { c with silenceTimer := 0 }).linkView = x.linkView := Part.onPath_view _ _ x rfl
    unfold Part.usableFrame Part.offerFull
    dsimp only
    repeat' split
    · exact Part.changePath_linkInv ..
    all_goals exact h.of_view (by simpa using quietView)
  unfold Part.goodFrame
  split
  · exact h
  · exact h
  · exact h
  · split
    · exact count _ fun _ => rfl
    · unfold Part.identFrame
      split
      · exact Part.changePath_linkInv ..
      · exact count _ fun _ => rfl
    · unfold Part.alignFrame
      dsimp only
      repeat' split
      · exact h
      · exact Part.changePath_linkInv ..
      all_goals exact h.of_view (by simp)
    · exact h
  · exact used
  · exact used

theorem PathCtl.badFrame_usable (c : PathCtl) : c.badFrame.usable = c.usable := by
  unfold PathCtl.badFrame; split <;> rfl

theorem Part.linkInv_frame (p : Path) (bits : List Bool) (x : Part) (h : x.LinkInv) : (x.frame p bits).LinkInv := by
  unfold Part.frame
  split
  · exact Part.linkInv_goodFrame _ _ _ h
  · exact h.of_view (Part.onPath_view _ _ x (PathCtl.badFrame_usable _))

/-- A record the lane delivers leaves the paths and the link. -/
theorem Part.takeRecord_view (x : Part) : x.takeRecord.linkView = x.linkView := by
  have notice (n : Notice) (y : Part) : (y.echoNotice n).linkView = y.linkView := by
    unfold Part.echoNotice; split <;> rfl
  have applied (msg : LaneMsg) (y : Part) : (y.applyMsg msg).linkView = y.linkView := by
    cases msg with
    | update u => exact Part.linkView_of_sans (Part.applyUpdate_sans u y)
    | dumpBegin => exact Part.mirrorTo_view _ y
    | refused id why n => rfl
    | _ =>
      simp only [Part.applyMsg, Part.echoedChannel, Part.echoedMix, Part.echoedContrib, Part.echoedTalk, Part.echoedCfg,
        Part.echoedLock, Part.deskPhantomDone, Part.dumpEnded]
      (repeat' split) <;> (try simp only [notice]) <;> rfl
  have judged (r : RawRecord) (y : Part) : (y.judgeRecord r).linkView = y.linkView := by
    unfold Part.judgeRecord; dsimp only; repeat' split
    all_goals simp [applied]
  unfold Part.takeRecord
  split
  · rfl
  · simp [judged]

/-- STANDBY takes every path out of use. -/
theorem PathCtl.standby_usable (c : PathCtl) : c.standby.usable = false := by
  rw [PathCtl.standby_eq]
  unfold PathCtl.usable
  dsimp only
  split <;> rfl

/-- STANDBY entry of the paths leaves the link down and no path in use. -/
theorem Part.linkInv_pathsStandby (x : Part) : x.pathsStandby.LinkInv := by
  have clock (y : Part) : y.clockFollow.linkView = y.linkView := by
    unfold Part.clockFollow; split <;> rfl
  have change (old : LinkState) (y : Part) : (y.linkChanged old).linkView = y.linkView := by
    obtain ⟨ha, hb, hf⟩ := Part.linkChanged_fields old y
    simp only [Part.linkView]; rw [ha, hb, hf]
  have told (p : Path) (old y : Part) : (Part.notifyPath p y old).linkView = y.linkView := by
    obtain ⟨ha, hb, hf, -⟩ := Part.notifyPath_fields p old y
    simp only [Part.linkView]; rw [ha, hb, hf]
  have entered (y u : Part) : (((Part.notifyPath .b (Part.notifyPath .a
      ({ y with pa := y.pa.standby, pb := y.pb.standby } : Part) u) u)).onFmu Fmu.standby).LinkInv := by
    obtain ⟨a1, a2, -⟩ := Part.notifyPath_fields .a u ({ y with pa := y.pa.standby, pb := y.pb.standby } : Part)
    obtain ⟨b1, b2, -⟩ := Part.notifyPath_fields .b u
      (Part.notifyPath .a ({ y with pa := y.pa.standby, pb := y.pb.standby } : Part) u)
    refine Part.linkInv_of_down _ ?_ ?_ rfl rfl
    · rw [Part.onFmu_pa, b1, a1]; exact y.pa.standby_usable
    · rw [Part.onFmu_pb, b2, a2]; exact y.pb.standby_usable
  have down := entered x.standbyAligns x.standbyAligns
  unfold Part.pathsStandby
  dsimp only
  split
  · exact down.of_view (clock _)
  · exact down.of_view (by rw [change, clock, Part.notify_view])

theorem Part.linkInv_standbyEntry (x : Part) : x.standbyEntry.LinkInv := by
  have paths := Part.linkInv_pathsStandby (x.setOp .standby 0)
  unfold Part.standbyEntry
  dsimp only
  split
  · exact paths
  · refine paths.of_view (Part.linkView_of_sans ?_)
    rw [Part.talkStandby_sans, Part.mastersEval_sans, Part.channelsStandby_sans]

theorem Part.refreshPreamps_view (x : Part) : x.refreshPreamps.linkView = x.linkView := by
  unfold Part.refreshPreamps; split <;> rfl

/-- OPERATE entry leaves the paths' states. -/
theorem Part.operateEntry_view (x : Part) : x.operateEntry.linkView = x.linkView := by
  have op (c : PathCtl) : c.operate.usable = c.usable := by unfold PathCtl.operate; split <;> rfl
  have paths : (x.setOp .operate 0).pathsOperate.linkView = x.linkView := by
    simp only [Part.pathsOperate, Part.linkView, op]; rfl
  unfold Part.operateEntry
  dsimp only
  split
  · exact paths
  · rw [← paths]
    refine Part.linkView_of_sans ?_
    rw [Part.mastersEval_sans, Part.channelsOperate_sans]

/-- RESET_SOFT leaves the paths out of use and the link down. -/
theorem Part.linkInv_softBlocks (x : Part) : x.softBlocks.LinkInv := by
  have soft (c : PathCtl) : c.soft.usable = false := by
    unfold PathCtl.soft PathCtl.usable; dsimp only; split <;> rfl
  have blocks (y : Part) (ha : y.pa = x.pa.soft) (hb : y.pb = x.pb.soft) (hl : y.fmu.link = .offline)
      (hr : y.fmu.ref = none) : y.refreshPreamps.LinkInv :=
    (Part.linkInv_of_down y (by rw [ha, soft]) (by rw [hb, soft]) (by rw [hl]; rfl) hr).of_view (Part.refreshPreamps_view y)
  unfold Part.softBlocks
  dsimp only
  split <;> exact blocks _ rfl rfl rfl rfl

theorem Part.linkInv_setState (tag t : Nat) (x : Part) (h : x.LinkInv) : (x.setState tag t).LinkInv := by
  unfold Part.setState
  split
  · exact h
  · exact h.of_view ((Part.refreshPreamps_view _).trans rfl)
  · exact Part.linkInv_standbyEntry _
  · exact h
  · exact (Part.linkInv_standbyEntry x).of_view rfl
  · exact h

theorem Part.linkInv_act (tag : Nat) (r : Request) (x : Part) (h : x.LinkInv) : (x.act tag r).LinkInv := by
  cases r with
  | setState t => exact Part.linkInv_setState tag t x h
  | resetSoft => exact (Part.linkInv_softBlocks _).of_view rfl
  | linkReset =>
    unfold Part.act Part.askLinkReset
    dsimp only
    split
    · exact h
    · exact h.of_view (Part.linkReset_view _ _)
  | setPath n f =>
    unfold Part.act Part.askSetPath
    dsimp only
    split
    · refine Part.LinkInv.of_view (Part.answer_view _ _ _) ?_
      unfold Part.setPath
      dsimp only
      split
      · exact h
      · exact Part.report_linkInv ..
    · exact h
  | getPath n =>
    unfold Part.act Part.askGetPath
    dsimp only
    split <;> exact h
  | setPlayout d =>
    unfold Part.act Part.askPlayout
    dsimp only
    split <;> exact h
  | setClock n =>
    unfold Part.act Part.setClock
    dsimp only
    split <;> exact h
  | setNoticeMask m =>
    unfold Part.act Part.askMask
    dsimp only
    split <;> exact h
  | getMix m =>
    unfold Part.act Part.askGetMix Part.clearClip
    dsimp only
    split <;> exact h
  | update u =>
    unfold Part.act Part.askUpdate
    dsimp only
    split
    · unfold Part.forward
      (repeat' split) <;> exact h
    · exact h.of_view ((Part.linkView_of_sans (Part.doUpdate_sans .host .host u x) :))
  | _ => exact h

theorem Part.linkInv_carryOut (r : HostRequest) (x : Part) (h : x.LinkInv) : (x.carryOut r).LinkInv := by
  unfold Part.carryOut
  split
  · exact h
  · exact Part.linkInv_act _ _ _ h

/-- A sample event leaves the paths' states, the link state and the reference. -/
theorem Part.sampleWork_view (i : SampleInput) (x : Part) : (x.sampleWork i).linkView = x.linkView := by
  have sent (f : Frame) (op : OpState) (c : PathCtl) : ((c.tick op).transmit f).usable = c.usable := by
    unfold PathCtl.transmit; split <;> rfl
  have played : (x.fmu.playout.2.concealed x.fmu.playout.1).2.link = x.fmu.link ∧
      (x.fmu.playout.2.concealed x.fmu.playout.1).2.ref = x.fmu.ref := by
    unfold Fmu.playout; split <;> exact ⟨rfl, rfl⟩
  simp only [Part.linkView, Part.sampleWork_pa, Part.sampleWork_pb, Part.sampleWork_fmu, sent, played.1, played.2]

/-- Every move keeps the link invariant. -/
theorem Part.Move.linkInv (x y : Part) (move : Part.Move x y) (h : x.LinkInv) : y.LinkInv := by
  cases move with
  | reAnchor => exact h.of_view x.takeReAnchor_view
  | lock p =>
    unfold Part.takeLock
    dsimp only
    split
    · exact h.of_view (Part.onPath_view _ _ x rfl)
    · exact h
  | ident p =>
    unfold Part.takeIdent
    dsimp only
    split
    · exact Part.changePath_linkInv ..
    · exact h
  | light p =>
    unfold Part.takeLight
    split
    · exact Part.changePath_linkInv ..
    · exact h
  | silence p =>
    unfold Part.takeSilence
    split
    · exact Part.changePath_linkInv ..
    · exact h
  | stall p =>
    unfold Part.takeStall
    dsimp only
    have kept := Part.onPath_view p
      (fun c => { c with step := .lock, count := 0, stepTimer := 0, identFlags := none, stallReported := true }) x rfl
    repeat' split
    · exact h.of_view kept
    · exact h.of_view kept
    · exact h
  | errors p =>
    unfold Part.takeErrors
    split
    · exact Part.changePath_linkInv ..
    · exact h
  | recovered p =>
    unfold Part.takeRecovered
    split
    · exact Part.changePath_linkInv ..
    · exact h
  | burst p =>
    unfold Part.takeBurst
    split
    · exact h.of_view (Part.onPath_view _ _ x rfl)
    · exact h
  | cycle p =>
    unfold Part.takeCycle
    split
    · exact h.of_view (Part.onPath_view _ _ x rfl)
    · exact h
  | frame p bits => exact Part.linkInv_frame p bits x h
  | lightChange p lit => exact h.of_view (Part.onPath_view _ _ x rfl)
  | record => exact h.of_view x.takeRecord_view
  | tailEnd => exact h
  | goBack => exact h
  | clockWindow =>
    unfold Part.takeClockWindow
    dsimp only
    (repeat' split) <;> exact h
  | qualified =>
    unfold Part.takeQualified
    split <;> exact h
  | clockEdge =>
    unfold Part.clockEdge
    split <;> exact h
  | wake =>
    unfold Part.takeWake
    split
    · exact h.of_view ((Part.answerHeldState_view _ _).trans x.operateEntry_view)
    · exact h
  | walk n => exact h.of_view (Part.linkView_of_sans (x.takeWalkStep_sans n))
  | rise n => exact h.of_view (Part.linkView_of_sans (x.takeRiseEnd_sans n))
  | fall n => exact h.of_view (Part.linkView_of_sans (x.takeFallEnd_sans n))
  | freed m r => exact h.of_view (Part.linkView_of_sans (x.takeFreed_sans m r))
  | leaving m => exact h.of_view (Part.linkView_of_sans (x.takeLeavingEnd_sans m))
  | arriving m => exact h.of_view (Part.linkView_of_sans (x.takeArrivingEnd_sans m))
  | fadeEnd d => exact h.of_view (Part.linkView_of_sans (x.takeFadeEnd_sans d))
  | limit s => exact h.of_view (Part.linkView_of_sans (x.takeLatchedLimit_sans s))
  | port f => exact h
  | entry tag code => exact h.of_view (Part.entryReply_view _ _ _)
  | carry r => exact Part.linkInv_carryOut r x h
  | transmit =>
    unfold Part.takeTransmit
    dsimp only
    (repeat' split) <;> exact h
  | sample i => exact h.of_view (x.sampleWork_view i)
  | restart st pin => exact Part.linkInv_of_down _ rfl rfl rfl rfl
  | pin => exact Part.LinkInv.of_view (x := x) rfl h

/-- Settles O54: every move keeps the invariant, so every step does. -/
theorem linkInvariantKept : Obligations.LinkInvariantKept :=
  step_keeps Part.Move.linkInv

end Sys2Proof.Machine
end

section
/-!
PROOFS. Frames of the channel and mix operations, and which moves reach the tables: `sansChannels` erases what a channel operation
writes, `sansMixes` what a mix operation writes. A move leaves the stock of the tables, or it is one of the moves that reach them.
-/

namespace Sys2Proof.Machine

/-! ### Channel operations -/

/-- The part without what a channel operation writes: channels, preamp records, lane and notices. -/
def Part.sansChannels (x : Part) : Part :=
  { x with api := default, chs := default, ple := default, cmp := x.cmp.sansNotices }

@[simp] theorem Part.onChannel_sansC (n f) (x : Part) : (x.onChannel n f).sansChannels = x.sansChannels := rfl
@[simp] theorem Part.preamp_sansC (n) (x : Part) : (x.preamp n).sansChannels = x.sansChannels := rfl
@[simp] theorem Part.leaveQueue_sansC (n) (x : Part) : (x.leaveQueue n).sansChannels = x.sansChannels := rfl
@[simp] theorem Part.evalCond_sansC (n) (x : Part) : (x.evalCond n).sansChannels = x.sansChannels := rfl
@[simp] theorem Part.withChs_sansC (x : Part) (t : Chs) : ({ x with chs := t } : Part).sansChannels = x.sansChannels := rfl
@[simp] theorem Part.withPle_sansC (x : Part) (t : Ple) : ({ x with ple := t } : Part).sansChannels = x.sansChannels := rfl

@[simp] theorem Part.notify_sansC (n) (x : Part) : (x.notify n).sansChannels = x.sansChannels := by
  simp [Part.notify, Part.sansChannels, Cmp.notify_sans]

@[simp] theorem Part.echo_sansC (t) (x : Part) : (x.echo t).sansChannels = x.sansChannels := by
  obtain ⟨l, h⟩ := x.echo_eq t
  rw [h]; rfl

@[simp] theorem Part.channelVersion_sansC (n c) (x : Part) : (x.channelVersion n c).sansChannels = x.sansChannels := by
  simp [Part.channelVersion]

@[simp] theorem Part.phantomDone_sansC (n c) (x : Part) : (x.phantomDone n c).sansChannels = x.sansChannels := by
  simp [Part.phantomDone]

@[simp] theorem Part.setPhantom_sansC (n st t) (x : Part) : (x.setPhantom n st t).sansChannels = x.sansChannels := by
  obtain ⟨a, h⟩ := Part.setPhantom_eq n st t x
  rw [h]; rfl

@[simp] theorem Part.startRise_sansC (n) (x : Part) : (x.startRise n).sansChannels = x.sansChannels :=
  Part.setPhantom_sansC ..

@[simp] theorem Part.startFall_sansC (n) (x : Part) : (x.startFall n).sansChannels = x.sansChannels :=
  Part.setPhantom_sansC ..

@[simp] theorem Part.offerPhantom_sansC (n) (x : Part) : (x.offerPhantom n).sansChannels = x.sansChannels := by
  unfold Part.offerPhantom; dsimp only; split <;> simp

@[simp] theorem Part.promote_sansC (x : Part) : x.promote.sansChannels = x.sansChannels := by
  unfold Part.promote; split <;> simp

@[simp] theorem Part.applyPhantom_sansC (n on) (x : Part) : (x.applyPhantom n on).sansChannels = x.sansChannels := by
  unfold Part.applyPhantom Part.phantomOn Part.phantomOff; dsimp only; repeat' split
  all_goals simp

@[simp] theorem Part.takeRiseEnd_sansC (n) (x : Part) : (x.takeRiseEnd n).sansChannels = x.sansChannels := by
  unfold Part.takeRiseEnd; split <;> simp

@[simp] theorem Part.takeFallEnd_sansC (n) (x : Part) : (x.takeFallEnd n).sansChannels = x.sansChannels := by
  unfold Part.takeFallEnd; repeat' split
  all_goals simp

@[simp] theorem Part.takeWalkStep_sansC (n) (x : Part) : (x.takeWalkStep n).sansChannels = x.sansChannels := by
  unfold Part.takeWalkStep; repeat' split
  all_goals simp

@[simp] theorem Part.channelsStandby_sansC (x : Part) : x.channelsStandby.sansChannels = x.sansChannels := by
  have fallen (y : Part) (n : Nat) : (y.fallStandby n).sansChannels = y.sansChannels := by
    unfold Part.fallStandby; split <;> simp
  have left (y : Part) (n : Nat) : (y.dequeueStandby n).sansChannels = y.sansChannels := by
    simp [Part.dequeueStandby]
  unfold Part.channelsStandby; dsimp only
  rw [foldl_keeps Part.sansChannels _ (fun _ _ => Part.evalCond_sansC ..), foldl_keeps Part.sansChannels _ fallen,
    foldl_keeps Part.sansChannels _ left]

@[simp] theorem Part.channelsOperate_sansC (x : Part) : x.channelsOperate.sansChannels = x.sansChannels := by
  unfold Part.channelsOperate; dsimp only
  rw [foldl_keeps Part.sansChannels _ (fun a b => by split <;> simp),
    foldl_keeps Part.sansChannels _ (fun _ _ => Part.evalCond_sansC ..)]

@[simp] theorem Part.applyChannel_sansC (n f c) (x : Part) : (x.applyChannel n f c).2.sansChannels = x.sansChannels := by
  unfold Part.applyChannel Part.writePhantom Part.writeMute Part.writePolarity Part.writePad Part.writeGain
  dsimp only; repeat' split
  all_goals simp

@[simp] theorem Part.applyLock_sansC (f) (x : Part) : (x.applyLock f).sansChannels = x.sansChannels := by
  unfold Part.applyLock; dsimp only; split <;> simp

/-! ### Mix operations -/

/-- The part without what a mix operation writes: mixes, talk, lane and notices. -/
def Part.sansMixes (x : Part) : Part :=
  { x with mxe := default, tka := default, ple := default, cmp := x.cmp.sansNotices }

@[simp] theorem Part.onMix_sansM (n f) (x : Part) : (x.onMix n f).sansMixes = x.sansMixes := rfl
@[simp] theorem Part.withMxe_sansM (x : Part) (t : Mxe) : ({ x with mxe := t } : Part).sansMixes = x.sansMixes := rfl

/-- What the tables and the stock both leave, a mix operation leaves. -/
theorem Part.sansMixes_of {x y : Part} (sans : y.sansTables = x.sansTables) (stock : y.stock = x.stock) :
    y.sansMixes = x.sansMixes := by
  have hapi : y.api = x.api := congrArg (fun v => v.2.1) stock
  have hchs : y.chs = x.chs := congrArg (fun v => v.2.2.1) stock
  have back := congrArg (fun z : Part => { z with api := x.api, chs := x.chs }) sans
  calc y.sansMixes = { y.sansTables with api := y.api, chs := y.chs } := rfl
    _ = { x.sansTables with api := x.api, chs := x.chs } := by rw [hapi, hchs]; exact back
    _ = x.sansMixes := rfl

@[simp] theorem Part.notify_sansM (n) (x : Part) : (x.notify n).sansMixes = x.sansMixes := by
  simp [Part.notify, Part.sansMixes, Cmp.notify_sans]

@[simp] theorem Part.echo_sansM (t) (x : Part) : (x.echo t).sansMixes = x.sansMixes := by
  obtain ⟨l, h⟩ := x.echo_eq t
  rw [h]; rfl

@[simp] theorem Part.maskChanged_sansM (d) (x : Part) : (x.maskChanged d).sansMixes = x.sansMixes :=
  Part.sansMixes_of (x.maskChanged_sans d) (x.maskChanged_stock d)

@[simp] theorem Part.mixVersion_sansM (m c) (x : Part) : (x.mixVersion m c).sansMixes = x.sansMixes := by
  simp [Part.mixVersion]

@[simp] theorem Part.contribVersion_sansM (m rs c) (x : Part) : (x.contribVersion m rs c).sansMixes = x.sansMixes := by
  have each (y : Part) (r : SrcRef) : (Part.contribNotice m c y r).sansMixes = y.sansMixes := by
    simp [Part.contribNotice]
  unfold Part.contribVersion
  rw [foldl_keeps Part.sansMixes _ each]; rfl

@[simp] theorem Part.applyMix_sansM (m f c) (x : Part) : (x.applyMix m f c).2.sansMixes = x.sansMixes := by
  unfold Part.applyMix; dsimp only; repeat' split
  all_goals simp

@[simp] theorem Part.applyPut_sansM (m r k c) (x : Part) : (x.applyPut m r k c).2.sansMixes = x.sansMixes := by
  unfold Part.applyPut; dsimp only; repeat' split
  all_goals simp

@[simp] theorem Part.applyDrop_sansM (m r c) (x : Part) : (x.applyDrop m r c).2.sansMixes = x.sansMixes := by
  unfold Part.applyDrop; split <;> simp

@[simp] theorem Part.applyClear_sansM (m c) (x : Part) : (x.applyClear m c).2.sansMixes = x.sansMixes := by
  unfold Part.applyClear; split <;> simp

@[simp] theorem Part.takeFreed_sansM (m r) (x : Part) : (x.takeFreed m r).sansMixes = x.sansMixes := by
  unfold Part.takeFreed; repeat' split
  all_goals rfl

@[simp] theorem Part.takeLeavingEnd_sansM (m) (x : Part) : (x.takeLeavingEnd m).sansMixes = x.sansMixes := by
  unfold Part.takeLeavingEnd; split <;> simp

@[simp] theorem Part.takeArrivingEnd_sansM (m) (x : Part) : (x.takeArrivingEnd m).sansMixes = x.sansMixes := by
  unfold Part.takeArrivingEnd; split <;> simp

/-! ### Records and requests -/

/-- A house-bound record is no update. -/
theorem echoOfKind_ne_update (k : Nat) (bytes : List Nat) (u : Update) : echoOfKind k bytes ≠ some (.update u) := by
  intro h
  unfold echoOfKind at h
  split at h <;> simp [Option.bind_eq_some_iff] at h

/-- What a house-bound record applied may write: the mirror, the notices and the count of free values. -/
theorem Part.applyMsg_house (msg : LaneMsg) (x : Part) (house : ∀ u, msg ≠ .update u) :
    x.applyMsg msg =
      { x with mirror := (x.applyMsg msg).mirror, cmp := (x.applyMsg msg).cmp, bus := (x.applyMsg msg).bus } := by
  cases msg with
  | update u => exact absurd rfl (house u)
  | dumpBegin => unfold Part.applyMsg Part.mirrorTo; dsimp only; split <;> rfl
  | refused id why n => rfl
  | _ =>
    simp only [Part.applyMsg, Part.echoedChannel, Part.echoedMix, Part.echoedContrib, Part.echoedTalk, Part.echoedCfg,
      Part.echoedLock, Part.deskPhantomDone, Part.dumpEnded, Part.echoNotice]
    (repeat' split) <;> rfl

/-- A complete record: at STAGE it may be an update with its identifiers in range, and is then applied; otherwise the lane, the
mirror, the notices and the count of free values take it. -/
theorem Part.takeRecord_cases (x : Part) :
    (∃ l u, x.dsc.role = .stage ∧ u.identOk .desk = true ∧
      l.queue = x.ple.queue ∧ l.nextSeq = x.ple.nextSeq ∧
      x.takeRecord = ({ x with ple := l } : Part).applyUpdate u) ∨
    (x.takeRecord.ple.queue = x.ple.queue ∧ x.takeRecord.ple.nextSeq = x.ple.nextSeq ∧
      x.takeRecord = { x with
        ple := x.takeRecord.ple, mirror := x.takeRecord.mirror, cmp := x.takeRecord.cmp, bus := x.takeRecord.bus }) := by
  unfold Part.takeRecord
  split
  · exact .inr ⟨rfl, rfl, rfl⟩
  · next r rest waits =>
    unfold Part.judgeRecord
    dsimp only
    split
    · exact .inr ⟨rfl, rfl, rfl⟩
    · split
      · split
        · next msg fits =>
          cases role : x.dsc.role with
          | stage =>
            have update : updateRecord r.kind r.bytes = some msg := by
              simpa [readRecord, role] using fits
            unfold updateRecord at update
            split at update
            · split at update
              · next u _ ok =>
                cases update
                exact .inl ⟨{ x.ple with done := rest, expSeq := inc8 x.ple.expSeq }, u, rfl, ok, rfl, rfl, rfl⟩
              · cases update
            · cases update
          | desk =>
            have echoed : echoOfKind r.kind r.bytes = some msg := by simpa [readRecord, role] using fits
            have house := Part.applyMsg_house msg
              ((x.onPle fun l => { l with done := rest }).onPle fun l => { l with expSeq := inc8 l.expSeq })
              fun u hu => echoOfKind_ne_update _ _ u (hu ▸ echoed)
            refine .inr ⟨?_, ?_, ?_⟩ <;> (rw [house]; rfl)
        · exact .inr ⟨rfl, rfl, rfl⟩
      · split <;> exact .inr ⟨rfl, rfl, rfl⟩

/-- Clamping leaves the identifiers. -/
theorem Update.clamp_identOk (role : Role) (u : Update) : u.clamp.identOk role = u.identOk role := by
  cases u <;> rfl

/-- A request carried out: answered by a check, an update of the STAGE end with its identifiers in range, or another action. -/
theorem Part.carryOut_cases (r : HostRequest) (x : Part) :
    (∃ code, x.carryOut r = x.answer r.tag code) ∨
    (∃ u code, x.dsc.role = .stage ∧ r.req = .update u ∧ u.identOk .stage = true ∧
      x.carryOut r = (x.doUpdate .host .host u.clamp).2.answer r.tag code) ∨
    ((∀ u, r.req = .update u → x.dsc.role = .desk) ∧ x.carryOut r = x.act r.tag r.req.clamp) := by
  unfold Part.carryOut
  split
  · exact .inl ⟨_, rfl⟩
  · next passes =>
    cases h : r.req with
    | update u =>
      cases role : x.dsc.role with
      | desk => exact .inr (.inr ⟨fun _ _ => rfl, rfl⟩)
      | stage =>
        refine .inr (.inl ⟨u, _, rfl, rfl, ?_, by unfold Part.act Part.askUpdate Request.clamp; rw [role]⟩)
        unfold Part.refusal at passes
        rw [h, role] at passes
        by_contra bad
        have range : Request.identOk .stage (.update u) = false := by simpa [Request.identOk] using bad
        rw [range] at passes
        split at passes
        · cases passes
        · simp at passes
    | _ => exact .inr (.inr ⟨nofun, rfl⟩)

/-- The DESK end forwards an update: the lane and the replies take it. -/
theorem Part.askUpdate_desk (tag : Nat) (u : Update) (x : Part) (desk : x.dsc.role = .desk) :
    ∃ q code, x.askUpdate tag u = ({ x with ple := { x.ple with queue := q } } : Part).answer tag code := by
  unfold Part.askUpdate Part.forward
  rw [desk]
  dsimp only
  repeat' split
  · exact ⟨_, _, rfl⟩
  · exact ⟨_, _, rfl⟩
  · exact ⟨_, _, rfl⟩

/-! ### Which moves reach the tables -/

/-- The moves that reach the stage tables. -/
inductive Part.TableMove : Part → Part → Prop
  | update (l : Ple) (u : Update) (x : Part) (stage : x.dsc.role = .stage) (ok : u.identOk .desk = true) :
      TableMove x (({ x with ple := l } : Part).applyUpdate u)
  | wake (x : Part) : TableMove x x.takeWake
  | walk (n : Nat) (x : Part) : TableMove x (x.takeWalkStep n)
  | rise (n : Nat) (x : Part) : TableMove x (x.takeRiseEnd n)
  | fall (n : Nat) (x : Part) : TableMove x (x.takeFallEnd n)
  | freed (m : Nat) (r : SrcRef) (x : Part) : TableMove x (x.takeFreed m r)
  | leaving (m : Nat) (x : Part) : TableMove x (x.takeLeavingEnd m)
  | arriving (m : Nat) (x : Part) : TableMove x (x.takeArrivingEnd m)
  | host (tag : Nat) (code : ReplyCode) (u : Update) (x : Part) (stage : x.dsc.role = .stage)
      (ok : u.identOk .stage = true) : TableMove x ((x.doUpdate .host .host u.clamp).2.answer tag code)
  | setState (tag t : Nat) (x : Part) : TableMove x (x.setState tag t)
  | resetSoft (tag : Nat) (x : Part) : TableMove x (x.resetSoft tag)
  | getMix (tag m : Nat) (x : Part) : TableMove x (x.askGetMix tag m)
  | sample (i : SampleInput) (x : Part) : TableMove x (x.sampleWork i)
  | restart (st : Straps) (pin : Bool) (x : Part) : TableMove x (x.restart st pin)

theorem Part.act_stock_or (tag : Nat) (r : Request) (x : Part) (desk : ∀ u, r = .update u → x.dsc.role = .desk) :
    (x.act tag r).stock = x.stock ∨ Part.TableMove x (x.act tag r) := by
  cases r with
  | setState t => exact .inr (.setState tag t x)
  | resetSoft => exact .inr (.resetSoft tag x)
  | getMix m => exact .inr (.getMix tag m x)
  | update u =>
    obtain ⟨q, code, h⟩ := x.askUpdate_desk tag u (desk u rfl)
    exact .inl (by show (x.askUpdate tag u).stock = _; rw [h]; rfl)
  | linkReset =>
    unfold Part.act Part.askLinkReset
    dsimp only
    split <;> exact .inl (by simp)
  | setPath n f =>
    unfold Part.act Part.askSetPath
    dsimp only
    split <;> exact .inl (by simp)
  | getPath n =>
    unfold Part.act Part.askGetPath
    dsimp only
    split <;> exact .inl (by simp)
  | setPlayout d =>
    unfold Part.act Part.askPlayout
    dsimp only
    split <;> exact .inl (by simp)
  | setClock n =>
    unfold Part.act Part.setClock Part.notifyClock
    dsimp only
    split <;> exact .inl (by simp)
  | setNoticeMask m =>
    unfold Part.act Part.askMask
    dsimp only
    split <;> exact .inl (by simp)
  | _ => exact .inl rfl

/-- A move leaves the stock of the tables, or it is one of the moves that reach them. -/
theorem Part.Move.stock_or_table {x y : Part} (move : Part.Move x y) : y.stock = x.stock ∨ Part.TableMove x y := by
  cases move with
  | wake => exact .inr (.wake x)
  | walk n => exact .inr (.walk n x)
  | rise n => exact .inr (.rise n x)
  | fall n => exact .inr (.fall n x)
  | freed m r => exact .inr (.freed m r x)
  | leaving m => exact .inr (.leaving m x)
  | arriving m => exact .inr (.arriving m x)
  | sample i => exact .inr (.sample i x)
  | restart st pin => exact .inr (.restart st pin x)
  | record =>
    obtain ⟨l, u, stage, ok, -, -, h⟩ | ⟨-, -, h⟩ := x.takeRecord_cases
    · exact .inr (h ▸ .update l u x stage ok)
    · exact .inl (by rw [h]; rfl)
  | carry r =>
    obtain ⟨code, h⟩ | ⟨u, code, stage, -, ok, h⟩ | ⟨desk, h⟩ := x.carryOut_cases r
    · exact .inl (by rw [h]; rfl)
    · exact .inr (h ▸ .host _ _ u x stage ok)
    · rw [h]
      refine Part.act_stock_or _ _ x fun u hu => ?_
      cases hr : r.req with
      | update v => exact desk v hr
      | _ => rw [hr] at hu; cases hu
  | frame p bits => exact .inl (Part.frame_stock ..)
  | lightChange p lit => exact .inl (Part.onPath_stock ..)
  | fadeEnd d => exact .inl (Part.takeFadeEnd_stock ..)
  | limit s => exact .inl (Part.takeLatchedLimit_stock ..)
  | tailEnd => exact .inl rfl
  | goBack => exact .inl rfl
  | port f => exact .inl rfl
  | pin => exact .inl rfl
  | entry tag code => unfold Part.entryReply; split <;> exact .inl rfl
  | transmit => unfold Part.takeTransmit; dsimp only; (repeat' split) <;> exact .inl rfl
  | clockWindow => unfold Part.takeClockWindow; dsimp only; (repeat' split) <;> exact .inl rfl
  | qualified => unfold Part.takeQualified; split <;> exact .inl rfl
  | clockEdge => unfold Part.clockEdge; split <;> exact .inl rfl
  | reAnchor => unfold Part.takeReAnchor; split <;> exact .inl rfl
  | lock p => unfold Part.takeLock; dsimp only; split <;> exact .inl (by simp)
  | ident p => unfold Part.takeIdent; dsimp only; split <;> exact .inl (by simp)
  | light p => unfold Part.takeLight; split <;> exact .inl (by simp)
  | silence p => unfold Part.takeSilence; split <;> exact .inl (by simp)
  | stall p => unfold Part.takeStall; dsimp only; (repeat' split) <;> exact .inl (by simp)
  | errors p => unfold Part.takeErrors; split <;> exact .inl (by simp)
  | recovered p => unfold Part.takeRecovered; split <;> exact .inl (by simp)
  | burst p => unfold Part.takeBurst; split <;> exact .inl (by simp)
  | cycle p => unfold Part.takeCycle; split <;> exact .inl (by simp)

end Sys2Proof.Machine
end

section
/-!
PROOFS. The contribution pool (R110): the free entries and the lists of all mixes number 384. Only PUT_CONTRIB enters a contribution
and only CONTRIB_FREED takes one out; each changes one list and the free count together.
-/

namespace Sys2Proof.Machine

/-! ### What the invariant reads -/

/-- The source references of a mix's list. -/
def Mix.refs (m : Mix) : List SrcRef :=
  m.contribs.map fun c => c.ref

/-- The free count and the source references of every mix's list. -/
def Part.poolView (x : Part) : Nat × List (List SrcRef) :=
  (x.mxe.free, x.mxe.mixes.map Mix.refs)

/-- The pool invariant of a view. -/
def poolOk (v : Nat × List (List SrcRef)) : Prop :=
  v.2.length = 16 ∧ v.1 + (v.2.map List.length).sum = 384 ∧ ∀ l ∈ v.2, l.length ≤ 48 ∧ l.Nodup

theorem Part.poolInv_iff (x : Part) : x.PoolInv ↔ poolOk x.poolView := by
  have sizes : (x.mxe.mixes.map Mix.refs).map List.length = x.mxe.mixes.map fun m => m.contribs.length := by
    rw [List.map_map]; exact List.map_congr_left fun m _ => List.length_map ..
  unfold Part.PoolInv poolOk Part.poolView
  simp only [List.length_map, List.forall_mem_map, sizes, Mix.refs]

theorem Part.poolView_of_stock {x y : Part} (h : y.stock = x.stock) : y.poolView = x.poolView := by
  have refs (z : Part) : z.poolView = (z.stock.2.2.2.1, z.stock.2.2.2.2.map Mix.refs) := by
    simp only [Part.poolView, Part.stock, List.map_map]; rfl
  rw [refs, refs, h]

theorem Part.poolView_of_sansC {x y : Part} (h : y.sansChannels = x.sansChannels) : y.poolView = x.poolView :=
  (congrArg Part.poolView h :)

theorem Part.onMix_pool (n : Nat) (f : Mix → Mix) (x : Part) (h : ∀ m, (f m).refs = m.refs) :
    (x.onMix n f).poolView = x.poolView := by
  show (_, List.map Mix.refs (updAt n f x.mxe.mixes)) = _
  rw [map_updAt Mix.refs f h]; rfl

@[simp] theorem Part.mixVersion_pool (m c) (x : Part) : (x.mixVersion m c).poolView = x.poolView := by
  have echoed (y : Part) (t : Target) : (y.echo t).poolView = y.poolView := Part.poolView_of_stock (Part.echo_stock ..)
  show (Part.echo _ _).poolView = _
  rw [echoed]
  exact Part.onMix_pool m _ x fun _ => rfl

@[simp] theorem Part.contribVersion_pool (m rs c) (x : Part) : (x.contribVersion m rs c).poolView = x.poolView := by
  have each (y : Part) (r : SrcRef) : (Part.contribNotice m c y r).poolView = y.poolView :=
    Part.poolView_of_stock (by simp [Part.contribNotice])
  unfold Part.contribVersion
  rw [foldl_keeps Part.poolView _ each]
  exact Part.onMix_pool m _ x fun _ => rfl

/-! ### The edits that leave every list -/

theorem Mix.evalContribs_refs (m : Mix) : m.evalContribs.refs = m.refs := by
  simp only [Mix.refs, Mix.evalContribs, List.map_map]; rfl

theorem Mix.write_refs (op : OpState) (f : MixSet) (m : Mix) : (m.write op f).refs = m.refs := by
  have offset (v : Nat) (k : Mix) : (k.writeOffset v).refs = k.refs := by
    unfold Mix.writeOffset
    (repeat' split) <;> first | rfl | exact Mix.evalContribs_refs _
  unfold Mix.write
  dsimp only
  split
  · exact offset _ _
  · rfl

/-- A change of the contributions one by one that keeps their source references keeps the list's. -/
theorem Mix.map_refs (g : Contrib → Contrib) (h : ∀ c, (g c).ref = c.ref) (m : Mix) :
    Mix.refs { m with contribs := m.contribs.map g } = m.refs := by
  simp only [Mix.refs, List.map_map]
  exact List.map_congr_left fun c _ => h c

theorem Mix.onRef_refs (r : SrcRef) (g : Contrib → Contrib) (h : ∀ c, (g c).ref = c.ref) (m : Mix) :
    (m.onRef r g).refs = m.refs :=
  Mix.map_refs _ (fun c => by split <;> simp [h]) m

theorem Part.applyMix_pool (m f c) (x : Part) : (x.applyMix m f c).2.poolView = x.poolView := by
  have judged (y : Part) : (y.maskChanged m).poolView = y.poolView := Part.poolView_of_stock (Part.maskChanged_stock ..)
  have written := Part.onMix_pool m (Mix.write x.dsc.opState f) x (Mix.write_refs _ f)
  unfold Part.applyMix
  dsimp only
  repeat' split
  · rfl
  · rw [Part.mixVersion_pool, judged, written]
  · rw [Part.mixVersion_pool, written]

theorem Part.applyDrop_pool (m r c) (x : Part) : (x.applyDrop m r c).2.poolView = x.poolView := by
  unfold Part.applyDrop
  split
  · rw [Part.contribVersion_pool]
    exact Part.onMix_pool m _ x (Mix.map_refs _ fun c => by split <;> rfl)
  · rfl

theorem Part.applyClear_pool (m c) (x : Part) : (x.applyClear m c).2.poolView = x.poolView := by
  unfold Part.applyClear
  split
  · rfl
  · rw [Part.contribVersion_pool]
    exact Part.onMix_pool m _ x (Mix.map_refs _ fun c => by split <;> rfl)

theorem Part.takeLeavingEnd_pool (m) (x : Part) : (x.takeLeavingEnd m).poolView = x.poolView := by
  unfold Part.takeLeavingEnd
  split
  · rw [Part.mixVersion_pool]
    exact Part.onMix_pool m _ x fun k => Mix.evalContribs_refs _
  · rfl

theorem Part.takeArrivingEnd_pool (m) (x : Part) : (x.takeArrivingEnd m).poolView = x.poolView := by
  unfold Part.takeArrivingEnd
  split
  · rw [Part.mixVersion_pool]
    exact Part.onMix_pool m _ x fun _ => rfl
  · rfl

/-! ### The edits that change a list and the free count -/

/-- A change of one entry moves a sum by the change of that entry. -/
theorem sum_map_updAt {α : Type} (g : α → Nat) (f : α → α) (d : α) (i : Nat) (l : List α) (h : i < l.length) :
    ((updAt i f l).map g).sum + g (l.getD i d) = (l.map g).sum + g (f (l.getD i d)) := by
  induction l generalizing i with
  | nil => simp at h
  | cons a l ih =>
    cases i with
    | zero => simp [updAt]; omega
    | succ i =>
      have rest := ih i (by simpa using h)
      simp only [updAt, List.map_cons, List.sum_cons, List.getD_cons_succ]
      omega

/-- The members of a list with one entry changed. -/
theorem mem_updAt {α : Type} (f : α → α) (d : α) (i : Nat) (l : List α) (a : α) (h : a ∈ updAt i f l) :
    a ∈ l ∨ (i < l.length ∧ a = f (l.getD i d)) := by
  induction l generalizing i with
  | nil => cases i <;> simp [updAt] at h
  | cons b l ih =>
    cases i with
    | zero =>
      simp only [updAt, List.mem_cons] at h
      rcases h with rfl | h
      · exact .inr ⟨by simp, rfl⟩
      · exact .inl (by simp [h])
    | succ i =>
      simp only [updAt, List.mem_cons] at h
      rcases h with rfl | h
      · exact .inl (by simp)
      · rcases ih i h with kept | ⟨lt, eq⟩
        · exact .inl (by simp [kept])
        · exact .inr ⟨by simpa using lt, by simpa using eq⟩

/-- One list and the free count changed together: the pool stays whole. -/
theorem poolOk_updAt (free : Nat) (ls : List (List SrcRef)) (i : Nat) (f : List SrcRef → List SrcRef) (free' : Nat)
    (h : poolOk (free, ls)) (lt : i < ls.length)
    (count : free' + (f (ls.getD i [])).length = free + (ls.getD i []).length)
    (good : (f (ls.getD i [])).length ≤ 48 ∧ (f (ls.getD i [])).Nodup) : poolOk (free', updAt i f ls) := by
  obtain ⟨sixteen, total, lists⟩ := h
  have sum := sum_map_updAt List.length f [] i ls lt
  refine ⟨by simpa using sixteen, by simp only at total ⊢; omega, fun l hl => ?_⟩
  rcases mem_updAt f [] i ls l hl with kept | ⟨-, rfl⟩
  · exact lists l kept
  · exact good

theorem Mix.append_refs (c : Contrib) (m : Mix) : Mix.refs { m with contribs := m.contribs ++ [c] } = m.refs ++ [c.ref] :=
  List.map_append ..

theorem Mix.eraseIdx_refs (j : Nat) (m : Mix) :
    Mix.refs { m with contribs := m.contribs.eraseIdx j } = m.refs.eraseIdx j :=
  (List.eraseIdx_map ..).symm

/-- The references of a mix in the view. -/
theorem Part.poolView_getD (x : Part) (m : Nat) : x.poolView.2.getD m [] = (x.mix m).refs := by
  show (x.mxe.mixes.map Mix.refs).getD m [] = _
  unfold Part.mix
  simp only [List.getD_eq_getElem?_getD, List.getElem?_map]
  cases x.mxe.mixes[m]? <;> rfl

/-- The references of the mixes with one mix changed. -/
theorem map_refs_updAt (m : Nat) (f : Mix → Mix) (g : List SrcRef → List SrcRef) (h : ∀ k, (f k).refs = g k.refs)
    (l : List Mix) : (updAt m f l).map Mix.refs = updAt m g (l.map Mix.refs) := by
  induction l generalizing m with
  | nil => cases m <;> rfl
  | cons a l ih => cases m <;> simp [updAt, h, ih]

/-- A reference that a mix does not hold is not among its references. -/
theorem Mix.find_none (m : Mix) (r : SrcRef) (h : m.find r = none) : r ∉ m.refs := by
  unfold Mix.find at h
  rw [List.find?_eq_none] at h
  intro mem
  obtain ⟨c, hc, rfl⟩ := List.mem_map.mp mem
  exact h c hc (by simp)

theorem Part.applyPut_poolInv (m : Nat) (r : SrcRef) (code : Nat) (cause : ChangeCause) (x : Part) (hm : m ≤ 15)
    (h : x.PoolInv) : (x.applyPut m r code cause).2.PoolInv := by
  rw [Part.poolInv_iff] at h ⊢
  have sixteen : m < x.poolView.2.length := by rw [h.1]; omega
  unfold Part.applyPut
  split
  · next outcome =>
    dsimp only
    rw [Part.contribVersion_pool]
    unfold Part.putOutcome at outcome
    split
    · next absent =>
      simp only [absent] at outcome
      split at outcome
      · cases outcome
      · next room =>
        have entered : (x.mxe.mixes.map Mix.refs).getD m [] = (x.mix m).refs := x.poolView_getD m
        have size : (x.mix m).refs.length = (x.mix m).contribs.length := List.length_map ..
        show poolOk (x.mxe.free - 1, (updAt m _ x.mxe.mixes).map Mix.refs)
        rw [map_refs_updAt m _ (fun l => l ++ [r]) fun k => Mix.append_refs (newContrib k.phase r code) k]
        refine poolOk_updAt x.mxe.free _ m _ _ h sixteen ?_ ?_
        · rw [List.length_append, entered]; simp only [List.length_cons, List.length_nil]; omega
        · obtain ⟨-, -, lists⟩ := h
          have mem : (x.mix m).refs ∈ x.poolView.2 := by
            rw [← x.poolView_getD m, List.getD_eq_getElem _ _ sixteen]; exact List.getElem_mem _
          rw [entered, List.length_append]
          refine ⟨by simp only [List.length_cons, List.length_nil]; omega, ?_⟩
          exact (lists _ mem).2.append (List.nodup_singleton r) (by simpa using (x.mix m).find_none r absent)
    · rw [Part.onMix_pool m _ x fun k => Mix.onRef_refs r (Contrib.put k.phase code) (fun _ => rfl) k]
      exact h
  · exact h

/-- The references of a mix with one entry taken out. -/
theorem Part.takeFreed_poolInv (m : Nat) (r : SrcRef) (x : Part) (h : x.PoolInv) : (x.takeFreed m r).PoolInv := by
  rw [Part.poolInv_iff] at h ⊢
  have position (l : List Contrib) (k j : Nat) (hj : findFrom (fun c : Contrib => c.ref == r) k l = some j) :
      k ≤ j ∧ j < k + l.length := by
    induction l generalizing k with
    | nil => cases hj
    | cons c l ih =>
      simp only [findFrom] at hj
      split at hj
      · cases hj; simp
      · have := ih (k + 1) hj; simp only [List.length_cons]; omega
  unfold Part.takeFreed
  split
  · next c j found index =>
    split
    · have inList : j < (x.mix m).contribs.length := by have := position _ 0 j index; omega
      have inMixes : m < x.mxe.mixes.length := by
        by_contra out
        have empty : x.mix m = Mix.powerOn := List.getD_eq_default _ _ (by omega)
        rw [empty] at inList
        exact absurd inList (by simp [Mix.powerOn])
      have entered : (x.mxe.mixes.map Mix.refs).getD m [] = (x.mix m).refs := x.poolView_getD m
      have size : (x.mix m).refs.length = (x.mix m).contribs.length := List.length_map ..
      have erased : ((x.mix m).refs.eraseIdx j).length = (x.mix m).contribs.length - 1 := by
        rw [List.length_eraseIdx, size, if_pos inList]
      show poolOk (x.mxe.free + 1, (updAt m _ x.mxe.mixes).map Mix.refs)
      rw [map_refs_updAt m _ (fun l => l.eraseIdx j) fun k => Mix.eraseIdx_refs j k]
      refine poolOk_updAt x.mxe.free _ m _ _ h (by simpa using inMixes) ?_ ?_
      · rw [entered, erased, size]; omega
      · obtain ⟨-, -, lists⟩ := h
        have mem : (x.mix m).refs ∈ x.poolView.2 := by
          rw [← x.poolView_getD m, List.getD_eq_getElem _ _ (by simpa [Part.poolView] using inMixes)]
          exact List.getElem_mem _
        rw [entered, erased]
        exact ⟨by have := (lists _ mem).1; omega, (lists _ mem).2.sublist (List.eraseIdx_sublist ..)⟩
    · exact h
  · exact h

/-! ### Every move keeps the pool -/

theorem Part.PoolInv.of_view {x y : Part} (h : y.poolView = x.poolView) (hx : x.PoolInv) : y.PoolInv := by
  rw [Part.poolInv_iff] at hx ⊢; rw [h]; exact hx

theorem Part.poolInv_doUpdate (cc : ChangeCause) (tc : TalkCause) (role : Role) (u : Update) (x : Part)
    (ok : u.identOk role = true) (h : x.PoolInv) : (x.doUpdate cc tc u).2.PoolInv := by
  cases u with
  | setChannel ch f => exact h.of_view (Part.poolView_of_sansC (Part.applyChannel_sansC ..))
  | setMix m f => exact h.of_view (Part.applyMix_pool ..)
  | putContrib m b i code =>
    have hm : m ≤ 15 := by simp only [Update.identOk, Bool.and_eq_true, decide_eq_true_eq] at ok; exact ok.1
    unfold Part.doUpdate
    dsimp only
    split
    · exact Part.applyPut_poolInv _ _ _ _ x hm h
    · exact h
  | dropContrib m b i =>
    unfold Part.doUpdate
    dsimp only
    split
    · exact h.of_view (Part.applyDrop_pool ..)
    · exact h
  | clearMix m => exact h.of_view (Part.applyClear_pool ..)
  | openTalk s pri mode set =>
    unfold Part.doUpdate
    dsimp only
    repeat' split
    · exact h
    · exact h.of_view (Part.poolView_of_stock (Part.talkOpen_stock ..))
    · exact h
  | closeTalk s =>
    unfold Part.doUpdate
    dsimp only
    repeat' split
    · exact h.of_view (Part.poolView_of_stock (Part.closeSession_stock ..))
    · exact h
    · exact h
  | setTalkCfg f => exact h.of_view (Part.poolView_of_stock (Part.applyTalkCfg_stock ..))
  | setLock f => exact h.of_view (Part.poolView_of_sansC (Part.applyLock_sansC ..))

/-- What an update applied from the lane adds to carrying it out: a REFUSED record at most. -/
theorem Part.applyUpdate_eq (u : Update) (x : Part) :
    x.applyUpdate u = (x.doUpdate .lane .lane u.clamp).2 ∨
      ∃ why, x.applyUpdate u = (x.doUpdate .lane .lane u.clamp).2.refuse u why := by
  unfold Part.applyUpdate
  split <;> rename_i e <;> rw [e]
  · exact .inr ⟨_, rfl⟩
  · exact .inr ⟨_, rfl⟩
  · exact .inl rfl

theorem Part.poolInv_applyUpdate (u : Update) (x : Part) (ok : u.identOk .desk = true) (h : x.PoolInv) :
    (x.applyUpdate u).PoolInv := by
  have done := Part.poolInv_doUpdate .lane .lane .desk u.clamp x (by rw [Update.clamp_identOk, ok]) h
  obtain e | ⟨why, e⟩ := x.applyUpdate_eq u
  · rw [e]; exact done
  · rw [e]; exact done.of_view (Part.poolView_of_stock (Part.refuse_stock ..))

theorem Part.mastersEval_pool (x : Part) : x.mastersEval.poolView = x.poolView := by
  show (_, List.map Mix.refs (List.map _ x.mxe.mixes)) = _
  rw [List.map_map]; rfl

theorem Part.standbyEntry_pool (x : Part) : x.standbyEntry.poolView = x.poolView := by
  have paths : (x.setOp .standby 0).pathsStandby.poolView = x.poolView :=
    Part.poolView_of_stock (Part.pathsStandby_stock _)
  unfold Part.standbyEntry
  dsimp only
  split
  · exact paths
  · rw [Part.poolView_of_stock (Part.talkStandby_stock _), Part.mastersEval_pool,
      Part.poolView_of_sansC (Part.channelsStandby_sansC _), paths]

theorem Part.operateEntry_pool (x : Part) : x.operateEntry.poolView = x.poolView := by
  unfold Part.operateEntry
  dsimp only
  split
  · rfl
  · rw [Part.mastersEval_pool, Part.poolView_of_sansC (Part.channelsOperate_sansC _)]; rfl

theorem Part.setState_pool (tag t : Nat) (x : Part) : (x.setState tag t).poolView = x.poolView := by
  have refreshed (y : Part) : y.refreshPreamps.poolView = y.poolView := by
    unfold Part.refreshPreamps; split <;> rfl
  unfold Part.setState
  split
  · rfl
  · exact refreshed _
  · rw [Part.standbyEntry_pool]; exact Part.poolView_of_stock (by simp)
  · rfl
  · exact Part.standbyEntry_pool x
  · rfl

/-- A sample event leaves every list. -/
theorem Part.mixCompute_pool (x : Part) (m : Nat) : (x.mixCompute m).poolView = x.poolView := by
  have list (k : Mix) : k.advance.markPhase.refs = k.refs := by
    simp only [Mix.refs, Mix.markPhase, Mix.advance, List.map_map]; rfl
  have set (k : Mix) (hk : k.refs = (x.mix m).refs) : (x.onMix m fun _ => k).poolView = x.poolView := by
    show (_, List.map Mix.refs (updAt m (fun _ => k) x.mxe.mixes)) = _
    rw [map_refs_updAt m _ (fun _ => (x.mix m).refs) fun _ => hk, ← x.poolView_getD m]
    refine Prod.ext rfl (List.ext_getElem? fun j => ?_)
    rw [updAt_get]
    split
    · next e =>
      subst e
      simp only [Part.poolView, List.getD_eq_getElem?_getD]
      cases (List.map Mix.refs x.mxe.mixes)[j]? <;> rfl
    · rfl
  unfold Part.mixCompute
  dsimp only
  (repeat' split) <;> exact set _ (list _)

theorem Part.sampleWork_pool (i : SampleInput) (x : Part) : (x.sampleWork i).poolView = x.poolView := by
  have work (y : Part) : y.stageWork.poolView = y.poolView := by
    unfold Part.stageWork
    split
    · unfold Part.mixAll
      rw [foldl_keeps Part.poolView _ Part.mixCompute_pool]
      unfold Part.talkSamples
      dsimp only
      split <;> rfl
    · rfl
  have free : (x.sampleWork i).poolView = (x.atCompose i).poolView := by
    simp only [Part.poolView, Part.sampleWork_eq, Part.outputs_mxe]; rfl
  rw [free]
  unfold Part.atCompose
  simp only [Part.poolView, Part.meters_mxe]
  have back := work ((x.takePorts i).timers.stageCondition.takeLane.playout i.expiryFirst)
  simpa [Part.poolView] using back

theorem poolOk_powerOn : poolOk (Mxe.powerOn.free, Mxe.powerOn.mixes.map Mix.refs) := by
  unfold poolOk; decide

theorem Part.poolInv_table {x y : Part} (move : Part.TableMove x y) (h : x.PoolInv) : y.PoolInv := by
  cases move with
  | update l u _ stage ok => exact Part.poolInv_applyUpdate u _ ok (h.of_view (y := { x with ple := l }) rfl)
  | host tag code u _ stage ok =>
    exact (Part.poolInv_doUpdate .host .host .stage u.clamp x (by rw [Update.clamp_identOk, ok]) h).of_view rfl
  | wake =>
    unfold Part.takeWake
    split
    · exact h.of_view ((Part.poolView_of_stock (Part.answerHeldState_stock _ _)).trans x.operateEntry_pool)
    · exact h
  | walk n => exact h.of_view (Part.poolView_of_sansC (Part.takeWalkStep_sansC ..))
  | rise n => exact h.of_view (Part.poolView_of_sansC (Part.takeRiseEnd_sansC ..))
  | fall n => exact h.of_view (Part.poolView_of_sansC (Part.takeFallEnd_sansC ..))
  | freed m r => exact Part.takeFreed_poolInv m r x h
  | leaving m => exact h.of_view (Part.takeLeavingEnd_pool ..)
  | arriving m => exact h.of_view (Part.takeArrivingEnd_pool ..)
  | setState tag t => exact h.of_view (Part.setState_pool ..)
  | getMix tag m =>
    refine h.of_view ?_
    unfold Part.askGetMix Part.clearClip
    split
    · exact Part.onMix_pool m _ x fun _ => rfl
    · rfl
  | resetSoft tag =>
    rw [Part.poolInv_iff]
    have soft (z : Part) : z.softBlocks.poolView = (Mxe.powerOn.free, Mxe.powerOn.mixes.map Mix.refs) := by
      unfold Part.softBlocks Part.refreshPreamps; dsimp only; (repeat' split) <;> rfl
    show poolOk (Part.softBlocks _).poolView
    rw [soft]
    exact poolOk_powerOn
  | sample i => exact h.of_view (Part.sampleWork_pool ..)
  | restart st pin =>
    rw [Part.poolInv_iff]
    exact poolOk_powerOn

/-- Settles O56: a move that leaves the stock of the tables leaves the pool, and each move that reaches them keeps it. -/
theorem poolInvariantKept : Obligations.PoolInvariantKept := by
  refine step_keeps fun x y move h => ?_
  rcases move.stock_or_table with stock | table
  · exact h.of_view (Part.poolView_of_stock stock)
  · exact Part.poolInv_table table h

end Sys2Proof.Machine
end

section
/-!
PROOFS. The inrush limit (R94): at most 6 channels are RISING, and the phantom queue holds exactly the QUEUED channels. Every
operation of the phantom machine sets one channel's state and moves the queue with it; five such changes keep the invariant.
-/

namespace Sys2Proof.Machine

/-! ### What the invariant reads -/

/-- The phantom states of the channels and the phantom queue. -/
def Part.phantomView (x : Part) : List Phantom × List Nat :=
  (x.chs.channels.map fun c => c.phantom, x.chs.phantomQueue)

/-- The phantom invariant of a view. -/
def phantomOk (v : List Phantom × List Nat) : Prop :=
  v.1.length = 64 ∧ v.1.count .rising ≤ 6 ∧ v.2.Nodup ∧ ∀ n, n ∈ v.2 ↔ v.1[n]? = some .queued

theorem Part.rising_eq (x : Part) : x.rising = x.phantomView.1.count .rising := by
  rw [Part.rising, Part.phantomView, List.count, List.countP_map, List.countP_eq_length_filter]; rfl

/-- The phantom state of a channel in the view: where there is no channel, there is none. -/
theorem Part.phantomView_get (x : Part) (n : Nat) (p : Phantom) :
    x.phantomView.1[n]? = some p ↔ n < x.chs.channels.length ∧ (x.channel n).phantom = p := by
  simp only [Part.phantomView, Part.channel, List.getElem?_map, List.getD_eq_getElem?_getD, Option.map_eq_some_iff]
  by_cases lt : n < x.chs.channels.length <;> simp [lt]

/-- A state other than OFF is held by a channel. -/
theorem Part.phantomView_of_channel (x : Part) (n : Nat) (p : Phantom) (h : (x.channel n).phantom = p)
    (notOff : p ≠ .off) : x.phantomView.1[n]? = some p := by
  refine (x.phantomView_get n p).mpr ⟨?_, h⟩
  by_contra out
  have none : x.channel n = Channel.powerOn := List.getD_eq_default _ _ (by omega)
  rw [none] at h
  exact notOff h.symm

theorem Part.phantomInv_iff (x : Part) : x.PhantomInv ↔ phantomOk x.phantomView := by
  unfold Part.PhantomInv phantomOk
  rw [x.rising_eq]
  refine ⟨fun ⟨size, few, once, exact⟩ => ⟨?_, few, once, fun n => ?_⟩, fun ⟨size, few, once, exact⟩ => ?_⟩
  · simpa [Part.phantomView] using size
  · rw [x.phantomView_get n, size]; exact exact n
  · have size : x.chs.channels.length = 64 := by simpa [Part.phantomView] using size
    exact ⟨size, few, once, fun n => by rw [← size, ← x.phantomView_get n]; exact exact n⟩

theorem Part.PhantomInv.of_view {x y : Part} (h : y.phantomView = x.phantomView) (hx : x.PhantomInv) : y.PhantomInv := by
  rw [Part.phantomInv_iff] at hx ⊢; rw [h]; exact hx

/-! ### The changes that keep the invariant -/

/-- One entry set to another value than the one counted: the count falls by the entry it replaces. -/
theorem count_set_ne {α : Type} [DecidableEq α] (a b : α) (hab : a ≠ b) (l : List α) (n : Nat) :
    (l.set n a).count b = l.count b - if l[n]? = some b then 1 else 0 := by
  by_cases lt : n < l.length
  · rw [List.count_set lt]; simp [lt, hab]
  · rw [List.set_eq_of_length_le (by omega), List.getElem?_eq_none (by omega)]; simp

/-- One entry set to the value counted adds at most one. -/
theorem count_set_le {α : Type} [DecidableEq α] (a : α) (l : List α) (n : Nat) :
    (l.set n a).count a ≤ l.count a + 1 := by
  by_cases lt : n < l.length
  · rw [List.count_set lt]; simp only [beq_self_eq_true, if_true]; omega
  · rw [List.set_eq_of_length_le (by omega)]; omega

namespace phantomOk

variable {l : List Phantom} {q : List Nat} {n : Nat} {st : Phantom}

/-- What stands in the queue after a channel outside it takes a state other than QUEUED. -/
theorem queue_set (h : phantomOk (l, q)) (out : l[n]? ≠ some .queued) (st_queued : st ≠ .queued) (k : Nat) :
    k ∈ q ↔ (l.set n st)[k]? = some .queued := by
  rw [h.2.2.2 k, List.getElem?_set]
  by_cases e : n = k
  · subst e
    simp [out, st_queued]
  · simp [e]

/-- A channel outside the queue takes a state that is neither RISING nor QUEUED. -/
theorem set_other (h : phantomOk (l, q)) (out : l[n]? ≠ some .queued) (st_rising : st ≠ .rising)
    (st_queued : st ≠ .queued) : phantomOk (l.set n st, q) := by
  have queue := h.queue_set out st_queued
  obtain ⟨size, few, once, -⟩ := h
  refine ⟨by simpa using size, ?_, once, queue⟩
  have := count_set_ne st .rising st_rising l n
  simp only at few ⊢; omega

/-- A channel outside the queue rises while fewer than 6 do. -/
theorem set_rising (h : phantomOk (l, q)) (out : l[n]? ≠ some .queued) (few : l.count .rising < 6) :
    phantomOk (l.set n .rising, q) := by
  have queue := h.queue_set out (st := .rising) (by decide)
  obtain ⟨size, -, once, -⟩ := h
  refine ⟨by simpa using size, ?_, once, queue⟩
  have := count_set_le Phantom.rising l n
  simp only; omega

/-- A channel outside the queue joins its tail. -/
theorem set_queued (h : phantomOk (l, q)) (lt : n < 64) (out : l[n]? ≠ some .queued) :
    phantomOk (l.set n .queued, q ++ [n]) := by
  obtain ⟨size, few, once, exact⟩ := h
  refine ⟨by simpa using size, ?_, ?_, fun k => ?_⟩
  · have := count_set_ne Phantom.queued .rising (by decide) l n
    simp only at few ⊢; omega
  · exact once.append (List.nodup_singleton n) (by simpa [exact n] using out)
  · simp only at size exact ⊢
    rw [List.mem_append, exact k, List.getElem?_set]
    by_cases e : n = k
    · subst e; simp [size, lt]
    · simp [e, Ne.symm e]

/-- The head of the queue rises while fewer than 6 do. -/
theorem promote {rest : List Nat} (h : phantomOk (l, n :: rest)) (few : l.count .rising < 6) :
    phantomOk (l.set n .rising, rest) := by
  obtain ⟨size, -, once, exact⟩ := h
  obtain ⟨head, tail⟩ := List.nodup_cons.mp once
  refine ⟨by simpa using size, ?_, tail, fun k => ?_⟩
  · have := count_set_le Phantom.rising l n
    simp only; omega
  · rw [List.getElem?_set]
    by_cases e : n = k
    · subst e; simp [head]
    · simp [e, ← exact k, Ne.symm e]

/-- A channel leaves the queue for a state that is neither RISING nor QUEUED. -/
theorem set_leave (h : phantomOk (l, q)) (st_rising : st ≠ .rising) (st_queued : st ≠ .queued) :
    phantomOk (l.set n st, q.filter fun k => k != n) := by
  obtain ⟨size, few, once, exact⟩ := h
  refine ⟨by simpa using size, ?_, once.filter _, fun k => ?_⟩
  · have := count_set_ne st .rising st_rising l n
    simp only at few ⊢; omega
  · rw [List.mem_filter, exact k, List.getElem?_set]
    by_cases e : n = k
    · subst e; simp [st_queued]
    · simp [e, Ne.symm e]

end phantomOk

/-! ### The phantom machine on the view -/

theorem Part.onChannel_phantom (n : Nat) (f : Channel → Channel) (x : Part) (h : ∀ c, (f c).phantom = c.phantom) :
    (x.onChannel n f).phantomView = x.phantomView := by
  show (List.map _ (updAt n f x.chs.channels), _) = _
  rw [map_updAt (fun c : Channel => c.phantom) f h]; rfl

theorem map_phantom_updAt (n : Nat) (f : Channel → Channel) (st : Phantom) (h : ∀ c, (f c).phantom = st)
    (l : List Channel) : (updAt n f l).map (fun c => c.phantom) = (l.map fun c => c.phantom).set n st := by
  induction l generalizing n with
  | nil => cases n <;> rfl
  | cons a l ih => cases n <;> simp [updAt, h, ih]

theorem Part.phantomView_of_chs {x y : Part} (h : y.chs = x.chs) : y.phantomView = x.phantomView := by
  unfold Part.phantomView; rw [h]

theorem Part.phantomView_of_stock {x y : Part} (h : y.stock = x.stock) : y.phantomView = x.phantomView :=
  Part.phantomView_of_chs (congrArg (fun v => v.2.2.1) h)

theorem Part.phantomView_of_sansM {x y : Part} (h : y.sansMixes = x.sansMixes) : y.phantomView = x.phantomView :=
  Part.phantomView_of_chs (congrArg Part.chs h :)

@[simp] theorem Part.evalCond_phantom (n) (x : Part) : (x.evalCond n).phantomView = x.phantomView :=
  Part.onChannel_phantom _ _ _ fun _ => rfl

@[simp] theorem Part.preamp_phantom (n) (x : Part) : (x.preamp n).phantomView = x.phantomView := rfl

@[simp] theorem Part.channelVersion_phantom (n c) (x : Part) : (x.channelVersion n c).phantomView = x.phantomView := by
  obtain ⟨l, h⟩ := x.channelVersion_eq n c
  rw [h]; exact Part.onChannel_phantom n _ x fun _ => rfl

@[simp] theorem Part.phantomDone_phantom (n c) (x : Part) : (x.phantomDone n c).phantomView = x.phantomView := rfl

theorem Part.setPhantom_phantom (n : Nat) (st : Phantom) (timer : Nat) (x : Part) :
    (x.setPhantom n st timer).phantomView = (x.phantomView.1.set n st, x.phantomView.2) := by
  obtain ⟨a, h⟩ := Part.setPhantom_eq n st timer x
  rw [h]
  exact Prod.ext (map_phantom_updAt n _ st (fun _ => rfl) _) rfl

theorem Part.leaveQueue_phantom (n : Nat) (x : Part) :
    (x.leaveQueue n).phantomView = (x.phantomView.1, x.phantomView.2.filter fun k => k != n) := rfl

theorem Part.setPhantom_phantomInv (n : Nat) (st : Phantom) (timer : Nat) (x : Part) (h : x.PhantomInv)
    (out : (x.channel n).phantom ≠ .queued) (st_rising : st ≠ .rising) (st_queued : st ≠ .queued) :
    (x.setPhantom n st timer).PhantomInv := by
  rw [Part.phantomInv_iff] at h ⊢
  rw [Part.setPhantom_phantom]
  exact phantomOk.set_other h (fun q => out ((x.phantomView_get n _).mp q).2) st_rising st_queued

theorem Part.offerPhantom_phantomInv (n : Nat) (x : Part) (h : x.PhantomInv) (lt : n < 64)
    (out : (x.channel n).phantom ≠ .queued) : (x.offerPhantom n).PhantomInv := by
  rw [Part.phantomInv_iff] at h ⊢
  have out : x.phantomView.1[n]? ≠ some .queued := fun q => out ((x.phantomView_get n _).mp q).2
  unfold Part.offerPhantom
  dsimp only
  split
  · next few =>
    rw [Part.startRise, Part.setPhantom_phantom]
    exact phantomOk.set_rising h out (x.rising_eq ▸ few)
  · have joined := Part.setPhantom_phantom n .queued 0 x
    show phantomOk ((x.setPhantom n .queued 0).phantomView.1, (x.setPhantom n .queued 0).phantomView.2 ++ [n])
    rw [joined]
    exact phantomOk.set_queued h lt out

/-- A freed place is taken by the head of the queue. -/
theorem Part.promote_phantomInv (x : Part) (h : x.PhantomInv) (few : x.rising < 6) : x.promote.PhantomInv := by
  unfold Part.promote
  split
  · exact h
  · next n rest queue =>
    rw [Part.phantomInv_iff] at h ⊢
    rw [Part.startRise, Part.setPhantom_phantom]
    have waits : x.phantomView = (x.phantomView.1, n :: rest) := Prod.ext rfl queue
    rw [waits] at h
    exact phantomOk.promote h (x.rising_eq ▸ few)

/-- A RISING channel that takes another state frees a place. -/
theorem Part.setPhantom_rising (n : Nat) (st : Phantom) (timer : Nat) (x : Part) (h : x.PhantomInv)
    (rises : (x.channel n).phantom = .rising) (st_rising : st ≠ .rising) : (x.setPhantom n st timer).rising < 6 := by
  obtain ⟨size, few, -⟩ := x.phantomInv_iff.mp h
  have held := x.phantomView_of_channel n .rising rises (by decide)
  have pos : 0 < x.phantomView.1.count .rising := List.count_pos_iff.mpr (List.mem_of_getElem? held)
  rw [Part.rising_eq, Part.setPhantom_phantom, count_set_ne st .rising st_rising, if_pos held]
  omega

/-- Two parts of one view have as many channels RISING. -/
theorem Part.rising_of_view {x y : Part} (h : y.phantomView = x.phantomView) : y.rising = x.rising := by
  rw [Part.rising_eq, Part.rising_eq, h]

/-- The phantom state of a channel below 64, or not OFF, is its state in every part of the same view. -/
theorem Part.phantom_of_view {x y : Part} (h : y.phantomView = x.phantomView) (n : Nat) :
    (y.channel n).phantom = (x.channel n).phantom := by
  have read (z : Part) : (z.channel n).phantom = z.phantomView.1.getD n .off := by
    simp only [Part.channel, Part.phantomView, List.getD_eq_getElem?_getD, List.getElem?_map]
    cases z.chs.channels[n]? <;> rfl
  rw [read, read, h]

/-! ### Each operation keeps the invariant -/

theorem Part.leave_phantomInv (n : Nat) (st : Phantom) (timer : Nat) (x : Part) (h : x.PhantomInv)
    (st_rising : st ≠ .rising) (st_queued : st ≠ .queued) : ((x.leaveQueue n).setPhantom n st timer).PhantomInv := by
  rw [Part.phantomInv_iff] at h ⊢
  rw [Part.setPhantom_phantom, Part.leaveQueue_phantom]
  exact phantomOk.set_leave h st_rising st_queued

theorem Part.applyPhantom_phantomInv (n : Nat) (on : Bool) (x : Part) (lt : n < 64) (h : x.PhantomInv) :
    (x.applyPhantom n on).PhantomInv := by
  have asked (b : Bool) : (x.onChannel n fun c => { c with request := b }).phantomView = x.phantomView :=
    Part.onChannel_phantom _ _ _ fun _ => rfl
  have inv (b : Bool) : (x.onChannel n fun c => { c with request := b }).PhantomInv := h.of_view (asked b)
  have state (b : Bool) : ((x.onChannel n fun c => { c with request := b }).channel n).phantom = (x.channel n).phantom :=
    Part.phantom_of_view (asked b) n
  unfold Part.applyPhantom Part.phantomOn Part.phantomOff
  dsimp only
  repeat' split
  · exact h
  · next off => exact Part.offerPhantom_phantomInv n _ (inv true) lt (by rw [state, off]; decide)
  · exact inv true
  · exact inv false
  · exact Part.leave_phantomInv n .off 0 _ (inv false) (by decide) (by decide)
  · next rises =>
    exact Part.promote_phantomInv _
      (Part.setPhantom_phantomInv n .falling _ _ (inv false) (by rw [state, rises]; decide) (by decide) (by decide))
      (Part.setPhantom_rising n .falling _ _ (inv false) ((state false).trans rises) (by decide))
  · next on => exact Part.setPhantom_phantomInv n .falling _ _ (inv false) (by rw [state, on]; decide) (by decide) (by decide)
  · exact inv false
  · exact inv on

theorem Part.takeRiseEnd_phantomInv (n : Nat) (x : Part) (h : x.PhantomInv) : (x.takeRiseEnd n).PhantomInv := by
  unfold Part.takeRiseEnd
  split
  · next due =>
    have view : (((x.setPhantom n .on 0).channelVersion n .phantom).phantomDone n .timer).phantomView =
        (x.setPhantom n .on 0).phantomView := by simp
    refine Part.promote_phantomInv _ ?_ ?_
    · exact (Part.setPhantom_phantomInv n .on 0 x h (by rw [due.1]; decide) (by decide) (by decide)).of_view view
    · rw [Part.rising_of_view view]
      exact Part.setPhantom_rising n .on 0 x h due.1 (by decide)
  · exact h

theorem Part.takeFallEnd_phantomInv (n : Nat) (x : Part) (h : x.PhantomInv) : (x.takeFallEnd n).PhantomInv := by
  unfold Part.takeFallEnd
  split
  · next due =>
    have out : (x.channel n).phantom ≠ .queued := by rw [due.1]; decide
    split
    · have lt := ((x.phantomView_get n _).mp (x.phantomView_of_channel n .falling due.1 (by decide))).1
      exact Part.offerPhantom_phantomInv n x h (by rw [← h.1]; exact lt) out
    · exact (Part.setPhantom_phantomInv n .off 0 x h out (by decide) (by decide)).of_view (by simp)
  · exact h

theorem Part.applyChannel_phantomInv (n : Nat) (f : ChanSet) (cause : ChangeCause) (x : Part) (lt : n < 64)
    (h : x.PhantomInv) : (x.applyChannel n f cause).2.PhantomInv := by
  have gain (y : Part) : (y.writeGain n f.gain).phantomView = y.phantomView := by
    unfold Part.writeGain; split
    · exact Part.onChannel_phantom _ _ _ fun _ => rfl
    · rfl
  have pad (y : Part) : (y.writePad n f.pad).phantomView = y.phantomView := by
    unfold Part.writePad; repeat' split
    · rfl
    · exact Part.onChannel_phantom _ _ _ fun _ => rfl
    · rfl
  have polarity (y : Part) : (y.writePolarity n f.polarity).phantomView = y.phantomView := by
    unfold Part.writePolarity; split
    · exact Part.onChannel_phantom _ _ _ fun _ => rfl
    · rfl
  have mute (y : Part) : (y.writeMute n f.mute).phantomView = y.phantomView := by
    unfold Part.writeMute; split
    · rw [Part.evalCond_phantom]; exact Part.onChannel_phantom _ _ _ fun _ => rfl
    · rfl
  have written : (((x.writeGain n f.gain).writePad n f.pad).writePolarity n f.polarity |>.writeMute n f.mute).PhantomInv :=
    h.of_view (by rw [mute, polarity, pad, gain])
  have asked : ((((x.writeGain n f.gain).writePad n f.pad).writePolarity n f.polarity |>.writeMute n f.mute).writePhantom n
      f.phantom).PhantomInv := by
    unfold Part.writePhantom
    split
    · exact Part.applyPhantom_phantomInv n _ _ lt written
    · exact written
  unfold Part.applyChannel
  dsimp only
  repeat' split
  · exact h
  · exact asked.of_view (by simp)
  · exact asked.of_view (by simp)

/-- What every element's step keeps, a fold keeps. -/
theorem foldl_inv {α β : Type} (I : α → Prop) (f : α → β → α) (l : List β) (h : ∀ a, ∀ b ∈ l, I a → I (f a b)) (a : α)
    (ha : I a) : I (l.foldl f a) := by
  induction l generalizing a with
  | nil => exact ha
  | cons b l ih => exact ih (fun a b hb => h a b (by simp [hb])) _ (h a b (by simp) ha)

theorem Part.evalConds_phantomInv (l : List Nat) (x : Part) (h : x.PhantomInv) :
    (l.foldl (fun w n => w.evalCond n) x).PhantomInv :=
  foldl_inv Part.PhantomInv _ l (fun y n _ hy => hy.of_view (Part.evalCond_phantom n y)) x h

theorem Part.channelsStandby_phantomInv (x : Part) (h : x.PhantomInv) : x.channelsStandby.PhantomInv := by
  have left (y : Part) (n : Nat) (hy : y.PhantomInv) : (y.dequeueStandby n).PhantomInv :=
    (Part.leave_phantomInv n .off 0 y hy (by decide) (by decide)).of_view (by simp [Part.dequeueStandby])
  have fallen (y : Part) (n : Nat) (hy : y.PhantomInv) : (y.fallStandby n).PhantomInv := by
    unfold Part.fallStandby
    split
    · next st => exact Part.setPhantom_phantomInv n .falling _ y hy (by rw [st]; decide) (by decide) (by decide)
    · next st => exact Part.setPhantom_phantomInv n .falling _ y hy (by rw [st]; decide) (by decide) (by decide)
    · exact hy
  exact Part.evalConds_phantomInv _ _ (foldl_inv _ _ _ (fun y n _ => fallen y n) _
    (foldl_inv _ _ _ (fun y n _ => left y n) x h))

theorem Part.channelsOperate_phantomInv (x : Part) (h : x.PhantomInv) : x.channelsOperate.PhantomInv := by
  refine foldl_inv _ _ _ (fun y n hn hy => ?_) _ (Part.evalConds_phantomInv _ x h)
  split
  · next off => exact Part.offerPhantom_phantomInv n y hy (by simpa [channelNums] using hn) (by rw [off.2]; decide)
  · exact hy

/-! ### Every move keeps the inrush limit -/

theorem Part.phantomInv_doUpdate (cc : ChangeCause) (tc : TalkCause) (role : Role) (u : Update) (x : Part)
    (ok : u.identOk role = true) (h : x.PhantomInv) : (x.doUpdate cc tc u).2.PhantomInv := by
  have mixes {y : Part} (e : y.sansMixes = x.sansMixes) : y.PhantomInv := h.of_view (Part.phantomView_of_sansM e)
  have stock {y : Part} (e : y.stock = x.stock) : y.PhantomInv := h.of_view (Part.phantomView_of_stock e)
  cases u with
  | setChannel ch f =>
    have hc : ch < 64 := by simp only [Update.identOk, decide_eq_true_eq] at ok; omega
    exact Part.applyChannel_phantomInv ch f cc x hc h
  | setMix m f => exact mixes (Part.applyMix_sansM ..)
  | putContrib m b i code =>
    unfold Part.doUpdate
    dsimp only
    split
    · exact mixes (Part.applyPut_sansM ..)
    · exact h
  | dropContrib m b i =>
    unfold Part.doUpdate
    dsimp only
    split
    · exact mixes (Part.applyDrop_sansM ..)
    · exact h
  | clearMix m => exact mixes (Part.applyClear_sansM ..)
  | openTalk s pri mode set =>
    unfold Part.doUpdate
    dsimp only
    repeat' split
    · exact h
    · exact stock (Part.talkOpen_stock ..)
    · exact h
  | closeTalk s =>
    unfold Part.doUpdate
    dsimp only
    repeat' split
    · exact stock (Part.closeSession_stock ..)
    · exact h
    · exact h
  | setTalkCfg f => exact stock (Part.applyTalkCfg_stock ..)
  | setLock f =>
    refine h.of_view ?_
    show (x.applyLock f).phantomView = _
    unfold Part.applyLock
    dsimp only
    split
    · rfl
    · show (Part.echo .locks _).phantomView = _
      rw [Part.phantomView_of_stock (Part.echo_stock ..)]; rfl

theorem Part.phantomInv_applyUpdate (u : Update) (x : Part) (ok : u.identOk .desk = true) (h : x.PhantomInv) :
    (x.applyUpdate u).PhantomInv := by
  have done := Part.phantomInv_doUpdate .lane .lane .desk u.clamp x (by rw [Update.clamp_identOk, ok]) h
  obtain e | ⟨why, e⟩ := x.applyUpdate_eq u
  · rw [e]; exact done
  · rw [e]; exact done.of_view (Part.phantomView_of_stock (Part.refuse_stock ..))

theorem Part.mastersEval_phantom (x : Part) : x.mastersEval.phantomView = x.phantomView := rfl

theorem Part.standbyEntry_phantomInv (x : Part) (h : x.PhantomInv) : x.standbyEntry.PhantomInv := by
  have paths : (x.setOp .standby 0).pathsStandby.PhantomInv :=
    h.of_view (Part.phantomView_of_stock (Part.pathsStandby_stock _))
  unfold Part.standbyEntry
  dsimp only
  split
  · exact paths
  · refine Part.PhantomInv.of_view (Part.phantomView_of_stock (Part.talkStandby_stock _)) ?_
    exact (Part.channelsStandby_phantomInv _ paths).of_view (Part.mastersEval_phantom _)

theorem Part.operateEntry_phantomInv (x : Part) (h : x.PhantomInv) : x.operateEntry.PhantomInv := by
  have paths : (x.setOp .operate 0).pathsOperate.PhantomInv := h.of_view rfl
  unfold Part.operateEntry
  dsimp only
  split
  · exact paths
  · exact (Part.channelsOperate_phantomInv _ paths).of_view (Part.mastersEval_phantom _)

theorem Part.setState_phantomInv (tag t : Nat) (x : Part) (h : x.PhantomInv) : (x.setState tag t).PhantomInv := by
  unfold Part.setState
  split
  · exact h.of_view rfl
  · refine h.of_view ?_
    unfold Part.startWake Part.refreshPreamps; dsimp only; split <;> rfl
  · exact Part.standbyEntry_phantomInv _ (h.of_view (Part.phantomView_of_stock (by simp)))
  · exact h.of_view rfl
  · exact (Part.standbyEntry_phantomInv x h).of_view rfl
  · exact h.of_view rfl

theorem phantomOk_powerOn : phantomOk (Chs.powerOn.channels.map fun c => c.phantom, Chs.powerOn.phantomQueue) := by
  refine ⟨rfl, by decide, List.nodup_nil, fun n => ?_⟩
  simp only [Chs.powerOn, List.map_replicate, List.getElem?_replicate]
  split <;> simp [Channel.powerOn]

/-- A sample event counts the timers and advances the ramps of the channels: no phantom state changes. -/
theorem Part.sampleWork_phantom (i : SampleInput) (x : Part) : (x.sampleWork i).phantomView = x.phantomView := by
  have timers (y : Part) : y.timers.phantomView = y.phantomView := by
    unfold Part.phantomView
    rw [Part.timers_chs]
    split
    · dsimp only; rw [List.map_map]; rfl
    · rfl
  have conditioned (y : Part) : y.stageCondition.phantomView = y.phantomView := by
    unfold Part.stageCondition
    split
    · show (List.map _ (List.map _ _), _) = _
      rw [List.map_map]; rfl
    · rfl
  have chs : (x.sampleWork i).chs = ((x.takePorts i).timers.stageCondition).chs := by
    rw [Part.sampleWork_eq, Part.outputs_chs]
    show (x.atCompose i).chs = _
    simp [Part.atCompose]
  rw [Part.phantomView_of_chs chs, conditioned, timers]; rfl

theorem Part.phantomInv_table {x y : Part} (move : Part.TableMove x y) (h : x.PhantomInv) : y.PhantomInv := by
  have mixes {y : Part} (e : y.sansMixes = x.sansMixes) : y.PhantomInv := h.of_view (Part.phantomView_of_sansM e)
  cases move with
  | update l u _ stage ok => exact Part.phantomInv_applyUpdate u _ ok (h.of_view (y := { x with ple := l }) rfl)
  | host tag code u _ stage ok =>
    exact (Part.phantomInv_doUpdate .host .host .stage u.clamp x (by rw [Update.clamp_identOk, ok]) h).of_view rfl
  | wake =>
    unfold Part.takeWake
    split
    · exact (x.operateEntry_phantomInv h).of_view (Part.phantomView_of_stock (Part.answerHeldState_stock _ _))
    · exact h
  | walk n =>
    refine h.of_view ?_
    unfold Part.takeWalkStep
    repeat' split
    · exact Part.onChannel_phantom _ _ _ fun _ => rfl
    · exact Part.onChannel_phantom _ _ _ fun _ => rfl
    · rfl
  | rise n => exact Part.takeRiseEnd_phantomInv n x h
  | fall n => exact Part.takeFallEnd_phantomInv n x h
  | freed m r => exact mixes (Part.takeFreed_sansM ..)
  | leaving m => exact mixes (Part.takeLeavingEnd_sansM ..)
  | arriving m => exact mixes (Part.takeArrivingEnd_sansM ..)
  | setState tag t => exact Part.setState_phantomInv tag t x h
  | getMix tag m =>
    refine h.of_view ?_
    unfold Part.askGetMix Part.clearClip
    split <;> rfl
  | resetSoft tag =>
    have soft (z : Part) : z.softBlocks.phantomView = (Chs.powerOn.channels.map fun c => c.phantom, Chs.powerOn.phantomQueue) := by
      unfold Part.softBlocks Part.refreshPreamps; dsimp only; (repeat' split) <;> rfl
    rw [Part.phantomInv_iff]
    show phantomOk (Part.softBlocks _).phantomView
    rw [soft]
    exact phantomOk_powerOn
  | sample i => exact h.of_view (Part.sampleWork_phantom ..)
  | restart st pin => exact (Part.phantomInv_iff _).mpr phantomOk_powerOn

/-- Settles O55: a move that leaves the stock of the tables leaves the channels, and each move that reaches them keeps the
inrush limit and the queue. -/
theorem phantomInvariantKept : Obligations.PhantomInvariantKept := by
  refine step_keeps fun x y move h => ?_
  rcases move.stock_or_table with stock | table
  · exact h.of_view (Part.phantomView_of_stock stock)
  · exact Part.phantomInv_table table h

end Sys2Proof.Machine
end

section
/-!
PROOFS. The form of the lane transmit queue (R68): the records in flight, with consecutive sequences, before the unsent ones, no two
of one target. Admission, sending, an ack and the emptying each keep the form.
-/

namespace Sys2Proof.Machine

/-! ### The first entry that passes a test -/

theorem findFrom_eq_none_iff {α : Type} (f : α → Bool) (k : Nat) (l : List α) :
    findFrom f k l = none ↔ ∀ a ∈ l, f a = false := by
  refine ⟨fun h => ?_, findFrom_none f k l⟩
  induction l generalizing k with
  | nil => simp
  | cons b l ih =>
    simp only [findFrom] at h
    split at h
    · cases h
    · next hb => simpa [hb] using ih (k + 1) h

/-- The entry found is the first that passes: the list is cut at it. -/
theorem findFrom_eq_some {α : Type} (f : α → Bool) (k : Nat) (l : List α) (i : Nat) (h : findFrom f k l = some i) :
    ∃ a r b, l = a ++ r :: b ∧ i = k + a.length ∧ (∀ x ∈ a, f x = false) ∧ f r = true := by
  induction l generalizing k with
  | nil => cases h
  | cons c l ih =>
    simp only [findFrom] at h
    split at h
    · next hc => cases h; exact ⟨[], c, l, rfl, rfl, by simp, hc⟩
    · next hc =>
      obtain ⟨a, r, b, rfl, rfl, none, found⟩ := ih (k + 1) h
      exact ⟨c :: a, r, b, rfl, by simp only [List.length_cons]; omega, by simpa [hc] using none, found⟩

/-- An entry changed behind a first part of the list. -/
theorem updAt_append {α : Type} (a : List α) (r : α) (b : List α) (f : α → α) :
    updAt a.length f (a ++ r :: b) = a ++ f r :: b := by
  induction a with
  | nil => rfl
  | cons c a ih => simp [updAt, ih]

/-! ### The form of the queue -/

/-- The targets of the unsent records. -/
def targetsOf (q : List LaneRec) : List Target :=
  q.map fun r => r.msg.target

/-- Records in flight, oldest first, with the consecutive sequences that end before `next`. -/
def consecutive (next : Nat) (sent : List LaneRec) : Prop :=
  ∀ i r, sent[i]? = some r → r.seq = some ((next + 256 - sent.length + i) % 256)

/-- A queue cut into the records in flight and the unsent ones. -/
structure LaneForm (next : Nat) (sent rest : List LaneRec) : Prop where
  next_lt : next < 256
  few : sent.length ≤ 12
  size : sent.length + rest.length ≤ 32
  seqs : consecutive next sent
  unsent : ∀ r ∈ rest, r.seq = none
  once : (targetsOf rest).Nodup

/-- A record in flight has a sequence. -/
theorem LaneForm.sent_isSome {next : Nat} {sent rest : List LaneRec} (h : LaneForm next sent rest) :
    ∀ r ∈ sent, r.seq.isSome = true := by
  intro r hr
  obtain ⟨i, hi⟩ := List.mem_iff_getElem?.mp hr
  rw [h.seqs i r hi]; rfl

/-- The number in flight is that of the first part. -/
theorem LaneForm.inFlight {next : Nat} {sent rest : List LaneRec} (h : LaneForm next sent rest) {l : Ple}
    (queue : l.queue = sent ++ rest) : l.inFlight = sent.length := by
  have first : sent.filter (fun r => r.seq.isSome) = sent := List.filter_eq_self.mpr h.sent_isSome
  have last : rest.filter (fun r => r.seq.isSome) = [] := by
    rw [List.filter_eq_nil_iff]
    intro r hr
    rw [h.unsent r hr]; simp
  rw [Ple.inFlight, queue, List.filter_append, first, last, List.append_nil]

/-- The invariant of the queue is its form. -/
theorem Ple.queueInv_iff (l : Ple) :
    l.QueueInv ↔ ∃ sent rest, l.queue = sent ++ rest ∧ LaneForm l.nextSeq sent rest := by
  constructor
  · rintro ⟨next_lt, size, few, seqs, once⟩
    have inQueue : l.inFlight ≤ l.queue.length := List.length_filter_le ..
    have sentLength : (l.queue.take l.inFlight).length = l.inFlight := by simp [inQueue]
    refine ⟨l.queue.take l.inFlight, l.queue.drop l.inFlight, (List.take_append_drop ..).symm, next_lt, ?_, ?_, ?_, ?_, ?_⟩
    · rw [sentLength]; exact few
    · rw [sentLength, List.length_drop]; omega
    · intro i r hi
      rw [sentLength]
      rw [List.getElem?_take] at hi
      split at hi
      · next lt => have := seqs i r hi; rwa [if_pos lt] at this
      · cases hi
    · intro r hr
      obtain ⟨i, hi⟩ := List.mem_iff_getElem?.mp hr
      rw [List.getElem?_drop] at hi
      have := seqs _ r hi
      rwa [if_neg (by omega)] at this
    · rw [List.nodup_iff_getElem?_ne_getElem?]
      intro i j ij hj same
      simp only [targetsOf, List.length_map, List.length_drop] at hj
      simp only [targetsOf, List.getElem?_map, List.getElem?_drop] at same
      have hi : l.inFlight + i < l.queue.length := by omega
      have hj : l.inFlight + j < l.queue.length := by omega
      rw [List.getElem?_eq_getElem hi, List.getElem?_eq_getElem hj] at same
      have unsent (k : Nat) (hk : l.inFlight + k < l.queue.length) : l.queue[l.inFlight + k].seq = none := by
        have := seqs _ _ (List.getElem?_eq_getElem hk)
        rwa [if_neg (by omega)] at this
      have := once _ _ _ _ (List.getElem?_eq_getElem hi) (List.getElem?_eq_getElem hj) (unsent i hi) (unsent j hj)
        (by simpa using same)
      omega
  · rintro ⟨sent, rest, queue, form⟩
    have inFlight := form.inFlight queue
    refine ⟨form.next_lt, ?_, ?_, ?_, ?_⟩
    · rw [queue, List.length_append]; exact form.size
    · rw [inFlight]; exact form.few
    · intro i r hi
      rw [queue, List.getElem?_append] at hi
      rw [inFlight]
      split at hi
      · next lt => rw [if_pos lt]; exact form.seqs i r hi
      · next ge => rw [if_neg ge]; exact form.unsent r (List.mem_of_getElem? hi)
    · intro i j r q hi hj hr hq same
      have behind (k : Nat) (a : LaneRec) (hk : l.queue[k]? = some a) (ha : a.seq = none) :
          sent.length ≤ k ∧ (targetsOf rest)[k - sent.length]? = some a.msg.target := by
        rw [queue, List.getElem?_append] at hk
        split at hk
        · next lt =>
          have := form.sent_isSome a (List.mem_of_getElem? hk)
          rw [ha] at this; cases this
        · next ge => exact ⟨by omega, by simp [targetsOf, hk]⟩
      obtain ⟨ile, ti⟩ := behind i r hi hr
      obtain ⟨jle, tj⟩ := behind j q hj hq
      have := (List.nodup_iff_injective_get.mp form.once)
      have lti : i - sent.length < (targetsOf rest).length := (List.getElem?_eq_some_iff.mp ti).1
      have ltj : j - sent.length < (targetsOf rest).length := (List.getElem?_eq_some_iff.mp tj).1
      have eq := form.once.getElem_inj_iff (hi := lti) (hj := ltj) |>.mp (by
        rw [List.getElem?_eq_getElem lti] at ti
        rw [List.getElem?_eq_getElem ltj] at tj
        rw [Option.some.inj ti, Option.some.inj tj, same])
      omega

/-- The invariant reads the queue and the next sequence. -/
theorem Ple.QueueInv.of_queue {l m : Ple} (queue : m.queue = l.queue) (next : m.nextSeq = l.nextSeq) (h : l.QueueInv) :
    m.QueueInv := by
  rw [Ple.queueInv_iff] at h ⊢
  rw [queue, next]; exact h

/-! ### Admission (R69) -/

/-- A record that takes the place of one of its own target has that target. -/
theorem mergeMsg_target (old new : LaneMsg) : (mergeMsg old new).target = new.target := by
  unfold mergeMsg
  split <;> rfl

/-- A CLEAR_MIX removes unsent records only. -/
theorem LaneForm.clearEdits {next : Nat} {sent rest : List LaneRec} (h : LaneForm next sent rest) (msg : LaneMsg) :
    ∃ less, clearEdits msg (sent ++ rest) = sent ++ less ∧ LaneForm next sent less := by
  unfold Machine.clearEdits
  split
  · next m =>
    have stays : sent.filter (fun r => !r.editOf m) = sent := by
      refine List.filter_eq_self.mpr fun r hr => ?_
      simp [LaneRec.editOf, h.sent_isSome r hr]
    have fewer : (rest.filter fun r => !r.editOf m).length ≤ rest.length := List.length_filter_le ..
    refine ⟨rest.filter fun r => !r.editOf m, by rw [List.filter_append, stays], h.next_lt, h.few, ?_, h.seqs, ?_, ?_⟩
    · have := h.size; omega
    · exact fun r hr => h.unsent r (List.mem_filter.mp hr).1
    · exact h.once.sublist (List.Sublist.map _ List.filter_sublist)
  · exact ⟨rest, rfl, h⟩

/-- An admitted record keeps the form: it takes the place of the unsent record of its target, or joins the tail. -/
theorem LaneForm.offered {next : Nat} {sent rest q : List LaneRec} {msg : LaneMsg} (h : LaneForm next sent rest)
    (admitted : admitTo msg (sent ++ rest) = some q) : ∃ more, q = sent ++ more ∧ LaneForm next sent more := by
  obtain ⟨less, cleared, form⟩ := h.clearEdits msg
  unfold admitTo at admitted
  simp only [cleared] at admitted
  have passed (r : LaneRec) (hr : r ∈ sent) : LaneRec.unsentOf msg.target r = false := by
    simp [LaneRec.unsentOf, Option.isSome_iff_ne_none.mp (form.sent_isSome r hr)]
  split at admitted
  · next i found =>
    cases admitted
    obtain ⟨a, r, b, cut, rfl, before, unsent⟩ := findFrom_eq_some _ _ _ _ found
    simp only [LaneRec.unsentOf, Bool.and_eq_true, beq_iff_eq] at unsent
    have lead : sent.length ≤ a.length := by
      by_contra short
      have inSent : r ∈ sent := by
        have : (sent ++ less)[a.length]? = some r := by rw [cut]; simp
        rw [List.getElem?_append_left (by omega)] at this
        exact List.mem_of_getElem? this
      have := passed r inSent
      simp [LaneRec.unsentOf, unsent.1, unsent.2] at this
    obtain ⟨c, rfl, rest_eq⟩ : ∃ c, a = sent ++ c ∧ less = c ++ r :: b := by
      obtain ⟨c, hc⟩ := (List.prefix_of_prefix_length_le (List.prefix_append sent less) (cut ▸ List.prefix_append a (r :: b)) lead)
      refine ⟨c, hc.symm, ?_⟩
      rw [← hc, List.append_assoc] at cut
      exact List.append_cancel_left cut
    refine ⟨c ++ ⟨mergeMsg r.msg msg, none⟩ :: b, ?_, form.next_lt, form.few, ?_, form.seqs, ?_, ?_⟩
    · rw [cut, Nat.zero_add, updAt_append, List.append_assoc]
    · have := form.size; simp only [rest_eq, List.length_append, List.length_cons] at this ⊢; exact this
    · intro k hk
      simp only [List.mem_append, List.mem_cons] at hk
      rcases hk with hk | rfl | hk
      · exact form.unsent k (by simp [rest_eq, hk])
      · rfl
      · exact form.unsent k (by simp [rest_eq, hk])
    · have once := form.once
      simpa only [rest_eq, targetsOf, List.map_append, List.map_cons, mergeMsg_target, unsent.2] using once
  · next none =>
    split at admitted
    · next room =>
      cases admitted
      rw [findFrom_eq_none_iff] at none
      refine ⟨less ++ [⟨msg, Option.none⟩], by rw [List.append_assoc], form.next_lt, form.few, ?_, form.seqs, ?_, ?_⟩
      · simp only [List.length_append, List.length_cons, List.length_nil] at room ⊢; omega
      · intro k hk
        simp only [List.mem_append, List.mem_cons, List.not_mem_nil, or_false] at hk
        rcases hk with hk | rfl
        · exact form.unsent k hk
        · rfl
      · have fresh : msg.target ∉ targetsOf less := by
          intro mem
          obtain ⟨r, hr, same⟩ := List.mem_map.mp mem
          have := none r (by simp [hr])
          simp [LaneRec.unsentOf, form.unsent r hr, same] at this
        rw [show targetsOf (less ++ [⟨msg, Option.none⟩]) = targetsOf less ++ [msg.target] from List.map_append ..]
        exact form.once.append (List.nodup_singleton _) (by simpa using fresh)
    · cases admitted

theorem Ple.queueInv_admit {l : Ple} {msg : LaneMsg} {q : List LaneRec} (h : l.QueueInv)
    (admitted : admitTo msg l.queue = some q) : Ple.QueueInv { l with queue := q } := by
  rw [Ple.queueInv_iff] at h ⊢
  obtain ⟨sent, rest, queue, form⟩ := h
  rw [queue] at admitted
  obtain ⟨more, rfl, form⟩ := form.offered admitted
  exact ⟨sent, more, rfl, form⟩

theorem Ple.queueInv_offer (msg : LaneMsg) (l : Ple) (h : l.QueueInv) : (l.offer msg).QueueInv := by
  unfold Ple.offer
  split
  · next admitted => exact Ple.queueInv_admit h admitted
  · exact h

theorem Ple.queueInv_empty (l : Ple) (empty : l.queue = []) (next : l.nextSeq < 256) : l.QueueInv := by
  rw [Ple.queueInv_iff]
  exact ⟨[], [], empty, next, by simp, by simp, by simp [consecutive], by simp, List.nodup_nil⟩

/-! ### Sending (R68) -/

/-- The oldest unsent record goes in flight. -/
theorem LaneForm.send {next : Nat} {sent rest : List LaneRec} {r : LaneRec} (h : LaneForm next sent (r :: rest))
    (room : sent.length < 12) :
    LaneForm (inc8 next) (sent ++ [{ r with seq := some next }]) rest := by
  obtain ⟨next_lt, few, size, seqs, unsent, once⟩ := h
  simp only [List.length_cons] at size
  refine ⟨by unfold inc8; omega, by simpa using room, by simp only [List.length_append, List.length_cons, List.length_nil]; omega,
    ?_, fun k hk => unsent k (by simp [hk]), (List.nodup_cons.mp once).2⟩
  intro i k hi
  rw [List.getElem?_append] at hi
  simp only [List.length_append, List.length_cons, List.length_nil, inc8]
  split at hi
  · next lt =>
    rw [seqs i k hi]
    congr 1
    omega
  · next ge =>
    have zero : i - sent.length = 0 := by
      by_contra more
      rw [List.getElem?_eq_none (by simp only [List.length_cons, List.length_nil]; omega)] at hi
      cases hi
    rw [zero] at hi
    cases hi
    show some next = _
    congr 1
    omega

theorem Ple.queueInv_takeSym (quiet : Bool) (l : Ple) (h : l.QueueInv) : (l.takeSym quiet).2.QueueInv := by
  unfold Ple.takeSym
  split
  · exact h
  · split
    · split
      · exact h.of_queue rfl rfl
      · exact h.of_queue rfl rfl
    · split
      · next i found =>
        split
        · next room =>
          obtain ⟨sent, rest, queue, form⟩ := l.queueInv_iff.mp h
          rw [form.inFlight queue] at room
          obtain ⟨a, r, b, cut, rfl, before, unsent⟩ := findFrom_eq_some _ _ _ _ found
          have lead : a = sent ∧ r :: b = rest := by
            refine List.append_inj' (cut.symm.trans queue) ?_
            have total : (a ++ r :: b).length = (sent ++ rest).length := by rw [← cut, queue]
            have le : sent.length ≤ a.length := by
              by_contra short
              have : (sent ++ rest)[a.length]? = some r := by rw [← queue, cut]; simp
              rw [List.getElem?_append_left (by omega)] at this
              have := form.sent_isSome r (List.mem_of_getElem? this)
              rw [Option.isNone_iff_eq_none.mp unsent] at this
              cases this
            have ge : a.length ≤ sent.length := by
              by_contra long
              have inA : (a ++ r :: b)[sent.length]? = rest[0]? := by
                rw [← cut, queue, List.getElem?_append_right le_rfl, Nat.sub_self]
              rw [List.getElem?_append_left (by omega)] at inA
              obtain ⟨k, hk⟩ : ∃ k, a[sent.length]? = some k := ⟨_, List.getElem?_eq_getElem (by omega)⟩
              have sentK := before k (List.mem_of_getElem? hk)
              rw [hk] at inA
              have := form.unsent k (List.mem_of_getElem? inA.symm)
              simp [this] at sentK
            simp only [List.length_append] at total
            omega
          obtain ⟨rfl, rfl⟩ := lead
          rw [Ple.queueInv_iff]
          refine ⟨_, _, ?_, form.send room⟩
          show updAt (0 + a.length) _ l.queue = _
          rw [cut, Nat.zero_add, updAt_append]; simp
        · exact h
      · exact h

theorem Ple.queueInv_takeSyms (quiet : Bool) (n : Nat) (l : Ple) (h : l.QueueInv) : (Ple.takeSyms quiet n l).2.QueueInv := by
  induction n generalizing l with
  | zero => exact h
  | succ n ih => exact ih _ (Ple.queueInv_takeSym quiet l h)

/-! ### Acks and the receive side -/

/-- The oldest records in flight leave. -/
theorem LaneForm.drop {next : Nat} {sent rest : List LaneRec} (h : LaneForm next sent rest) (k : Nat) (le : k ≤ sent.length) :
    LaneForm next (sent.drop k) rest := by
  obtain ⟨next_lt, few, size, seqs, unsent, once⟩ := h
  refine ⟨next_lt, by rw [List.length_drop]; omega, by rw [List.length_drop]; omega, fun i r hi => ?_, unsent, once⟩
  rw [List.getElem?_drop] at hi
  have lt := (List.getElem?_eq_some_iff.mp hi).1
  rw [seqs _ r hi, List.length_drop]
  congr 2
  omega

theorem Ple.queueInv_takeAck (quiet : Bool) (ack : Nat) (l : Ple) (h : l.QueueInv) : (l.takeAck quiet ack).QueueInv := by
  unfold Ple.takeAck
  split
  · exact h
  · split
    · next i found =>
      obtain ⟨sent, rest, queue, form⟩ := l.queueInv_iff.mp h
      obtain ⟨a, r, b, cut, rfl, -, named⟩ := findFrom_eq_some _ _ _ _ found
      have lt : a.length < sent.length := by
        by_contra ge
        have : (sent ++ rest)[a.length]? = some r := by rw [← queue, cut]; simp
        rw [List.getElem?_append_right (by omega)] at this
        have := form.unsent r (List.mem_of_getElem? this)
        simp [this] at named
      rw [Ple.queueInv_iff]
      refine ⟨sent.drop (0 + a.length + 1), rest, ?_, form.drop _ (by omega)⟩
      show l.queue.drop _ = _
      rw [queue, List.drop_append_of_le_length (by omega)]
    · exact h

theorem Ple.queueInv_takeGoBack (l : Ple) (h : l.QueueInv) : l.takeGoBack.QueueInv := by
  unfold Ple.takeGoBack; split <;> exact h.of_queue rfl rfl

theorem Ple.queueInv_takeTailEnd (l : Ple) (h : l.QueueInv) : l.takeTailEnd.QueueInv := by
  unfold Ple.takeTailEnd; split <;> exact h.of_queue rfl rfl

theorem Ple.queueInv_timerTick (b : Bool) (l : Ple) (h : l.QueueInv) : (l.timerTick b).QueueInv := by
  unfold Ple.timerTick; split <;> exact h.of_queue rfl rfl

theorem Ple.queueInv_tailTick (l : Ple) (h : l.QueueInv) : l.tailTick.QueueInv := by
  unfold Ple.tailTick; repeat' split
  all_goals exact h.of_queue rfl rfl

theorem Ple.breakRecord_queue (l : Ple) : l.breakRecord.queue = l.queue ∧ l.breakRecord.nextSeq = l.nextSeq := by
  unfold Ple.breakRecord; split <;> exact ⟨rfl, rfl⟩

/-- The receive assembler leaves the transmit queue. -/
theorem Ple.takeIn_queue (s : Sym) (l : Ple) : (l.takeIn s).queue = l.queue ∧ (l.takeIn s).nextSeq = l.nextSeq := by
  unfold Ple.takeIn
  repeat' split
  all_goals first | exact ⟨rfl, rfl⟩ | exact l.breakRecord_queue

theorem Ple.queueInv_takeInAll (ss : List Sym) (l : Ple) (h : l.QueueInv) : (l.takeInAll ss).QueueInv := by
  unfold Ple.takeInAll
  exact foldl_inv Ple.QueueInv _ ss (fun m s _ hm => hm.of_queue (m.takeIn_queue s).1 (m.takeIn_queue s).2) l h

end Sys2Proof.Machine
end

section
/-!
PROOFS. What the operations do to the queues: `Part.Calm w x` says that between `w` and `x` the lane transmit queue keeps its form, the
notice queue its bound, and the reply queue with the held requests does not grow. Every operation of the blocks is calm; only a
request carried out and an entry reply add a reply.
-/

namespace Sys2Proof.Machine

/-- The replies that wait and the replies that are owed for held requests (R165). -/
def Part.owed (x : Part) : Nat :=
  x.cmp.replies.length + x.dsc.heldState.isSome.toNat + x.dsc.heldLink.isSome.toNat

/-- The queues and the held requests. -/
def Part.queues (x : Part) : List LaneRec × Nat × List Reply × List Notice × Option Nat × Option Nat :=
  (x.ple.queue, x.ple.nextSeq, x.cmp.replies, x.cmp.notices, x.dsc.heldState, x.dsc.heldLink)

/-- Between two parts the queues keep their form and their bounds, and no reply is added. -/
structure Part.Calm (w x : Part) : Prop where
  lane : w.ple.QueueInv → x.ple.QueueInv
  notices : w.cmp.notices.length ≤ 32 → x.cmp.notices.length ≤ 32
  owed : x.owed ≤ w.owed

/-- A notice keeps the bound of its queue. -/
theorem Cmp.notify_size (n : Notice) (c : Cmp) (h : c.notices.length ≤ 32) : (c.notify n).notices.length ≤ 32 := by
  unfold Cmp.notify Cmp.join
  split
  · split
    · simpa using ‹_›
    · exact h
  · exact h

namespace Part.Calm

variable {w x : Part}

theorem refl (x : Part) : Part.Calm x x := ⟨id, id, le_rfl⟩

theorem trans {y : Part} (h : Part.Calm w x) (h' : Part.Calm x y) : Part.Calm w y :=
  ⟨h'.lane ∘ h.lane, h'.notices ∘ h.notices, h'.owed.trans h.owed⟩

/-- A change that leaves the queues and the held requests. -/
theorem still {y : Part} (h : Part.Calm w x) (same : y.queues = x.queues) : Part.Calm w y := by
  obtain ⟨queue, next, replies, notices, state, link⟩ :
      y.ple.queue = x.ple.queue ∧ y.ple.nextSeq = x.ple.nextSeq ∧ y.cmp.replies = x.cmp.replies ∧
        y.cmp.notices = x.cmp.notices ∧ y.dsc.heldState = x.dsc.heldState ∧ y.dsc.heldLink = x.dsc.heldLink := by
    simpa [Part.queues] using same
  refine ⟨fun inv => (h.lane inv).of_queue queue next, fun size => by rw [notices]; exact h.notices size, ?_⟩
  rw [show y.owed = x.owed by unfold Part.owed; rw [replies, state, link]]
  exact h.owed

theorem withScu {t : Scu} (h : Part.Calm w x) : Part.Calm w { x with scu := t } :=
  h.still rfl

theorem withFmu {t : Fmu} (h : Part.Calm w x) : Part.Calm w { x with fmu := t } :=
  h.still rfl

theorem withChs {t : Chs} (h : Part.Calm w x) : Part.Calm w { x with chs := t } :=
  h.still rfl

theorem withMxe {t : Mxe} (h : Part.Calm w x) : Part.Calm w { x with mxe := t } :=
  h.still rfl

theorem withTka {t : Tka} (h : Part.Calm w x) : Part.Calm w { x with tka := t } :=
  h.still rfl

theorem withMirror {t : Mirror} (h : Part.Calm w x) : Part.Calm w { x with mirror := t } :=
  h.still rfl

theorem onChannel {n f} (h : Part.Calm w x) : Part.Calm w (x.onChannel n f) :=
  h.still rfl

theorem evalCond {n} (h : Part.Calm w x) : Part.Calm w (x.evalCond n) :=
  h.still rfl

theorem leaveQueue {n} (h : Part.Calm w x) : Part.Calm w (x.leaveQueue n) :=
  h.still rfl

theorem onMix {m f} (h : Part.Calm w x) : Part.Calm w (x.onMix m f) :=
  h.still rfl

theorem onFmu {f} (h : Part.Calm w x) : Part.Calm w (x.onFmu f) :=
  h.still rfl

theorem withPaths {a b : PathCtl} (h : Part.Calm w x) : Part.Calm w { x with pa := a, pb := b } :=
  h.still rfl

theorem mastersEval (h : Part.Calm w x) : Part.Calm w x.mastersEval :=
  h.still rfl

/-- A fold of calm operations is calm. -/
theorem foldl {β : Type} {f : Part → β → Part} (h : Part.Calm w x) (step : ∀ y b, Part.Calm w y → Part.Calm w (f y b))
    (l : List β) : Part.Calm w (l.foldl f x) :=
  foldl_inv (Part.Calm w) f l (fun y b _ => step y b) x h

theorem notify {n : Notice} (h : Part.Calm w x) : Part.Calm w (x.notify n) :=
  ⟨h.lane, fun size => Cmp.notify_size n _ (h.notices size), by
    have : (x.notify n).owed = x.owed := by
      have := congrArg Cmp.replies (Cmp.notify_sans n x.cmp)
      show (x.cmp.notify n).replies.length + _ + _ = _
      rw [show (x.cmp.notify n).replies = x.cmp.replies from this]; rfl
    rw [this]; exact h.owed⟩

theorem onPle {f : Ple → Ple} (h : Part.Calm w x) (keeps : x.ple.QueueInv → (f x.ple).QueueInv) :
    Part.Calm w (x.onPle f) :=
  ⟨fun inv => keeps (h.lane inv), h.notices, h.owed⟩

theorem offered {msg : LaneMsg} {q : List LaneRec} (h : Part.Calm w x) (admitted : admitTo msg x.ple.queue = some q) :
    Part.Calm w { x with ple := { x.ple with queue := q } } :=
  h.onPle (f := fun l => { l with queue := q }) fun inv => Ple.queueInv_admit inv admitted

theorem onPath {p : Path} {f : PathCtl → PathCtl} (h : Part.Calm w x) : Part.Calm w (x.onPath p f) := by
  cases p <;> exact h.still rfl

theorem echo {t : Target} (h : Part.Calm w x) : Part.Calm w (x.echo t) := by
  unfold Part.echo
  split
  · exact h
  · split
    · exact h
    · split
      · exact h
      · split
        · next admitted => exact h.offered admitted
        · exact h.still rfl

theorem refuse {u : Update} {why : RefuseReason} (h : Part.Calm w x) : Part.Calm w (x.refuse u why) := by
  unfold Part.refuse
  dsimp only
  split
  · exact h.still rfl
  · split
    · next admitted => exact h.offered admitted
    · exact h.still rfl

/-! ### Channels -/

theorem channelVersion {n c} (h : Part.Calm w x) : Part.Calm w (x.channelVersion n c) :=
  h.onChannel.echo.notify

theorem phantomDone {n c} (h : Part.Calm w x) : Part.Calm w (x.phantomDone n c) :=
  h.notify

theorem setPhantom {n st t} (h : Part.Calm w x) : Part.Calm w (x.setPhantom n st t) := by
  obtain ⟨a, e⟩ := Part.setPhantom_eq n st t x
  rw [e]; exact h.still rfl

theorem offerPhantom {n} (h : Part.Calm w x) : Part.Calm w (x.offerPhantom n) := by
  unfold Part.offerPhantom
  dsimp only
  split
  · exact h.setPhantom
  · exact h.setPhantom.still rfl

theorem promote (h : Part.Calm w x) : Part.Calm w x.promote := by
  unfold Part.promote
  split
  · exact h
  · exact h.withChs.setPhantom

theorem applyPhantom {n on} (h : Part.Calm w x) : Part.Calm w (x.applyPhantom n on) := by
  have asked (b : Bool) : Part.Calm w (x.onChannel n fun c => { c with request := b }) := h.still rfl
  unfold Part.applyPhantom Part.phantomOn Part.phantomOff
  dsimp only
  repeat' split
  · exact h
  · exact (asked true).offerPhantom
  · exact asked true
  · exact asked false
  · exact (asked false).leaveQueue.setPhantom
  · exact (asked false).setPhantom.promote
  · exact (asked false).setPhantom
  · exact asked false
  · exact asked on

theorem applyChannel {n f c} (h : Part.Calm w x) : Part.Calm w (x.applyChannel n f c).2 := by
  have gain {y : Part} (hy : Part.Calm w y) : Part.Calm w (y.writeGain n f.gain) := by
    unfold Part.writeGain; split <;> exact hy.still rfl
  have pad {y : Part} (hy : Part.Calm w y) : Part.Calm w (y.writePad n f.pad) := by
    unfold Part.writePad; repeat' split
    all_goals exact hy.still rfl
  have polarity {y : Part} (hy : Part.Calm w y) : Part.Calm w (y.writePolarity n f.polarity) := by
    unfold Part.writePolarity; split <;> exact hy.still rfl
  have mute {y : Part} (hy : Part.Calm w y) : Part.Calm w (y.writeMute n f.mute) := by
    unfold Part.writeMute; split <;> exact hy.still rfl
  have phantom {y : Part} (hy : Part.Calm w y) : Part.Calm w (y.writePhantom n f.phantom) := by
    unfold Part.writePhantom; split
    · exact hy.applyPhantom
    · exact hy
  have written := phantom (mute (polarity (pad (gain h))))
  unfold Part.applyChannel
  dsimp only
  repeat' split
  · exact h
  · exact written.channelVersion.phantomDone
  · exact written.channelVersion

theorem takeWalkStep {n} (h : Part.Calm w x) : Part.Calm w (x.takeWalkStep n) := by
  unfold Part.takeWalkStep; repeat' split
  all_goals exact h.still rfl

theorem takeRiseEnd {n} (h : Part.Calm w x) : Part.Calm w (x.takeRiseEnd n) := by
  unfold Part.takeRiseEnd; split
  · exact h.setPhantom.channelVersion.phantomDone.promote
  · exact h

theorem takeFallEnd {n} (h : Part.Calm w x) : Part.Calm w (x.takeFallEnd n) := by
  unfold Part.takeFallEnd; repeat' split
  · exact h.offerPhantom
  · exact h.setPhantom.channelVersion.phantomDone
  · exact h

theorem evalConds (h : Part.Calm w x) (l : List Nat) : Part.Calm w (l.foldl (fun y n => y.evalCond n) x) :=
  h.foldl (fun _ _ hy => hy.evalCond) l

theorem channelsStandby (h : Part.Calm w x) : Part.Calm w x.channelsStandby := by
  have left (y : Part) (n : Nat) (hy : Part.Calm w y) : Part.Calm w (y.dequeueStandby n) :=
    hy.leaveQueue.setPhantom.channelVersion.phantomDone
  have fallen (y : Part) (n : Nat) (hy : Part.Calm w y) : Part.Calm w (y.fallStandby n) := by
    unfold Part.fallStandby; split
    · exact hy.setPhantom
    · exact hy.setPhantom
    · exact hy
  exact ((h.foldl left _).foldl fallen _).evalConds _

theorem channelsOperate (h : Part.Calm w x) : Part.Calm w x.channelsOperate := by
  refine (h.evalConds _).foldl (fun y n hy => ?_) _
  split
  · exact hy.offerPhantom
  · exact hy

theorem applyLock {f} (h : Part.Calm w x) : Part.Calm w (x.applyLock f) := by
  unfold Part.applyLock
  dsimp only
  split
  · exact h
  · exact h.withChs.echo.notify

/-! ### Talk -/

theorem setDest {d st s} (h : Part.Calm w x) : Part.Calm w (x.setDest d st s) := by
  unfold Part.setDest
  dsimp only
  split <;> exact h.still rfl

theorem onSource {s f} (h : Part.Calm w x) : Part.Calm w (x.onSource s f) :=
  h.still rfl

theorem grant {s d} (h : Part.Calm w x) : Part.Calm w (x.grant s d) :=
  h.setDest.onSource

theorem lose {d} (h : Part.Calm w x) : Part.Calm w (x.lose d) := by
  unfold Part.lose; split
  · exact h.setDest.onSource
  · exact h.setDest

theorem arbitrate {s d} (h : Part.Calm w x) : Part.Calm w (x.arbitrate s d) := by
  unfold Part.arbitrate
  dsimp only
  repeat' split
  all_goals first | exact h | exact h.grant | exact h.lose

theorem arbitrateFree {d} (h : Part.Calm w x) : Part.Calm w (x.arbitrateFree d) := by
  unfold Part.arbitrateFree; split
  · exact h.grant
  · exact h

theorem publish {b c s} (h : Part.Calm w x) : Part.Calm w (Part.publish b c x s) := by
  unfold Part.publish
  dsimp only
  split
  · exact h
  · exact h.onSource.echo.notify

theorem publishAll {b c o} (h : Part.Calm w x) : Part.Calm w (x.publishAll b c o) :=
  h.foldl (fun _ _ hy => hy.publish) _

theorem talkOpen {s p l r c} (h : Part.Calm w x) : Part.Calm w (x.talkOpen s p l r c) := by
  have ordered : Part.Calm w x.nextOrder := h.still rfl
  have released (y : Part) (d : Nat) (hy : Part.Calm w y) : Part.Calm w (y.releaseOne s d) := by
    unfold Part.releaseOne; repeat' split
    · exact hy.lose
    · exact hy
    · exact hy
  unfold Part.talkOpen
  dsimp only
  split
  · exact ((ordered.onSource.foldl released _).foldl (fun _ _ hy => hy.arbitrate) _).publishAll
  · exact (ordered.onSource.foldl (fun _ _ hy => hy.arbitrate) _).publishAll

theorem closeSession {s r c} (h : Part.Calm w x) : Part.Calm w (x.closeSession s r c) := by
  have faded (y : Part) (d : Nat) (hy : Part.Calm w y) : Part.Calm w (y.fadeGranted s d) := by
    unfold Part.fadeGranted; repeat' split
    · exact hy.lose
    · exact hy
    · exact hy
  unfold Part.closeSession
  dsimp only
  split
  · exact (h.foldl faded _).onSource.publishAll
  · exact h

theorem takeFadeEnd {d} (h : Part.Calm w x) : Part.Calm w (x.takeFadeEnd d) := by
  unfold Part.takeFadeEnd; split
  · exact h.setDest.arbitrateFree.publishAll
  · exact h

theorem maskChanged {d} (h : Part.Calm w x) : Part.Calm w (x.maskChanged d) := by
  refine publishAll ?_
  unfold Part.judgeDest
  repeat' split
  all_goals first | exact h | exact h.arbitrateFree | exact h.lose

theorem talkLink {o} (h : Part.Calm w x) : Part.Calm w (x.talkLink o) := by
  unfold Part.talkLink
  dsimp only
  repeat' split
  · exact h.closeSession.lose.publishAll
  · exact h.closeSession.publishAll
  · exact h.arbitrateFree.publishAll
  · exact h
  · exact h

theorem takeLatchedLimit {s} (h : Part.Calm w x) : Part.Calm w (x.takeLatchedLimit s) := by
  unfold Part.takeLatchedLimit; repeat' split
  · exact h.closeSession
  · exact h
  · exact h

theorem talkStandby (h : Part.Calm w x) : Part.Calm w x.talkStandby :=
  h.foldl (fun _ _ hy => hy.closeSession) _

theorem applyTalkCfg {f c} (h : Part.Calm w x) : Part.Calm w (x.applyTalkCfg f c).2 := by
  have written (cfg : TalkCfg) : Part.Calm w ({ x with tka := { x.tka with cfg := cfg } } : Part).evalCue := h.still rfl
  unfold Part.applyTalkCfg
  dsimp only
  repeat' split
  · exact h
  · exact (written _).maskChanged.withTka.echo.notify
  · exact (written _).withTka.echo.notify

/-! ### Mixes -/

theorem mixVersion {m c} (h : Part.Calm w x) : Part.Calm w (x.mixVersion m c) :=
  h.onMix.echo.notify

theorem contribVersion {m rs c} (h : Part.Calm w x) : Part.Calm w (x.contribVersion m rs c) :=
  h.onMix.foldl (fun _ _ hy => hy.echo.notify) _

theorem applyMix {m f c} (h : Part.Calm w x) : Part.Calm w (x.applyMix m f c).2 := by
  have written : Part.Calm w (x.onMix m (Mix.write x.dsc.opState f)) := h.still rfl
  unfold Part.applyMix
  dsimp only
  repeat' split
  · exact h
  · exact written.maskChanged.mixVersion
  · exact written.mixVersion

theorem applyPut {m r k c} (h : Part.Calm w x) : Part.Calm w (x.applyPut m r k c).2 := by
  unfold Part.applyPut
  dsimp only
  repeat' split
  · exact h.onMix.withMxe.contribVersion
  · exact h.onMix.contribVersion
  · exact h

theorem applyDrop {m r c} (h : Part.Calm w x) : Part.Calm w (x.applyDrop m r c).2 := by
  unfold Part.applyDrop; split
  · exact h.onMix.contribVersion
  · exact h

theorem applyClear {m c} (h : Part.Calm w x) : Part.Calm w (x.applyClear m c).2 := by
  unfold Part.applyClear; split
  · exact h
  · exact h.onMix.contribVersion

theorem takeFreed {m r} (h : Part.Calm w x) : Part.Calm w (x.takeFreed m r) := by
  unfold Part.takeFreed; repeat' split
  all_goals exact h.still rfl

theorem takeLeavingEnd {m} (h : Part.Calm w x) : Part.Calm w (x.takeLeavingEnd m) := by
  unfold Part.takeLeavingEnd; split
  · exact h.onMix.mixVersion
  · exact h

theorem takeArrivingEnd {m} (h : Part.Calm w x) : Part.Calm w (x.takeArrivingEnd m) := by
  unfold Part.takeArrivingEnd; split
  · exact h.onMix.mixVersion
  · exact h

/-! ### Lane and restart -/

theorem drainMarks (h : Part.Calm w x) (ms : List Mark) : Part.Calm w (Part.drainMarks ms x) := by
  induction ms generalizing x with
  | nil => exact h.still rfl
  | cons m ms ih =>
    unfold Part.drainMarks
    split
    · refine ih ?_
      split
      · exact h.onPle (f := Ple.offer _) (Ple.queueInv_offer _ _)
      · exact h
    · exact h.still rfl

theorem dumpFill (h : Part.Calm w x) (n : Nat) : Part.Calm w (Part.dumpFill n x) := by
  induction n generalizing x with
  | zero => exact h
  | succ n ih =>
    unfold Part.dumpFill
    split
    · split
      · exact ih ((h.onPle (f := Ple.offer _) (Ple.queueInv_offer _ _)).still rfl)
      · exact h
    · exact h

theorem refill (h : Part.Calm w x) : Part.Calm w x.refill := by
  unfold Part.refill
  split
  · exact h
  · dsimp only
    split
    · exact (h.drainMarks _).dumpFill 32
    · exact h.drainMarks _

/-- Emptying the queue keeps its form: the next sequence stands. -/
theorem dumpStart (h : Part.Calm w x) : Part.Calm w x.dumpStart := by
  refine dumpFill ?_ 32
  exact h.onPle (f := fun l => { l with queue := [], marks := [], cursor := none, goBackDue := false, dump := .begin })
    fun inv => Ple.queueInv_empty _ rfl inv.1

theorem flush (h : Part.Calm w x) : Part.Calm w (x.onPle Ple.flush) :=
  h.onPle fun _ => Ple.queueInv_empty _ rfl (Nat.zero_lt_succ 255)

theorem mirrorTo {st} (h : Part.Calm w x) : Part.Calm w (x.mirrorTo st) := by
  unfold Part.mirrorTo
  dsimp only
  split
  · exact h.still rfl
  · exact h.withMirror.notify

theorem endEpisode (h : Part.Calm w x) : Part.Calm w x.endEpisode :=
  h.still rfl

theorem farFlag {a b} (h : Part.Calm w x) : Part.Calm w (x.farFlag a b) := by
  have restarted {y : Part} (hy : Part.Calm w y) : Part.Calm w y.restartHandling := by
    unfold Part.restartHandling
    dsimp only
    split
    · exact hy.flush.mirrorTo.notify
    · exact hy.flush.closeSession.dumpStart.notify
  unfold Part.farFlag Part.farRestart
  dsimp only
  repeat' split
  · exact h.still rfl
  · exact restarted (h.still rfl)
  · exact h.endEpisode
  · exact h

/-- A held request answered: one reply more, one held request less. -/
theorem answerHeldLink {c} (h : Part.Calm w x) : Part.Calm w (x.answerHeldLink c) := by
  refine h.trans ?_
  unfold Part.answerHeldLink
  split
  · next tag held =>
    refine ⟨id, id, ?_⟩
    simp [Part.owed, Part.answer, Part.reply, held]; omega
  · exact refl x

theorem answerHeldState {c} (h : Part.Calm w x) : Part.Calm w (x.answerHeldState c) := by
  refine h.trans ?_
  unfold Part.answerHeldState
  split
  · next tag held =>
    refine ⟨id, id, ?_⟩
    simp [Part.owed, Part.answer, Part.reply, held]
  · exact refl x

theorem serviceFlags {f} (h : Part.Calm w x) : Part.Calm w (x.serviceFlags f) := by
  have acked {y : Part} (hy : Part.Calm w y) : Part.Calm w y.restartAcked := by
    have answered := ((hy.still (y := { y with dsc := { y.dsc with restartFlag := false } }) rfl).answerHeldLink (c := .ok)).still
      (y := Part.onPle Ple.setTail _) rfl
    unfold Part.restartAcked
    dsimp only
    split
    · exact answered
    · exact answered.dumpStart
  unfold Part.serviceFlags
  dsimp only
  split
  · exact acked h.farFlag
  · exact h.farFlag

theorem linkChanged {o} (h : Part.Calm w x) : Part.Calm w (x.linkChanged o) := by
  have lane {y : Part} (hy : Part.Calm w y) : Part.Calm w (y.laneLink o) := by
    unfold Part.laneLink; repeat' split
    all_goals exact hy.still rfl
  have meter {y : Part} (hy : Part.Calm w y) : Part.Calm w y.meterLink := by
    unfold Part.meterLink; split <;> exact hy.still rfl
  unfold Part.linkChanged
  dsimp only
  split
  · exact meter (lane h.talkLink)
  · exact meter (lane h)

/-! ### Paths -/

theorem clockFollow (h : Part.Calm w x) : Part.Calm w x.clockFollow := by
  unfold Part.clockFollow; split
  · exact h.withScu.notify
  · exact h

theorem notifyPath {p o} (h : Part.Calm w x) : Part.Calm w (Part.notifyPath p x o) := by
  unfold Part.notifyPath; split
  · exact h.notify
  · exact h

theorem anchoring (h : Part.Calm w x) : Part.Calm w x.anchoring.1 := by
  unfold Part.anchoring; repeat' split
  · exact h
  · exact h.onPath (p := .a)
  · exact h.onPath (p := .b)
  · exact h

theorem fmuReport {n} (h : Part.Calm w x) : Part.Calm w (x.fmuReport n) := by
  have taken : Part.Calm w { x with fmu := x.fmuAfter n } := h.still rfl
  unfold Part.fmuReport
  dsimp only
  repeat' split
  · exact taken.notify.clockFollow.linkChanged
  · exact taken.clockFollow.linkChanged
  · exact taken.notify.clockFollow
  · exact taken.clockFollow

theorem report {o} (h : Part.Calm w x) : Part.Calm w (x.report o) :=
  h.anchoring.notifyPath.notifyPath.fmuReport

theorem changePath {p f} (h : Part.Calm w x) : Part.Calm w (x.changePath p f) :=
  h.onPath.report

theorem pathsStandby (h : Part.Calm w x) : Part.Calm w x.pathsStandby := by
  have aligned : Part.Calm w x.standbyAligns := by
    unfold Part.standbyAligns; split
    · exact h.withPaths.anchoring.notifyPath.notifyPath
    · exact h
  have entered := ((aligned.still (y := { x.standbyAligns with pa := x.standbyAligns.pa.standby, pb := x.standbyAligns.pb.standby }) rfl).notifyPath
    (p := .a) (o := x.standbyAligns)).notifyPath (p := .b) (o := x.standbyAligns) |>.still (y := Part.onFmu Fmu.standby _) rfl
  unfold Part.pathsStandby
  dsimp only
  split
  · exact entered.clockFollow
  · exact entered.notify.clockFollow.linkChanged

theorem takeLock {p} (h : Part.Calm w x) : Part.Calm w (x.takeLock p) := by
  unfold Part.takeLock
  dsimp only
  split
  · exact h.onPath
  · exact h

theorem takeIdent {p} (h : Part.Calm w x) : Part.Calm w (x.takeIdent p) := by
  unfold Part.takeIdent
  dsimp only
  split
  · exact h.farFlag.changePath
  · exact h

theorem takeStall {p} (h : Part.Calm w x) : Part.Calm w (x.takeStall p) := by
  unfold Part.takeStall
  dsimp only
  repeat' split
  · exact h.onPath
  · exact h.onPath.notify
  · exact h

/-! ### Frames -/

theorem arrive {p f} (h : Part.Calm w x) : Part.Calm w (x.arrive p f).2 := by
  have judged {d} {y : Part} (hy : Part.Calm w y) : Part.Calm w (y.judgeArrival p f d) := by
    unfold Part.judgeArrival; repeat' split
    · exact hy.onPath
    · exact hy.still rfl
    · exact hy.still rfl
  have fromRef {d} : Part.Calm w (x.refArrival p f d) := by
    unfold Part.refArrival; repeat' split
    · exact (judged h).still rfl
    · exact (judged h).still rfl
    · exact h.still rfl
    · exact (judged h).still rfl
  unfold Part.arrive
  dsimp only
  repeat' split
  · exact h.still rfl
  · exact h
  · exact h
  · exact fromRef
  · exact judged h

theorem frame {p b} (h : Part.Calm w x) : Part.Calm w (x.frame p b) := by
  have ident {f} : Part.Calm w (x.identFrame p f) := by
    unfold Part.identFrame; split
    · exact h.changePath
    · exact h.onPath
  have align {f} : Part.Calm w (x.alignFrame p f) := by
    unfold Part.alignFrame
    dsimp only
    repeat' split
    · exact h
    · exact h.arrive.changePath
    · exact h.arrive
    · exact h.arrive
  have usable {f} : Part.Calm w (x.usableFrame p f) := by
    have offered {y : Part} (hy : Part.Calm w y) : Part.Calm w (y.offerFull p f) := by
      unfold Part.offerFull; split
      · exact hy
      · exact hy.arrive
    unfold Part.usableFrame
    dsimp only
    repeat' split
    · exact h.changePath
    · exact offered h.onPath.serviceFlags
    · exact offered h.onPath
  unfold Part.frame Part.goodFrame
  repeat' split
  · exact h
  · exact h
  · exact h
  · exact h.onPath
  · exact ident
  · exact align
  · exact h
  · exact usable
  · exact usable
  · exact h.onPath

/-! ### Records applied -/

theorem doUpdate {cc tc u} (h : Part.Calm w x) : Part.Calm w (x.doUpdate cc tc u).2 := by
  cases u with
  | setChannel ch f => exact h.applyChannel
  | setMix m f => exact h.applyMix
  | putContrib m b i code =>
    unfold Part.doUpdate
    dsimp only
    split
    · exact h.applyPut
    · exact h
  | dropContrib m b i =>
    unfold Part.doUpdate
    dsimp only
    split
    · exact h.applyDrop
    · exact h
  | clearMix m => exact h.applyClear
  | openTalk s pri mode set =>
    unfold Part.doUpdate
    dsimp only
    repeat' split
    · exact h
    · exact h.talkOpen
    · exact h
  | closeTalk s =>
    unfold Part.doUpdate
    dsimp only
    repeat' split
    · exact h.closeSession
    · exact h
    · exact h
  | setTalkCfg f => exact h.applyTalkCfg
  | setLock f => exact h.applyLock

theorem applyUpdate {u} (h : Part.Calm w x) : Part.Calm w (x.applyUpdate u) := by
  obtain e | ⟨why, e⟩ := x.applyUpdate_eq u
  · rw [e]; exact h.doUpdate
  · rw [e]; exact h.doUpdate.refuse

theorem applyMsg {msg} (h : Part.Calm w x) : Part.Calm w (x.applyMsg msg) := by
  have told {n : Notice} {y : Part} (hy : Part.Calm w y) : Part.Calm w (y.echoNotice n) := by
    unfold Part.echoNotice; split
    · exact hy.notify
    · exact hy
  have mirrored (m : Mirror) : Part.Calm w { x with mirror := m } := h.still rfl
  cases msg with
  | update u => exact h.applyUpdate
  | echoChannel ch e =>
    have phantom {y : Part} {old now} (hy : Part.Calm w y) : Part.Calm w (y.deskPhantomDone ch old now) := by
      unfold Part.deskPhantomDone; repeat' split
      · exact told hy
      · exact hy
      · exact hy
    simp only [Part.applyMsg, Part.echoedChannel]
    repeat' split
    · exact h
    · exact phantom (told (mirrored _))
    · exact h
  | echoMix m e =>
    simp only [Part.applyMsg, Part.echoedMix]
    repeat' split
    · exact h
    · exact told (mirrored _)
    · exact h
  | echoContrib m r e =>
    simp only [Part.applyMsg, Part.echoedContrib]
    repeat' split
    · exact h
    · exact told (mirrored _)
    · exact h
  | echoTalk s e =>
    simp only [Part.applyMsg, Part.echoedTalk]
    split
    · exact told (mirrored _)
    · exact h
  | echoTalkCfg c =>
    simp only [Part.applyMsg, Part.echoedCfg]
    split
    · exact told (mirrored _)
    · exact h
  | echoLock l =>
    simp only [Part.applyMsg, Part.echoedLock]
    split
    · exact told (mirrored _)
    · exact h
  | refused id reason n => exact h.notify
  | dumpBegin => exact h.mirrorTo
  | dumpEnd =>
    simp only [Part.applyMsg, Part.dumpEnded]
    split
    · exact notify (h.still rfl)
    · exact h

theorem takeRecord (h : Part.Calm w x) : Part.Calm w x.takeRecord := by
  unfold Part.takeRecord Part.judgeRecord
  dsimp only
  repeat' split
  · exact h
  · exact h.still rfl
  · exact applyMsg (h.still rfl)
  · exact h.still rfl
  · exact h.still rfl
  · exact h.still rfl

/-! ### Operating states and the clock -/

theorem standbyEntry (h : Part.Calm w x) : Part.Calm w x.standbyEntry := by
  have paths := (h.still (y := x.setOp .standby 0) rfl).pathsStandby
  unfold Part.standbyEntry
  dsimp only
  split
  · exact paths
  · exact paths.channelsStandby.mastersEval.talkStandby

theorem operateEntry (h : Part.Calm w x) : Part.Calm w x.operateEntry := by
  have paths : Part.Calm w (x.setOp .operate 0).pathsOperate := h.still rfl
  unfold Part.operateEntry
  dsimp only
  split
  · exact paths
  · exact paths.channelsOperate.mastersEval

theorem takeWake (h : Part.Calm w x) : Part.Calm w x.takeWake := by
  unfold Part.takeWake; split
  · exact h.operateEntry.answerHeldState
  · exact h

theorem takeClockWindow (h : Part.Calm w x) : Part.Calm w x.takeClockWindow := by
  unfold Part.takeClockWindow
  dsimp only
  repeat' split
  · exact h.still rfl
  · exact h.withScu.notify
  · exact h.still rfl
  · exact h

theorem takeQualified (h : Part.Calm w x) : Part.Calm w x.takeQualified := by
  unfold Part.takeQualified; split
  · exact h.withScu.notify
  · exact h

/-! ### The sample event -/

theorem mixCompute {m} (h : Part.Calm w x) : Part.Calm w (x.mixCompute m) := by
  unfold Part.mixCompute
  dsimp only
  repeat' split
  all_goals first | exact h.still rfl | exact notify (h.still rfl)

theorem takeLane (h : Part.Calm w x) : Part.Calm w x.takeLane := by
  unfold Part.takeLane; split
  · exact (h.onPle (f := fun l => (Ple.takeSyms x.quiet 4 l).2) (Ple.queueInv_takeSyms _ _ _)).still rfl
  · exact h

theorem playout {e} (h : Part.Calm w x) : Part.Calm w (x.playout e) := by
  have good {f} {y : Part} (hy : Part.Calm w y) : Part.Calm w (y.playGood e f) := by
    have symbols : Part.Calm w (y.onPle fun l => l.takeInAll f.syms) := hy.onPle (Ple.queueInv_takeInAll _ _)
    have acked {z : Part} (hz : Part.Calm w z) : Part.Calm w (z.onPle (Ple.takeAck z.quiet f.ack)).refill :=
      (hz.onPle (Ple.queueInv_takeAck _ _ _)).refill
    unfold Part.playGood
    dsimp only
    repeat' split
    · exact (acked (symbols.onPle (Ple.queueInv_takeGoBack _))).still rfl
    · exact (acked symbols).still rfl
    · exact acked (symbols.onPle (Ple.queueInv_takeGoBack _))
    · exact acked symbols
  have played : Part.Calm w { x with
      fmu := (x.fmu.playout.2.concealed x.fmu.playout.1).2
      bus := { x.bus with played := (x.fmu.playout.2.concealed x.fmu.playout.1).1 } } := h.still rfl
  unfold Part.playout
  dsimp only
  refine onPle ?_ (Ple.queueInv_tailTick _)
  split
  · exact good played
  · exact played.onPle fun inv => inv.of_queue (Ple.breakRecord_queue _).1 (Ple.breakRecord_queue _).2

theorem stageWork (h : Part.Calm w x) : Part.Calm w x.stageWork := by
  have samples : Part.Calm w x.talkSamples := by
    unfold Part.talkSamples
    dsimp only
    split <;> exact h.still rfl
  unfold Part.stageWork Part.mixAll
  split
  · exact (samples.still (y := { x.talkSamples with bus := { x.talkSamples.bus with mixOut := [] } }) rfl).foldl
      (fun _ _ hy => hy.mixCompute) _
  · exact h

theorem sampleWork {i} (h : Part.Calm w x) : Part.Calm w (x.sampleWork i) := by
  have ported : Part.Calm w (x.takePorts i) := h.still rfl
  have timed : Part.Calm w (x.takePorts i).timers := by
    refine ported.trans ⟨fun inv => ?_, fun size => ?_, ?_⟩
    · rw [Part.timers_ple]; exact Ple.queueInv_timerTick _ _ inv
    · rw [Part.timers_cmp]; exact size
    · unfold Part.owed; rw [Part.timers_cmp, Part.timers_dsc]; split <;> exact le_rfl
  have conditioned := timed.still (y := (x.takePorts i).timers.stageCondition)
    (by simp only [Part.queues, Part.stageCondition_ple, Part.stageCondition_cmp, Part.stageCondition_dsc])
  have worked := (conditioned.takeLane.playout (e := i.expiryFirst)).stageWork
  have metered := worked.still
    (y := (((x.takePorts i).timers.stageCondition.takeLane.playout i.expiryFirst).stageWork).meters i.emitFirst)
    (by simp only [Part.queues, Part.meters_ple, Part.meters_cmp, Part.meters_dsc])
  rw [Part.sampleWork_eq]
  refine Part.Calm.still (x := (x.atCompose i).sendFrame) (metered.still (y := Part.sendFrame _) rfl) ?_
  simp only [Part.queues, Part.outputs_ple, Part.outputs_cmp, Part.outputs_dsc]

end Part.Calm

end Sys2Proof.Machine
end

section
/-!
PROOFS. The reply queue and the notice queue (R165, R169) and the lane transmit queue (R68): every move but the execution of a request
and an entry reply is calm, and these two have their reply places free.
-/

namespace Sys2Proof.Machine

/-- Between two parts the queues keep their form and their bounds, and at most `k` replies are added or owed. -/
structure Part.Replying (k : Nat) (w x : Part) : Prop where
  lane : w.ple.QueueInv → x.ple.QueueInv
  notices : w.cmp.notices.length ≤ 32 → x.cmp.notices.length ≤ 32
  owed : x.owed ≤ w.owed + k

theorem Part.Calm.replying {w x : Part} (h : Part.Calm w x) (k : Nat) : Part.Replying k w x :=
  ⟨h.lane, h.notices, h.owed.trans (Nat.le_add_right ..)⟩

/-- One reply more. -/
theorem Part.Calm.reply {w x : Part} (h : Part.Calm w x) (tag : Nat) (code : ReplyCode) (body : ReplyBody) :
    Part.Replying 1 w (x.reply tag code body) := by
  refine ⟨h.lane, h.notices, ?_⟩
  have := h.owed
  simp only [Part.owed, Part.reply, List.length_append, List.length_cons, List.length_nil] at this ⊢
  omega

theorem Part.Calm.answer {w x : Part} (h : Part.Calm w x) (tag : Nat) (code : ReplyCode) :
    Part.Replying 1 w (x.answer tag code) :=
  h.reply tag code .none

theorem Part.Replying.calm {k : Nat} {w x y : Part} (h : Part.Replying k w x) (h' : Part.Calm x y) : Part.Replying k w y :=
  ⟨h'.lane ∘ h.lane, h'.notices ∘ h.notices, h'.owed.trans h.owed⟩

/-! ### Requests carried out -/

theorem Part.setState_replying (tag t : Nat) (x : Part) : Part.Replying 1 x (x.setState tag t) := by
  have standby (y : Part) : Part.Calm y y.standbyEntry := (Part.Calm.refl y).standbyEntry
  have waking : Part.Replying 1 x { x with dsc := { x.dsc with opState := .waking, wakeTimer := 3840, heldState := some tag } } := by
    refine ⟨id, id, ?_⟩
    simp only [Part.owed, Option.isSome_some, Bool.toNat_true]
    omega
  have refreshed (y : Part) : Part.Calm y y.refreshPreamps := by
    unfold Part.refreshPreamps
    split
    · exact (Part.Calm.refl y).still rfl
    · exact Part.Calm.refl y
  unfold Part.setState
  split
  · exact (Part.Calm.refl x).answer _ _
  · exact waking.calm (refreshed _)
  · exact ((Part.Calm.refl x).answerHeldState.answer _ _).calm (standby _)
  · exact (Part.Calm.refl x).answer _ _
  · exact (standby x).answer _ _
  · exact (Part.Calm.refl x).answer _ _

theorem Part.linkReset_replying (tag : Nat) (x : Part) : Part.Replying 1 x (x.linkReset tag) := by
  have held : Part.Replying 1 x { x with dsc := { x.dsc with restartFlag := true, heldLink := some tag } } := by
    refine ⟨id, id, ?_⟩
    simp only [Part.owed, Option.isSome_some, Bool.toNat_true]
    omega
  have emptied (y : Part) : Part.Calm y (y.onPle fun l => { l.flush with dump := .idle }) :=
    (Part.Calm.refl y).onPle fun _ => Ple.queueInv_empty _ rfl (Nat.zero_lt_succ 255)
  unfold Part.linkReset
  dsimp only
  refine held.calm ?_
  split
  · exact (emptied _).mirrorTo.notify
  · exact (emptied _).closeSession.notify

/-- RESET_SOFT answers itself, and the request staged behind it. -/
theorem Part.resetSoft_replying (tag : Nat) (x : Part) :
    Part.Replying (1 + x.cmp.executing.isSome.toNat) x (x.resetSoft tag) := by
  have held : Part.Calm x ((x.answerHeldState .aborted).answerHeldLink .aborted) := (Part.Calm.refl x).answerHeldState.answerHeldLink
  have executing : ((x.answerHeldState .aborted).answerHeldLink .aborted).cmp.executing = x.cmp.executing := by
    unfold Part.answerHeldLink Part.answerHeldState
    split <;> split <;> rfl
  have answered := (held.answer tag .ok).owed
  have aborted : (((x.answerHeldState .aborted).answerHeldLink .aborted).answer tag .ok).abortStaged.owed ≤
      x.owed + (1 + x.cmp.executing.isSome.toNat) := by
    unfold Part.abortStaged
    split
    · next r waits =>
      have waits : x.cmp.executing = some r := executing.symm.trans waits
      rw [waits]
      have := ((Part.Calm.refl (((x.answerHeldState .aborted).answerHeldLink .aborted).answer tag .ok)).answer r.tag .aborted).owed
      simp only [Option.isSome_some, Bool.toNat_true]
      omega
    · omega
  have soft (z : Part) : z.softBlocks.ple = Ple.powerOn ∧ z.softBlocks.cmp = z.cmp ∧
      z.softBlocks.dsc.heldState = none ∧ z.softBlocks.dsc.heldLink = none := by
    unfold Part.softBlocks Part.refreshPreamps
    dsimp only
    repeat' split
    all_goals exact ⟨rfl, rfl, rfl, rfl⟩
  obtain ⟨ple, cmp, state, link⟩ := soft ((((x.answerHeldState .aborted).answerHeldLink .aborted).answer tag .ok).abortStaged)
  refine ⟨fun _ => ?_, fun _ => Nat.zero_le _, ?_⟩
  · show (Part.softBlocks _).ple.QueueInv
    rw [ple]
    exact Ple.queueInv_empty _ rfl (by decide)
  · refine le_trans ?_ aborted
    show (Part.softBlocks _).cmp.replies.length + (Part.softBlocks _).dsc.heldState.isSome.toNat +
      (Part.softBlocks _).dsc.heldLink.isSome.toNat ≤ _
    rw [cmp, state, link]
    simp only [Part.owed, Option.isSome_none, Bool.toNat_false]
    omega

theorem Part.setPath_calm (p : Path) (f : PathSet) (x : Part) : Part.Calm x (x.setPath p f).2 := by
  have written : Part.Calm x { x.onPath p (PathCtl.configure x.dsc.opState f) with
      pair := (x.onPath p (PathCtl.configure x.dsc.opState f)).pair.write f } :=
    (Part.Calm.refl x).onPath.still rfl
  unfold Part.setPath
  dsimp only
  split
  · exact Part.Calm.refl x
  · exact written.report

theorem Part.act_replying (tag : Nat) (r : Request) (x : Part) (other : r ≠ .resetSoft) : Part.Replying 1 x (x.act tag r) := by
  have still := Part.Calm.refl x
  cases r with
  | setState t => exact Part.setState_replying tag t x
  | resetSoft => exact absurd rfl other
  | linkReset =>
    show Part.Replying 1 x (x.askLinkReset tag)
    unfold Part.askLinkReset
    split
    · exact still.answer _ _
    · exact Part.linkReset_replying tag x
  | setNoticeMask m =>
    show Part.Replying 1 x (x.askMask tag m)
    unfold Part.askMask
    split
    · exact still.answer _ _
    · exact (still.still (y := x.onCmp _) rfl).answer _ _
  | setPath n f =>
    show Part.Replying 1 x (x.askSetPath tag n f)
    unfold Part.askSetPath
    split
    · exact (Part.setPath_calm _ f x).answer _ _
    · exact still.answer _ _
  | getPath n =>
    show Part.Replying 1 x (x.askGetPath tag n)
    unfold Part.askGetPath
    split
    · exact still.reply _ _ _
    · exact still.answer _ _
  | setPlayout d =>
    show Part.Replying 1 x (x.askPlayout tag d)
    unfold Part.askPlayout
    split
    · exact still.answer _ _
    · exact still.onFmu.answer _ _
  | setClock s =>
    show Part.Replying 1 x (x.setClock tag s)
    unfold Part.setClock
    split
    · exact still.answer _ _
    · exact still.withScu.notify.answer _ _
  | getMix m =>
    show Part.Replying 1 x (x.askGetMix tag m)
    unfold Part.askGetMix Part.clearClip
    split
    · exact still.onMix.reply _ _ _
    · exact still.reply _ _ _
  | meterRead a n => exact (still.still (y := (x.readMeters a n).2) rfl).reply _ _ _
  | update u =>
    show Part.Replying 1 x (x.askUpdate tag u)
    unfold Part.askUpdate Part.forward
    dsimp only
    repeat' split
    · exact still.answer _ _
    · next admitted => exact (still.offered admitted).answer _ _
    · exact still.answer _ _
    · exact still.doUpdate.answer _ _
  | _ => exact still.reply _ _ _

/-- A request carried out adds one reply, or is RESET_SOFT, which may add a second. -/
theorem Part.carryOut_replying (r : HostRequest) (x : Part) :
    Part.Replying (if r.req = .resetSoft then 1 + x.cmp.executing.isSome.toNat else 1) x (x.carryOut r) := by
  have widen {k : Nat} {y : Part} (h : Part.Replying 1 x y) (le : 1 ≤ k) : Part.Replying k x y :=
    ⟨h.lane, h.notices, by have := h.owed; omega⟩
  have one : 1 ≤ (if r.req = .resetSoft then 1 + x.cmp.executing.isSome.toNat else 1) := by split <;> omega
  obtain ⟨code, h⟩ | ⟨u, code, -, -, -, h⟩ | ⟨-, h⟩ := x.carryOut_cases r
  · rw [h]; exact widen ((Part.Calm.refl x).answer _ _) one
  · rw [h]; exact widen ((Part.Calm.refl x).doUpdate.answer _ _) one
  · rw [h]
    cases req : r.req with
    | resetSoft => exact Part.resetSoft_replying r.tag x
    | _ => exact Part.act_replying _ _ _ (by simp [Request.clamp])

/-! ### The other moves -/

/-- A notice that begins leaves the queue, and NOTICES_LOST takes its place at most. -/
theorem Cmp.transmitNotice_queues (c : Cmp) :
    c.transmitNotice.replies = c.replies ∧ c.transmitNotice.notices.length ≤ c.notices.length := by
  unfold Cmp.transmitNotice Cmp.sendNotice
  repeat' split
  · next waits _ => rw [waits]; exact ⟨rfl, by simp⟩
  · next waits _ => rw [waits]; exact ⟨rfl, by simp⟩
  · exact ⟨rfl, le_rfl⟩

theorem Cmp.transmit_queues (b : Bool) (c : Cmp) :
    (c.transmit b).replies.length ≤ c.replies.length ∧ (c.transmit b).notices.length ≤ c.notices.length := by
  have notice := c.transmitNotice_queues
  unfold Cmp.transmit
  split
  · exact ⟨notice.1 ▸ le_rfl, notice.2⟩
  · split
    · next waits => rw [waits]; exact ⟨by simp, le_rfl⟩
    · next none => exact ⟨by rw [notice.1, none], notice.2⟩

theorem Part.takeTransmit_calm (x : Part) : Part.Calm x x.takeTransmit := by
  obtain ⟨replies, notices⟩ := x.cmp.transmit_queues (Config.noticeFirst x.bus.freeCount)
  have owed (y : Part) (cmp : y.cmp = x.cmp.transmit (Config.noticeFirst x.bus.freeCount)) (dsc : y.dsc = x.dsc)
      (ple : y.ple = x.ple) : Part.Calm x y := by
    refine ⟨fun inv => ple ▸ inv, fun size => cmp ▸ notices.trans size, ?_⟩
    unfold Part.owed
    rw [cmp, dsc]
    omega
  unfold Part.takeTransmit
  dsimp only
  repeat' split
  · exact owed _ rfl rfl rfl
  · exact owed _ rfl rfl rfl
  · exact Part.Calm.refl x

/-- An entry reply takes one of three places free, or is lost. -/
theorem Part.entryReply_replying (tag : Nat) (code : ReplyCode) (x : Part) :
    Part.Replying (if 3 ≤ x.freeReplies then 1 else 0) x (x.entryReply tag code) := by
  unfold Part.entryReply
  split
  · exact (Part.Calm.refl x).answer _ _
  · exact ⟨id, id, le_rfl⟩

/-- Every move but the execution of a request, an entry reply and a reset is calm. -/
theorem Part.Move.calm_or {x y : Part} (move : Part.Move x y) :
    Part.Calm x y ∨
    (∃ tag code, y = x.entryReply tag code) ∨
    (∃ r, y = x.carryOut r ∧ 1 ≤ x.freeReplies ∧ (r.req = .resetSoft → x.cmp.executing.isSome = true → 2 ≤ x.freeReplies)) ∨
    (∃ st pin, y = x.restart st pin) := by
  have still := Part.Calm.refl x
  cases move with
  | entry tag code => exact .inr (.inl ⟨tag, code, rfl⟩)
  | carry r _ place second => exact .inr (.inr (.inl ⟨r, rfl, place, second⟩))
  | restart st pin => exact .inr (.inr (.inr ⟨st, pin, rfl⟩))
  | reAnchor => unfold Part.takeReAnchor; split <;> exact .inl (still.still rfl)
  | lock p => exact .inl still.takeLock
  | ident p => exact .inl still.takeIdent
  | light p =>
    unfold Part.takeLight; split
    · exact .inl still.changePath
    · exact .inl still
  | silence p =>
    unfold Part.takeSilence; split
    · exact .inl still.changePath
    · exact .inl still
  | stall p => exact .inl still.takeStall
  | errors p =>
    unfold Part.takeErrors; split
    · exact .inl still.changePath
    · exact .inl still
  | recovered p =>
    unfold Part.takeRecovered; split
    · exact .inl still.changePath
    · exact .inl still
  | burst p =>
    unfold Part.takeBurst; split
    · exact .inl still.onPath
    · exact .inl still
  | cycle p =>
    unfold Part.takeCycle; split
    · exact .inl still.onPath
    · exact .inl still
  | frame p bits => exact .inl still.frame
  | lightChange p lit => exact .inl still.onPath
  | record => exact .inl still.takeRecord
  | tailEnd => exact .inl (still.onPle (Ple.queueInv_takeTailEnd _))
  | goBack => exact .inl (still.onPle (Ple.queueInv_takeGoBack _))
  | clockWindow => exact .inl still.takeClockWindow
  | qualified => exact .inl still.takeQualified
  | clockEdge => unfold Part.clockEdge; split <;> exact .inl (still.still rfl)
  | wake => exact .inl still.takeWake
  | walk n => exact .inl still.takeWalkStep
  | rise n => exact .inl still.takeRiseEnd
  | fall n => exact .inl still.takeFallEnd
  | freed m r => exact .inl still.takeFreed
  | leaving m => exact .inl still.takeLeavingEnd
  | arriving m => exact .inl still.takeArrivingEnd
  | fadeEnd d => exact .inl still.takeFadeEnd
  | limit s => exact .inl still.takeLatchedLimit
  | port f _ replies notices =>
    refine .inl ⟨id, fun size => ?_, ?_⟩
    · show (f x.cmp).notices.length ≤ 32
      rw [notices]; exact size
    · show (f x.cmp).replies.length + _ + _ ≤ _
      rw [replies]; exact le_rfl
  | transmit => exact .inl x.takeTransmit_calm
  | sample i => exact .inl still.sampleWork
  | pin => exact .inl (still.still rfl)

/-- Settles O40: every operation of the blocks keeps the form of the transmit queue, and a reset empties it. -/
theorem laneQueueInvariantKept : Obligations.LaneQueueInvariantKept := by
  refine step_keeps (I := fun x => x.ple.QueueInv) fun x y move h => ?_
  obtain calm | ⟨tag, code, rfl⟩ | ⟨r, rfl, -, -⟩ | ⟨st, pin, rfl⟩ := move.calm_or
  · exact calm.lane h
  · exact (x.entryReply_replying tag code).lane h
  · exact (x.carryOut_replying r).lane h
  · exact Ple.queueInv_empty _ rfl (Nat.zero_lt_succ 255)

/-- Settles O34: a calm move adds no reply, and a request carried out or an entry reply has its places free. -/
theorem queueInvariantKept : Obligations.QueueInvariantKept := by
  refine step_keeps fun x y move h => ?_
  obtain ⟨replies, notices⟩ := h
  have free : x.freeReplies = 8 - x.owed := rfl
  change x.owed ≤ 8 at replies
  obtain calm | ⟨tag, code, rfl⟩ | ⟨r, rfl, place, second⟩ | ⟨st, pin, rfl⟩ := move.calm_or
  · exact ⟨calm.owed.trans replies, calm.notices notices⟩
  · have entry := x.entryReply_replying tag code
    refine ⟨entry.owed.trans ?_, entry.notices notices⟩
    split <;> omega
  · have carried := x.carryOut_replying r
    refine ⟨carried.owed.trans ?_, carried.notices notices⟩
    split
    · next soft =>
      cases staged : x.cmp.executing.isSome with
      | true => have := second soft staged; simp only [Bool.toNat_true]; omega
      | false => simp only [Bool.toNat_false]; omega
    · omega
  · exact ⟨Nat.zero_le 8, Nat.zero_le 32⟩

end Sys2Proof.Machine
end

section
/-!
PROOFS. The talk tables (R133, R134, R136 to R142) as a view: who holds each destination, what each session requests and was granted,
the masks and the link. A grant and a loss keep the agreement of the tables; the agreement with exceptions, `TalkOk P`, is what holds
between a change of a mask, a set or the link and the judgement that follows it.
-/

namespace Sys2Proof.Machine

/-! ### The view -/

/-- What the agreement of the talk tables reads. -/
structure TalkView where
  dests : List (DestState × Option Source)
  mixes : List (DestState × Nat)
  session : Source → Option SessionEcho
  cue : Nat
  up : Bool
  desk : Bool

namespace TalkView

/-- The state and holder of a destination. -/
def dest (v : TalkView) (d : Nat) : DestState × Option Source :=
  v.dests.getD d (.free, none)

/-- What the MXE holds of a mix destination: its state and its mask. -/
def mix (v : TalkView) (m : Nat) : DestState × Nat :=
  v.mixes.getD m (Mix.powerOn.dest, Mix.powerOn.talkMask)

/-- The mask of a destination. -/
def mask (v : TalkView) (d : Nat) : Nat :=
  if d = 16 then v.cue else (v.mix d).2

/-- A session is eligible for a destination (R134). -/
def elig (v : TalkView) (z : SessionEcho) (d : Nat) : Bool :=
  z.requested.testBit d && (decide (v.mask d < z.priority) || z.priority == 7) && (d != 16 || v.up)

/-- A destination takes a state and a holder. -/
def put (d : Nat) (st : DestState) (h : Option Source) (v : TalkView) : TalkView :=
  { v with
    dests := updAt d (fun _ => (st, h)) v.dests
    mixes := if d = 16 then v.mixes else updAt d (fun e => (st, e.2)) v.mixes }

/-- A change of one session. -/
def onSession (s : Source) (g : SessionEcho → SessionEcho) (v : TalkView) : TalkView :=
  { v with session := fun t => if t = s then (v.session s).map g else v.session t }

/-- A grant. -/
def grant (s : Source) (d : Nat) (v : TalkView) : TalkView :=
  (v.put d .held (some s)).onSession s fun z => { z with granted := setAdd z.granted d }

/-- A loss by its holder. -/
def lose (d : Nat) (h : Source) (v : TalkView) : TalkView :=
  (v.put d .fading (some h)).onSession h fun z => { z with granted := setDel z.granted d }

theorem put_dest (d st h) (v : TalkView) (k : Nat) :
    (v.put d st h).dest k = if k = d ∧ d < v.dests.length then (st, h) else v.dest k :=
  updAt_getD d _ _ v.dests k

theorem put_mix (d st h) (v : TalkView) (k : Nat) :
    (v.put d st h).mix k = if k = d ∧ d ≠ 16 ∧ d < v.mixes.length then (st, (v.mix k).2) else v.mix k := by
  unfold put mix
  dsimp only
  split
  · next e => simp [e]
  · next ne =>
    rw [updAt_getD]
    split <;> rename_i c
    · obtain ⟨rfl, lt⟩ := c
      simp [ne, lt]
    · rw [if_neg fun h => c ⟨h.1, h.2.2⟩]

@[simp] theorem put_mask (d st h) (v : TalkView) (k : Nat) : (v.put d st h).mask k = v.mask k := by
  unfold mask
  rw [put_mix]
  split
  · rfl
  · split <;> rfl

@[simp] theorem put_elig (d st h) (v : TalkView) (z : SessionEcho) (k : Nat) : (v.put d st h).elig z k = v.elig z k := by
  unfold elig
  rw [put_mask]; rfl

@[simp] theorem onSession_elig (s g) (v : TalkView) (z : SessionEcho) (k : Nat) : (v.onSession s g).elig z k = v.elig z k := rfl

@[simp] theorem lose_elig (d h) (v : TalkView) (z : SessionEcho) (k : Nat) : (v.lose d h).elig z k = v.elig z k :=
  put_elig d _ (some h) v z k

@[simp] theorem grant_elig (s d) (v : TalkView) (z : SessionEcho) (k : Nat) : (v.grant s d).elig z k = v.elig z k :=
  put_elig d _ (some s) v z k

/-- Eligibility reads the priority and the requested set. -/
theorem elig_granted (v : TalkView) (z : SessionEcho) (n k : Nat) : v.elig { z with granted := n } k = v.elig z k := rfl

end TalkView

/-! ### Sets of destinations -/

theorem testBit_setAdd (a d k : Nat) : (setAdd a d).testBit k = (a.testBit k || decide (d = k)) := by
  simp [setAdd, Nat.testBit_or, Nat.one_shiftLeft, Nat.testBit_two_pow]

theorem testBit_setDel (a d k : Nat) : (setDel a d).testBit k = (a.testBit k && decide (d ≠ k)) := by
  simp only [setDel, setMinus, Nat.testBit_xor, Nat.testBit_and, Nat.one_shiftLeft, Nat.testBit_two_pow]
  by_cases e : d = k <;> cases a.testBit k <;> simp [e]

/-- A session after a loss: the holder's granted set lost the destination, the rest stands. -/
theorem TalkView.lose_session (v : TalkView) {d : Nat} {s t : Source} {z : SessionEcho} (hz : (v.lose d s).session t = some z) :
    ∃ y, v.session t = some y ∧ z.priority = y.priority ∧ z.requested = y.requested ∧
      ∀ k, z.granted.testBit k = (y.granted.testBit k && (decide (t ≠ s) || decide (d ≠ k))) := by
  change (if t = s then (v.session s).map _ else v.session t) = some z at hz
  split at hz
  · next e =>
    subst e
    obtain ⟨y, hy, rfl⟩ := Option.map_eq_some_iff.mp hz
    exact ⟨y, hy, rfl, rfl, fun k => by simp [testBit_setDel]⟩
  · next e => exact ⟨z, hz, rfl, rfl, fun k => by simp [e]⟩

theorem TalkView.lose_no_session (v : TalkView) (d : Nat) (s : Source) {t : Source} (none : v.session t = none) :
    (v.lose d s).session t = Option.none := by
  show (if t = s then (v.session s).map _ else v.session t) = Option.none
  split
  · next e => rw [← e, none]; rfl
  · exact none

/-! ### The agreement of the tables -/

/-- The talk tables agree, but that a session may hold a destination of the exceptions `P` without being eligible for it. -/
structure TalkOk (P : Source → Nat → Prop) (v : TalkView) : Prop where
  dests_length : v.dests.length = 17
  mixes_length : v.mixes.length = 16
  free : ∀ d, (v.dest d).1 = .free ↔ (v.dest d).2 = none
  held : ∀ d s, (v.dest d).1 = .held → (v.dest d).2 = some s → ∃ z, v.session s = some z ∧ z.granted.testBit d = true
  granted : ∀ s z d, v.session s = some z → z.granted.testBit d = true →
    d < 17 ∧ (v.dest d).1 = .held ∧ (v.dest d).2 = some s
  eligible : ∀ s z d, v.session s = some z → z.granted.testBit d = true → ¬ P s d → v.elig z d = true
  handed : ∀ m, m < 16 → (v.mix m).1 = (v.dest m).1
  desk : v.desk = true → ∀ s, v.session s = none

namespace TalkOk

variable {P Q : Source → Nat → Prop} {v : TalkView}

/-- A destination with a holder is one of the 17. -/
theorem lt_of_holder (h : TalkOk P v) {d : Nat} {s : Source} (holder : (v.dest d).2 = some s) : d < 17 := by
  by_contra out
  have : v.dest d = (.free, none) := List.getD_eq_default _ _ (by rw [h.dests_length]; omega)
  rw [this] at holder
  cases holder

/-- More exceptions, the same agreement. -/
theorem mono (h : TalkOk P v) (le : ∀ s d, P s d → Q s d) : TalkOk Q v :=
  ⟨h.dests_length, h.mixes_length, h.free, h.held, h.granted, fun s z d hs hd q => h.eligible s z d hs hd fun p => q (le s d p),
    h.handed, h.desk⟩

/-- Fewer exceptions, where the ones left out are not granted or eligible after all. -/
theorem narrow (h : TalkOk P v)
    (fixed : ∀ s z d, v.session s = some z → z.granted.testBit d = true → P s d → ¬ Q s d → v.elig z d = true) : TalkOk Q v := by
  refine ⟨h.dests_length, h.mixes_length, h.free, h.held, h.granted, fun s z d hs hd q => ?_, h.handed, h.desk⟩
  by_cases p : P s d
  · exact fixed s z d hs hd p q
  · exact h.eligible s z d hs hd p

/-- With no session there is no exception. -/
theorem of_no_session (h : TalkOk P v) (none : ∀ s, v.session s = none) : TalkOk Q v :=
  h.narrow fun s z d hs => by rw [none s] at hs; cases hs

theorem put_handed (h : TalkOk P v) (d : Nat) (st : DestState) (s : Option Source) (lt : d < 17) (m : Nat) (hm : m < 16) :
    ((v.put d st s).mix m).1 = ((v.put d st s).dest m).1 := by
  rw [TalkView.put_mix, TalkView.put_dest, h.dests_length, h.mixes_length]
  by_cases e : m = d
  · subst e
    rw [if_pos ⟨rfl, by omega, hm⟩, if_pos ⟨rfl, lt⟩]
  · rw [if_neg fun c => e c.1, if_neg fun c => e c.1]
    exact h.handed m hm

/-- A holder's loss keeps the agreement: the destination fades and leaves the granted set. -/
theorem lose (h : TalkOk P v) {d : Nat} {s : Source} (holder : (v.dest d).2 = some s) : TalkOk P (v.lose d s) := by
  have lt := h.lt_of_holder holder
  have dest (k : Nat) : (v.lose d s).dest k = if k = d then (.fading, some s) else v.dest k := by
    refine (TalkView.put_dest d _ _ v k).trans ?_
    rw [h.dests_length]
    by_cases e : k = d <;> simp [e, lt]
  have bit (t : Source) (z : SessionEcho) (k : Nat) (hz : (v.lose d s).session t = some z) (hk : z.granted.testBit k = true) :
      k ≠ d ∧ ∃ y, v.session t = some y ∧ z.priority = y.priority ∧ z.requested = y.requested ∧ y.granted.testBit k = true := by
    obtain ⟨y, hy, hp, hr, hg⟩ := v.lose_session hz
    rw [hg] at hk
    simp only [Bool.and_eq_true, Bool.or_eq_true, decide_eq_true_eq] at hk
    refine ⟨?_, y, hy, hp, hr, hk.1⟩
    rintro rfl
    have held := h.granted t y k hy hk.1
    rw [holder] at held
    rcases hk.2 with ne | ne
    · exact ne (Option.some.inj held.2.2).symm
    · exact ne rfl
  refine ⟨by simpa [TalkView.lose, TalkView.onSession, TalkView.put] using h.dests_length, ?_, ?_, ?_, ?_, ?_, ?_, ?_⟩
  · have := h.mixes_length
    simp only [TalkView.lose, TalkView.onSession, TalkView.put]
    split <;> simpa using this
  · intro k
    rw [dest]
    split
    · simp
    · exact h.free k
  · intro k t hk ht
    rw [dest] at hk ht
    split at hk
    · cases hk
    · next ne =>
      rw [if_neg ne] at ht
      obtain ⟨z, hz, hg⟩ := h.held k t hk ht
      by_cases e : t = s
      · subst e
        exact ⟨{ z with granted := setDel z.granted d }, by simp [TalkView.lose, TalkView.onSession, TalkView.put, hz],
          by simpa [testBit_setDel, hg] using fun e => ne e.symm⟩
      · exact ⟨z, by simp [TalkView.lose, TalkView.onSession, TalkView.put, e, hz], hg⟩
  · intro t z k hz hk
    obtain ⟨ne, y, hy, -, -, hg⟩ := bit t z k hz hk
    rw [dest, if_neg ne]
    exact h.granted t y k hy hg
  · intro t z k hz hk hp
    obtain ⟨-, y, hy, hpri, hreq, hg⟩ := bit t z k hz hk
    have := h.eligible t y k hy hg hp
    rw [TalkView.lose_elig]
    unfold TalkView.elig at this ⊢
    rw [hpri, hreq]; exact this
  · exact fun m hm => h.put_handed d _ _ lt m hm
  · intro desk t
    have none := h.desk desk
    show (if t = s then (v.session s).map _ else v.session t) = Option.none
    split <;> simp [none]

/-- A grant of a FREE destination to an eligible session keeps the agreement. -/
theorem grant (h : TalkOk P v) {d : Nat} {s : Source} {z : SessionEcho} (lt : d < 17) (free : (v.dest d).1 = .free)
    (opened : v.session s = some z) (elig : v.elig z d = true) : TalkOk P (v.grant s d) := by
  have dest (k : Nat) : (v.grant s d).dest k = if k = d then (.held, some s) else v.dest k := by
    refine (TalkView.put_dest d _ _ v k).trans ?_
    rw [h.dests_length]
    by_cases e : k = d <;> simp [e, lt]
  have unheld (t : Source) (y : SessionEcho) (hy : v.session t = some y) : y.granted.testBit d = false := by
    by_contra bit
    have := (h.granted t y d hy (by simpa using bit)).2.1
    rw [free] at this; cases this
  have session (t : Source) (y : SessionEcho) (k : Nat) (hy : (v.grant s d).session t = some y) (hk : y.granted.testBit k = true) :
      ∃ w, v.session t = some w ∧ y.priority = w.priority ∧ y.requested = w.requested ∧
        ((k = d ∧ t = s) ∨ (k ≠ d ∧ w.granted.testBit k = true)) := by
    change (if t = s then (v.session s).map _ else v.session t) = some y at hy
    split at hy
    · next e =>
      subst e
      obtain ⟨w, hw, rfl⟩ := Option.map_eq_some_iff.mp hy
      refine ⟨w, hw, rfl, rfl, ?_⟩
      simp only [testBit_setAdd, Bool.or_eq_true, decide_eq_true_eq] at hk
      by_cases e : k = d
      · exact .inl ⟨e, rfl⟩
      · exact .inr ⟨e, hk.resolve_right fun c => e c.symm⟩
    · refine ⟨y, hy, rfl, rfl, .inr ⟨?_, hk⟩⟩
      rintro rfl
      rw [unheld t y hy] at hk; cases hk
  refine ⟨by simpa [TalkView.grant, TalkView.onSession, TalkView.put] using h.dests_length, ?_, ?_, ?_, ?_, ?_, ?_, ?_⟩
  · have := h.mixes_length
    simp only [TalkView.grant, TalkView.onSession, TalkView.put]
    split <;> simpa using this
  · intro k
    rw [dest]
    split
    · simp
    · exact h.free k
  · intro k t hk ht
    rw [dest] at hk ht
    by_cases e : k = d
    · subst e
      rw [if_pos rfl] at ht
      cases ht
      exact ⟨{ z with granted := setAdd z.granted k }, by simp [TalkView.grant, TalkView.onSession, TalkView.put, opened],
        by simp [testBit_setAdd]⟩
    · rw [if_neg e] at hk ht
      obtain ⟨y, hy, hg⟩ := h.held k t hk ht
      by_cases et : t = s
      · subst et
        exact ⟨{ y with granted := setAdd y.granted d }, by simp [TalkView.grant, TalkView.onSession, TalkView.put, hy],
          by simp [testBit_setAdd, hg]⟩
      · exact ⟨y, by simp [TalkView.grant, TalkView.onSession, TalkView.put, et, hy], hg⟩
  · intro t y k hy hk
    obtain ⟨w, hw, -, -, ⟨rfl, rfl⟩ | ⟨ne, hg⟩⟩ := session t y k hy hk
    · rw [dest, if_pos rfl]; exact ⟨lt, rfl, rfl⟩
    · rw [dest, if_neg ne]; exact h.granted t w k hw hg
  · intro t y k hy hk hp
    obtain ⟨w, hw, hpri, hreq, ⟨rfl, rfl⟩ | ⟨ne, hg⟩⟩ := session t y k hy hk
    · rw [opened] at hw
      cases hw
      rw [TalkView.grant_elig]
      unfold TalkView.elig at elig ⊢
      rw [hpri, hreq]; exact elig
    · have := h.eligible t w k hw hg hp
      rw [TalkView.grant_elig]
      unfold TalkView.elig at this ⊢
      rw [hpri, hreq]; exact this
  · exact fun m hm => h.put_handed d _ _ lt m hm
  · intro desk t
    have none := h.desk desk
    rw [none s] at opened; cases opened

/-- A destination that is not HELD becomes FREE. -/
theorem release (h : TalkOk P v) {d : Nat} (lt : d < 17) (unheld : (v.dest d).1 ≠ .held) : TalkOk P (v.put d .free none) := by
  have dest (k : Nat) : (v.put d .free none).dest k = if k = d then (.free, none) else v.dest k := by
    rw [TalkView.put_dest, h.dests_length]
    by_cases e : k = d <;> simp [e, lt]
  refine ⟨by simpa [TalkView.put] using h.dests_length, ?_, ?_, ?_, ?_, ?_, ?_, h.desk⟩
  · have := h.mixes_length
    simp only [TalkView.put]
    split <;> simpa using this
  · intro k
    rw [dest]
    split
    · simp
    · exact h.free k
  · intro k t hk ht
    rw [dest] at hk ht
    split at hk
    · cases hk
    · next ne =>
      rw [if_neg ne] at ht
      exact h.held k t hk ht
  · intro t z k hz hk
    have before := h.granted t z k hz hk
    rw [dest]
    split
    · next e => exact absurd (e ▸ before.2.1) unheld
    · exact before
  · intro t z k hz hk hp
    rw [TalkView.put_elig]
    exact h.eligible t z k hz hk hp
  · exact fun m hm => h.put_handed d _ _ lt m hm

/-- A session leaves with no destination granted. -/
theorem closed (h : TalkOk P v) {s : Source} (none : ∀ z d, v.session s = some z → z.granted.testBit d = false) :
    TalkOk P { v with session := fun t => if t = s then Option.none else v.session t } := by
  have other {t : Source} {z : SessionEcho} (hz : (if t = s then Option.none else v.session t) = some z) :
      v.session t = some z := by
    split at hz
    · cases hz
    · exact hz
  refine ⟨h.dests_length, h.mixes_length, h.free, fun d t hd ht => ?_, fun t z d hz => h.granted t z d (other hz),
    fun t z d hz => h.eligible t z d (other hz), h.handed, fun desk t => ?_⟩
  · obtain ⟨z, hz, hg⟩ := h.held d t hd ht
    have ne : t ≠ s := by
      rintro rfl
      rw [none z d hz] at hg; cases hg
    exact ⟨z, by simp [ne, hz], hg⟩
  · show (if t = s then Option.none else v.session t) = Option.none
    split
    · rfl
    · exact h.desk desk t

/-- A session is created at STAGE where there was none. -/
theorem opened (h : TalkOk P v) {s : Source} (z : SessionEcho) (stage : v.desk = false) (absent : v.session s = none)
    (empty : z.granted = 0) : TalkOk P { v with session := fun t => if t = s then some z else v.session t } := by
  have other {t : Source} {y : SessionEcho} {d : Nat} (hy : (if t = s then some z else v.session t) = some y)
      (hd : y.granted.testBit d = true) : v.session t = some y := by
    split at hy
    · cases hy
      rw [empty] at hd
      simp at hd
    · exact hy
  refine ⟨h.dests_length, h.mixes_length, h.free, fun d t hd ht => ?_, fun t y d hy hd => h.granted t y d (other hy hd) hd,
    fun t y d hy hd => h.eligible t y d (other hy hd) hd, h.handed, fun desk => ?_⟩
  · obtain ⟨y, hy, hg⟩ := h.held d t hd ht
    have ne : t ≠ s := by
      rintro rfl
      rw [absent] at hy; cases hy
    exact ⟨y, by simp [ne, hy], hg⟩
  · rw [stage] at desk; cases desk

/-- A session's priority and requested set change: its grants are exceptions until they are judged. -/
theorem amended (h : TalkOk P v) {s : Source} (g : SessionEcho → SessionEcho) (keeps : ∀ z, (g z).granted = z.granted) :
    TalkOk (fun t d => P t d ∨ t = s) (v.onSession s g) := by
  have session (t : Source) (y : SessionEcho) (hy : (v.onSession s g).session t = some y) :
      ∃ w, v.session t = some w ∧ y.granted = w.granted ∧ (t ≠ s → y = w) := by
    change (if t = s then (v.session s).map g else v.session t) = some y at hy
    split at hy
    · next e =>
      subst e
      obtain ⟨w, hw, rfl⟩ := Option.map_eq_some_iff.mp hy
      exact ⟨w, hw, keeps w, fun c => absurd rfl c⟩
    · exact ⟨y, hy, rfl, fun _ => rfl⟩
  refine ⟨h.dests_length, h.mixes_length, h.free, fun d t hd ht => ?_, fun t y d hy hd => ?_, fun t y d hy hd hp => ?_, h.handed,
    fun desk t => ?_⟩
  · obtain ⟨z, hz, hg⟩ := h.held d t hd ht
    by_cases e : t = s
    · subst e
      exact ⟨g z, by simp [TalkView.onSession, hz], by rw [keeps]; exact hg⟩
    · exact ⟨z, by simp [TalkView.onSession, e, hz], hg⟩
  · obtain ⟨w, hw, hg, -⟩ := session t y hy
    exact h.granted t w d hw (hg ▸ hd)
  · obtain ⟨w, hw, hg, same⟩ := session t y hy
    rw [same fun e => hp (.inr e)] at hd ⊢
    exact h.eligible t w d hw hd fun p => hp (.inl p)
  · show (if t = s then (v.session s).map g else v.session t) = none
    split <;> simp [h.desk desk]

end TalkOk

/-! ### The view of a part -/

/-- What the agreement of the talk tables reads of the part. -/
def Part.talkView (x : Part) : TalkView where
  dests := x.tka.dests.map fun r => (r.state, r.holder)
  mixes := x.mxe.mixes.map fun m => (m.dest, m.talkMask)
  session := fun s => (x.session s).map Session.echo
  cue := x.tka.cfg.cueMask
  up := x.fmu.link.up
  desk := x.dsc.role == .desk

theorem Part.talkView_dest (x : Part) (d : Nat) : x.talkView.dest d = ((x.dest d).state, (x.dest d).holder) := by
  simp only [TalkView.dest, Part.talkView, Part.dest, List.getD_eq_getElem?_getD, List.getElem?_map]
  cases x.tka.dests[d]? <;> rfl

theorem Part.talkView_mix (x : Part) (m : Nat) : x.talkView.mix m = ((x.mix m).dest, (x.mix m).talkMask) := by
  simp only [TalkView.mix, Part.talkView, Part.mix, List.getD_eq_getElem?_getD, List.getElem?_map]
  cases x.mxe.mixes[m]? <;> rfl

theorem Part.talkView_elig (x : Part) (z : Session) (d : Nat) : x.talkView.elig z.echo d = x.eligible z d := by
  have mask : x.talkView.mask d = x.maskOf d := by
    unfold TalkView.mask Part.maskOf
    rw [x.talkView_mix d]; rfl
  unfold TalkView.elig Part.eligible
  rw [mask]; rfl

theorem Part.talkInv_iff (x : Part) : x.TalkInv ↔ TalkOk (fun _ _ => False) x.talkView := by
  have session (s : Source) (e : SessionEcho) : x.talkView.session s = some e ↔ ∃ z, x.session s = some z ∧ z.echo = e :=
    Option.map_eq_some_iff
  constructor
  · rintro ⟨dests, mixes, free, held, granted, handed, desk⟩
    refine ⟨by simpa [Part.talkView] using dests, by simpa [Part.talkView] using mixes, fun d => ?_, fun d s hd hs => ?_,
      fun s e d he hd => ?_, fun s e d he hd _ => ?_, fun m hm => ?_, fun hdesk s => ?_⟩
    · rw [x.talkView_dest]; exact free d
    · rw [x.talkView_dest] at hd hs
      obtain ⟨z, hz, hg⟩ := held d s hd hs
      exact ⟨z.echo, (session s _).mpr ⟨z, hz, rfl⟩, hg⟩
    · obtain ⟨z, hz, rfl⟩ := (session s e).mp he
      obtain ⟨lt, hh, ho, -⟩ := granted s z d hz hd
      rw [x.talkView_dest]; exact ⟨lt, hh, ho⟩
    · obtain ⟨z, hz, rfl⟩ := (session s e).mp he
      obtain ⟨-, -, -, elig⟩ := granted s z d hz hd
      rw [x.talkView_elig]; exact elig
    · rw [x.talkView_mix, x.talkView_dest]; exact handed m hm
    · have : x.dsc.role = .desk := by simpa [Part.talkView] using hdesk
      simp [Part.talkView, desk this s]
  · rintro ⟨dests, mixes, free, held, granted, eligible, handed, desk⟩
    refine ⟨by simpa [Part.talkView] using dests, by simpa [Part.talkView] using mixes, fun d => ?_, fun d s hd hs => ?_,
      fun s z d hz hd => ?_, fun m hm => ?_, fun hdesk s => ?_⟩
    · have := free d; rwa [x.talkView_dest] at this
    · obtain ⟨e, he, hg⟩ := held d s (by rw [x.talkView_dest]; exact hd) (by rw [x.talkView_dest]; exact hs)
      obtain ⟨z, hz, rfl⟩ := (session s e).mp he
      exact ⟨z, hz, hg⟩
    · have he := (session s z.echo).mpr ⟨z, hz, rfl⟩
      have table := granted s z.echo d he hd
      have elig := eligible s z.echo d he hd id
      rw [x.talkView_dest] at table
      rw [x.talkView_elig] at elig
      exact ⟨table.1, table.2.1, table.2.2, elig⟩
    · have := handed m hm; rwa [x.talkView_mix, x.talkView_dest] at this
    · have := desk (by simpa [Part.talkView] using hdesk) s
      simpa [Part.talkView] using this

/-! ### The low-level operations on the view -/

theorem map_updAt_eq {α β : Type} (g : α → β) (f : α → α) (f' : β → β) (h : ∀ a, g (f a) = f' (g a)) (i : Nat) (l : List α) :
    (updAt i f l).map g = updAt i f' (l.map g) := by
  induction l generalizing i with
  | nil => cases i <;> rfl
  | cons a l ih => cases i <;> simp [updAt, h, ih]

theorem Part.setDest_talkView (d : Nat) (st : DestState) (h : Option Source) (x : Part) :
    (x.setDest d st h).talkView = x.talkView.put d st h := by
  have dests := map_updAt_eq (fun r : Dest => (r.state, r.holder)) (fun _ => (⟨st, h, false⟩ : Dest)) (fun _ => (st, h))
    (fun _ => rfl) d x.tka.dests
  have mixes := map_updAt_eq (fun m : Mix => (m.dest, m.talkMask)) (Mix.handDest st) (fun e => (st, e.2)) (fun _ => rfl) d
    x.mxe.mixes
  unfold Part.setDest TalkView.put
  dsimp only
  split
  · exact congrArg (fun l => { x.talkView with dests := l }) dests
  · rw [show (Part.onMix d (Mix.handDest st) (x.onDest d fun _ => ⟨st, h, false⟩)).talkView =
        { x.talkView with
          dests := (updAt d (fun _ => (⟨st, h, false⟩ : Dest)) x.tka.dests).map fun r => (r.state, r.holder)
          mixes := (updAt d (Mix.handDest st) x.mxe.mixes).map fun m => (m.dest, m.talkMask) } from rfl, dests, mixes]
    rfl

theorem Part.onSource_talkView (s : Source) (f : SourceRec → SourceRec) (x : Part) :
    (x.onSource s f).talkView =
      { x.talkView with session := fun t =>
          if t = s then (f (x.tka.source s)).session.map Session.echo else x.talkView.session t } := by
  have sessions : (x.onSource s f).talkView.session = fun t =>
      if t = s then (f (x.tka.source s)).session.map Session.echo else x.talkView.session t := by
    funext t
    simp only [Part.talkView, Part.session, Part.source_onSource]
    split <;> rfl
  have rest : (x.onSource s f).talkView = { x.talkView with session := (x.onSource s f).talkView.session } := by
    unfold Part.onSource Tka.onSource
    cases s <;> rfl
  rw [rest, sessions]

theorem Part.onSession_talkView (s : Source) (f : Session → Session) (g : SessionEcho → SessionEcho) (x : Part)
    (h : ∀ z, (f z).echo = g z.echo) : (x.onSession s f).talkView = x.talkView.onSession s g := by
  rw [Part.onSession, Part.onSource_talkView]
  have echoed : ((x.tka.source s).session.map f).map Session.echo = (x.talkView.session s).map g := by
    show _ = ((x.tka.source s).session.map Session.echo).map g
    cases (x.tka.source s).session with
    | none => rfl
    | some z => exact congrArg some (h z)
  simp only [echoed]; rfl

theorem Part.grant_talkView (s : Source) (d : Nat) (x : Part) : (x.grant s d).talkView = x.talkView.grant s d := by
  rw [Part.grant, Part.onSession_talkView s _ (fun z => { z with granted := setAdd z.granted d }) _ fun _ => rfl,
    Part.setDest_talkView]; rfl

theorem Part.lose_talkView (d : Nat) (x : Part) (s : Source) (holder : (x.dest d).holder = some s) :
    (x.lose d).talkView = x.talkView.lose d s := by
  unfold Part.lose
  rw [holder]
  dsimp only
  rw [Part.onSession_talkView s _ (fun z => { z with granted := setDel z.granted d }) _ fun _ => rfl, Part.setDest_talkView]; rfl

end Sys2Proof.Machine
end

section
/-!
PROOFS. The arbiter's operations keep the agreement of the talk tables: `Part.TalkBut P x` is the agreement of the part `x` but for the
exceptions `P`; a judgement narrows the exceptions to none.
-/

namespace Sys2Proof.Machine

/-- The talk tables of a part agree but for the exceptions. -/
def Part.TalkBut (P : Source → Nat → Prop) (x : Part) : Prop :=
  TalkOk P x.talkView

/-- No exceptions. -/
def noException : Source → Nat → Prop := fun _ _ => False

/-- Every session at one destination. -/
def onlyDest (d : Nat) : Source → Nat → Prop := fun _ k => k = d

theorem Part.talkInv_iff_but (x : Part) : x.TalkInv ↔ x.TalkBut noException :=
  x.talkInv_iff

theorem Part.TalkBut.of_view {P : Source → Nat → Prop} {x y : Part} (h : x.TalkBut P) (same : y.talkView = x.talkView) :
    y.TalkBut P := by
  unfold Part.TalkBut; rw [same]; exact h

/-! ### What the view does not see -/

@[simp] theorem Part.notify_talkView (n : Notice) (x : Part) : (x.notify n).talkView = x.talkView := rfl

@[simp] theorem Part.echo_talkView (t : Target) (x : Part) : (x.echo t).talkView = x.talkView := by
  obtain ⟨l, h⟩ := x.echo_eq t
  rw [h]; rfl

theorem Part.onSource_talkView_same (s : Source) (f : SourceRec → SourceRec) (x : Part)
    (h : ∀ r, (f r).session.map Session.echo = r.session.map Session.echo) : (x.onSource s f).talkView = x.talkView := by
  rw [Part.onSource_talkView]
  have same : (fun t => if t = s then (f (x.tka.source s)).session.map Session.echo else x.talkView.session t) =
      x.talkView.session := by
    funext t
    split
    · next e => subst e; exact h _
    · rfl
  rw [same]

@[simp] theorem Part.publish_talkView (b c s) (x : Part) : (Part.publish b c x s).talkView = x.talkView := by
  unfold Part.publish
  dsimp only
  split
  · rfl
  · rw [Part.notify_talkView, Part.echo_talkView]
    exact Part.onSource_talkView_same s _ x fun _ => rfl

@[simp] theorem Part.publishAll_talkView (b c o) (x : Part) : (x.publishAll b c o).talkView = x.talkView :=
  foldl_keeps Part.talkView _ (fun _ _ => Part.publish_talkView ..) ..

/-! ### Grants and losses -/

namespace Part.TalkBut

variable {P : Source → Nat → Prop} {x y : Part}

theorem lose (h : x.TalkBut P) {d : Nat} {s : Source} (holder : (x.dest d).holder = some s) : (x.lose d).TalkBut P := by
  unfold Part.TalkBut
  rw [Part.lose_talkView d x s holder]
  exact TalkOk.lose h (by rw [x.talkView_dest]; exact holder)

theorem grant (h : x.TalkBut P) {d : Nat} {s : Source} {z : Session} (lt : d < 17) (free : (x.dest d).state = .free)
    (opened : x.session s = some z) (elig : x.eligible z d = true) : (x.grant s d).TalkBut P := by
  unfold Part.TalkBut
  rw [Part.grant_talkView]
  refine TalkOk.grant h lt (z := z.echo) (by rw [x.talkView_dest]; exact free) ?_ (by rw [x.talkView_elig]; exact elig)
  show (x.session s).map Session.echo = _
  rw [opened]; rfl

/-- A session that holds a destination is its holder. -/
theorem holds (h : x.TalkBut P) {s : Source} {z : Session} {d : Nat} (opened : x.session s = some z)
    (bit : z.granted.testBit d = true) : d < 17 ∧ (x.dest d).state = .held ∧ (x.dest d).holder = some s := by
  have seen : x.talkView.session s = some z.echo := by
    show (x.session s).map Session.echo = _
    rw [opened]; rfl
  have := TalkOk.granted h s z.echo d seen bit
  rwa [x.talkView_dest] at this

/-- A destination that is not FREE has a holder. -/
theorem has_holder (h : x.TalkBut P) {d : Nat} (taken : (x.dest d).state ≠ .free) : ∃ s, (x.dest d).holder = some s := by
  have := TalkOk.free h d
  rw [x.talkView_dest] at this
  exact Option.ne_none_iff_exists'.mp fun none => taken (this.mpr none)

/-- A destination that is not FREE is one of the 17. -/
theorem lt_of_taken (h : x.TalkBut P) {d : Nat} (taken : (x.dest d).state ≠ .free) : d < 17 := by
  obtain ⟨s, holder⟩ := h.has_holder taken
  exact TalkOk.lt_of_holder h (s := s) (by rw [x.talkView_dest]; exact holder)

/-- The exceptions left out are not granted, or eligible after all. -/
theorem narrow {Q : Source → Nat → Prop} (h : x.TalkBut P)
    (fixed : ∀ s z d, x.session s = some z → z.granted.testBit d = true → P s d → ¬ Q s d → x.eligible z d = true) :
    x.TalkBut Q := by
  refine TalkOk.narrow h fun s e d he hd p q => ?_
  obtain ⟨z, hz, rfl⟩ := Option.map_eq_some_iff.mp (he : (x.session s).map Session.echo = some e)
  rw [x.talkView_elig]
  exact fixed s z d hz hd p q

/-! ### Arbitration -/

theorem arbitrate (h : x.TalkBut P) {d : Nat} (s : Source) (lt : d < 17) : (x.arbitrate s d).TalkBut P := by
  unfold Part.arbitrate
  split
  · exact h
  · next z opened =>
    split
    · exact h
    · split
      · next free =>
        split
        · next elig => exact h.grant lt free opened elig
        · exact h
      · exact h
      · split
        · exact h
        · cases holder : (x.dest d).holder with
          | none => exact h
          | some t =>
            dsimp only
            repeat' split
            · exact h.lose holder
            · exact h
            · exact h.lose holder
            · exact h

end Part.TalkBut

/-- The session chosen for a destination is open and eligible for it. -/
theorem Part.bestWaiter_some (x : Part) (d : Nat) (s : Source) (z : Session) (h : x.bestWaiter d = some (s, z)) :
    x.session s = some z ∧ z.waits d = true ∧ x.eligible z d = true := by
  unfold Part.bestWaiter at h
  refine foldl_inv (fun best : Option (Source × Session) =>
    ∀ s z, best = some (s, z) → x.session s = some z ∧ z.waits d = true ∧ x.eligible z d = true) _ sources
    (fun best t _ hb s z hs => ?_) none (fun _ _ c => by cases c) s z h
  split at hs
  · exact hb s z hs
  · next w opened =>
    split at hs
    · next chosen =>
      rw [Bool.and_eq_true] at chosen
      split at hs
      · cases hs; exact ⟨opened, chosen⟩
      · split at hs
        · cases hs; exact ⟨opened, chosen⟩
        · exact hb s z hs
    · exact hb s z hs

namespace Part.TalkBut

variable {P : Source → Nat → Prop} {x y : Part}

theorem arbitrateFree (h : x.TalkBut P) {d : Nat} (lt : d < 17) (free : (x.dest d).state = .free) :
    (x.arbitrateFree d).TalkBut P := by
  unfold Part.arbitrateFree
  split
  · next s z best =>
    obtain ⟨opened, -, elig⟩ := x.bestWaiter_some d s z best
    exact h.grant lt free opened elig
  · exact h

/-- A fade's end. -/
theorem takeFadeEnd (h : x.TalkBut P) (d : Nat) : (x.takeFadeEnd d).TalkBut P := by
  unfold Part.takeFadeEnd
  split
  · next due =>
    have fading : (x.dest d).state = .fading := by
      simp only [Bool.and_eq_true, beq_iff_eq] at due; exact due.2
    have lt := h.lt_of_taken (d := d) (by rw [fading]; decide)
    have freed : (x.setDest d .free none).TalkBut P := by
      unfold Part.TalkBut
      rw [Part.setDest_talkView]
      exact TalkOk.release h lt (by rw [x.talkView_dest]; show (x.dest d).state ≠ .held; rw [fading]; decide)
    have state : ((x.setDest d .free none).dest d).state = .free := by
      have put : (x.setDest d .free none).talkView.dest d = (.free, none) := by
        rw [Part.setDest_talkView, TalkView.put_dest, if_pos ⟨rfl, by rw [TalkOk.dests_length h]; exact lt⟩]
      rw [Part.talkView_dest] at put
      exact congrArg Prod.fst put
    exact (freed.arbitrateFree lt state).of_view (by simp)
  · exact h

/-! ### Judgements -/

/-- A judgement of a destination leaves no exception there (R141). -/
theorem judgeDest {d : Nat} (h : x.TalkBut (onlyDest d)) (lt : d < 17) : (x.judgeDest d).TalkBut noException := by
  have unheld {w : Part} (hw : w.TalkBut (onlyDest d)) (st : (w.dest d).state ≠ .held) : w.TalkBut noException :=
    hw.narrow fun s z k opened bit e _ => absurd (e ▸ (hw.holds opened bit).2.1) st
  unfold Part.judgeDest
  split
  · next fading => exact unheld h (by rw [fading]; decide)
  · next free => exact (unheld h (by rw [free]; decide)).arbitrateFree lt free
  · next held =>
    split
    · next t holder =>
      split
      · next z opened =>
        split
        · next elig =>
          refine h.narrow fun s w k ws bit e _ => ?_
          have e : k = d := e
          subst e
          have same := (h.holds ws bit).2.2
          rw [holder] at same
          cases same
          rw [opened] at ws
          cases ws
          exact elig
        · refine unheld (h.lose holder) ?_
          have put : (x.lose d).talkView.dest d = (.fading, some t) := by
            rw [Part.lose_talkView d x t holder]
            refine (TalkView.put_dest d .fading (some t) x.talkView d).trans (if_pos ⟨rfl, ?_⟩)
            rw [TalkOk.dests_length h]; exact lt
          rw [Part.talkView_dest] at put
          rw [show ((x.lose d).dest d).state = .fading from congrArg Prod.fst put]
          decide
      · next none =>
        have := TalkOk.held h d t (by rw [x.talkView_dest]; exact held) (by rw [x.talkView_dest]; exact holder)
        obtain ⟨e, he, -⟩ := this
        change (x.session t).map Session.echo = some e at he
        rw [none] at he; cases he
    · next none =>
      obtain ⟨s, some⟩ := h.has_holder (d := d) (by rw [held]; decide)
      rw [none] at some; cases some

theorem maskChanged {d : Nat} (h : x.TalkBut (onlyDest d)) (lt : d < 17) : (x.maskChanged d).TalkBut noException :=
  (h.judgeDest lt).of_view (by simp [Part.maskChanged])

/-! ### Sessions -/

/-- After the destinations of a list were released, the session holds none of them. -/
theorem fadeGranted_fold (h : x.TalkBut P) (s : Source) (l : List Nat) :
    (l.foldl (Part.fadeGranted s) x).TalkBut P ∧
    (∀ z k, (l.foldl (Part.fadeGranted s) x).session s = some z → z.granted.testBit k = true →
      k ∉ l ∧ ∃ w, x.session s = some w ∧ w.granted.testBit k = true) ∧
    ∀ t, x.session t = none → (l.foldl (Part.fadeGranted s) x).session t = none := by
  induction l generalizing x with
  | nil => exact ⟨h, fun z k hz hk => ⟨by simp, z, hz, hk⟩, fun _ => id⟩
  | cons d l ih =>
    have step : (Part.fadeGranted s x d).TalkBut P ∧
        (∀ z k, (Part.fadeGranted s x d).session s = some z → z.granted.testBit k = true →
          k ≠ d ∧ ∃ w, x.session s = some w ∧ w.granted.testBit k = true) ∧
        ∀ t, x.session t = none → (Part.fadeGranted s x d).session t = none := by
      unfold Part.fadeGranted
      split
      · next w opened =>
        split
        · next bit =>
          have holder := (h.holds opened bit).2.2
          have view := Part.lose_talkView d x s holder
          refine ⟨h.lose holder, fun z k hz hk => ?_, fun t ht => ?_⟩
          · have seen : (x.talkView.lose d s).session s = some z.echo := by
              rw [← view]
              show ((x.lose d).session s).map Session.echo = _
              rw [hz]; rfl
            obtain ⟨e, he, -, -, bits⟩ := x.talkView.lose_session seen
            obtain ⟨w, hw, rfl⟩ := Option.map_eq_some_iff.mp (he : (x.session s).map Session.echo = some e)
            have := bits k
            rw [show z.echo.granted.testBit k = true from hk] at this
            simp only [ne_eq, not_true_eq_false, decide_false, Bool.false_or, Bool.true_eq, Bool.and_eq_true,
              decide_eq_true_eq] at this
            exact ⟨fun e => this.2 e.symm, w, hw, this.1⟩
          · have seen : (x.lose d).talkView.session t = none := by
              rw [view]
              exact TalkView.lose_no_session _ _ _ (by show (x.session t).map Session.echo = none; rw [ht]; rfl)
            exact Option.map_eq_none_iff.mp (seen : ((x.lose d).session t).map Session.echo = none)
        · next noBit =>
          refine ⟨h, fun z k hz hk => ⟨?_, z, hz, hk⟩, fun _ => id⟩
          rintro rfl
          rw [opened] at hz; cases hz
          exact noBit hk
      · next none => exact ⟨h, fun z k hz => (Option.some_ne_none z (hz.symm.trans none)).elim, fun _ => id⟩
    obtain ⟨inv, shrink, absent⟩ := step
    obtain ⟨inv', shrink', absent'⟩ := ih inv
    refine ⟨inv', fun z k hz hk => ?_, fun t ht => absent' t (absent t ht)⟩
    obtain ⟨out, w, hw, bw⟩ := shrink' z k hz hk
    obtain ⟨ne, v, hv, bv⟩ := shrink w k hw bw
    exact ⟨by simp [ne, out], v, hv, bv⟩

/-- A session that closes leaves no trace in the tables, and no session comes of it. -/
theorem closeSession_and (h : x.TalkBut P) (s : Source) (r : CloseReason) (c : TalkCause) :
    (x.closeSession s r c).TalkBut P ∧
    ∀ t, t = s ∨ x.session t = none → (x.closeSession s r c).session t = none := by
  obtain ⟨inv, released, absent⟩ := h.fadeGranted_fold s destNums
  unfold Part.closeSession
  dsimp only
  split
  · have none (e : SessionEcho) (d : Nat)
        (he : (destNums.foldl (Part.fadeGranted s) x).talkView.session s = some e) : e.granted.testBit d = false := by
      obtain ⟨z, hz, rfl⟩ := Option.map_eq_some_iff.mp
        (he : ((destNums.foldl (Part.fadeGranted s) x).session s).map Session.echo = some e)
      by_contra bit
      have bit : z.granted.testBit d = true := (Bool.not_eq_false _).mp bit
      exact (released z d hz bit).1 (List.mem_range.mpr (inv.holds hz bit).1)
    have view := Part.onSource_talkView s (fun q => { q with session := Option.none, reason := r })
      (destNums.foldl (Part.fadeGranted s) x)
    refine ⟨?_, fun t ht => ?_⟩
    · unfold Part.TalkBut
      rw [Part.publishAll_talkView, view]
      exact TalkOk.closed inv none
    · have seen : (((destNums.foldl (Part.fadeGranted s) x).onSource s
          fun q => { q with session := Option.none, reason := r }).publishAll x.tka c Option.none).talkView.session t = Option.none := by
        rw [Part.publishAll_talkView, view]
        show (if t = s then Option.none else _) = Option.none
        split
        · rfl
        · next ne =>
          show ((destNums.foldl (Part.fadeGranted s) x).session t).map Session.echo = Option.none
          rw [absent t (ht.resolve_left ne)]; rfl
      exact Option.map_eq_none_iff.mp (seen : (Part.session _ t).map Session.echo = Option.none)
  · next closed =>
    refine ⟨h, fun t ht => ?_⟩
    rcases ht with rfl | ht
    · simpa using closed
    · exact ht

theorem closeSession (h : x.TalkBut P) (s : Source) (r : CloseReason) (c : TalkCause) : (x.closeSession s r c).TalkBut P :=
  (h.closeSession_and s r c).1

/-- STANDBY closes every session, and no exception is left (R149). -/
theorem talkStandby (h : x.TalkBut P) : x.talkStandby.TalkBut noException := by
  obtain ⟨h1, none1⟩ := h.closeSession_and .foh .standby .standby
  obtain ⟨h2, none2⟩ := h1.closeSession_and .mon .standby .standby
  obtain ⟨h3, none3⟩ := h2.closeSession_and .stg .standby .standby
  have closed (s : Source) : x.talkStandby.session s = none := by
    cases s
    · exact none3 _ (.inr (none2 _ (.inr (none1 _ (.inl rfl)))))
    · exact none3 _ (.inr (none2 _ (.inl rfl)))
    · exact none3 _ (.inl rfl)
  exact TalkOk.of_no_session h3 fun s => by show (x.talkStandby.session s).map _ = _; rw [closed s]; rfl

theorem nextOrder (h : x.TalkBut P) : x.nextOrder.TalkBut P :=
  h.of_view rfl

theorem arbitrates (h : x.TalkBut P) (s : Source) : (destNums.foldl (Part.arbitrate s) x).TalkBut P :=
  foldl_inv (Part.TalkBut P) _ destNums (fun _ _ hd hy => hy.arbitrate s (List.mem_range.mp hd)) x h

theorem openSession (h : x.TalkBut P) (s : Source) (pri : Nat) (latched : Bool) (req : Nat) (stage : x.dsc.role = .stage)
    (absent : x.session s = none) : (x.openSession s pri latched req).TalkBut P := by
  unfold Part.openSession
  dsimp only
  refine arbitrates ?_ s
  unfold Part.TalkBut
  rw [Part.onSource_talkView]
  have role : x.nextOrder.talkView.desk = false := by
    show (x.dsc.role == .desk) = false
    rw [stage]; rfl
  exact TalkOk.opened h.nextOrder ⟨pri, latched, req, 0⟩ role (by show (x.session s).map _ = _; rw [absent]; rfl) rfl

/-- The destinations of a list judged for an amended session: no exception of it is left there. -/
theorem releaseOne_fold (s : Source) (l : List Nat) (h : x.TalkBut fun t d => t = s ∧ d ∈ l) :
    (l.foldl (Part.releaseOne s) x).TalkBut noException := by
  induction l generalizing x with
  | nil => exact h.narrow fun t z d _ _ p => by simp at p
  | cons d l ih =>
    refine ih ?_
    have drop {w : Part} (hw : w.TalkBut fun t k => t = s ∧ k ∈ d :: l)
        (judged : ∀ z, w.session s = some z → z.granted.testBit d = true → w.eligible z d = true) :
        w.TalkBut fun t k => t = s ∧ k ∈ l := by
      refine hw.narrow fun t z k opened bit p q => ?_
      obtain ⟨rfl, mem⟩ := p
      rcases List.mem_cons.mp mem with rfl | mem
      · exact judged z opened bit
      · exact absurd ⟨rfl, mem⟩ q
    unfold Part.releaseOne
    split
    · next z opened =>
      split
      · next out =>
        simp only [Bool.and_eq_true, Bool.not_eq_true'] at out
        have holder := (h.holds opened out.1).2.2
        refine drop (h.lose holder) fun w hw bit => ?_
        have seen : (x.talkView.lose d s).session s = some w.echo := by
          rw [← Part.lose_talkView d x s holder]
          show ((x.lose d).session s).map Session.echo = _
          rw [hw]; rfl
        obtain ⟨e, -, -, -, bits⟩ := x.talkView.lose_session seen
        have := bits d
        rw [show w.echo.granted.testBit d = true from bit] at this
        simp at this
      · next kept =>
        refine drop h fun w hw bit => ?_
        rw [opened] at hw; cases hw
        simpa [bit] using kept
    · next none => exact drop h fun w hw => by rw [none] at hw; cases hw

theorem amendSession (h : x.TalkBut noException) (s : Source) (pri : Nat) (latched : Bool) (req : Nat) :
    (x.amendSession s pri latched req).TalkBut noException := by
  unfold Part.amendSession
  dsimp only
  refine arbitrates (releaseOne_fold s destNums ?_) s
  have amended : (x.nextOrder.onSession s fun r =>
      { r with
        priority := pri
        latched := latched
        requested := req
        order := x.nextOrder.tka.openCounter
        latchTimer := 0
        latchDue := false }).TalkBut fun t d => noException t d ∨ t = s := by
    unfold Part.TalkBut
    rw [Part.onSession_talkView s _ (fun z => { z with priority := pri, latched := latched, requested := req }) _ fun _ => rfl]
    exact TalkOk.amended h.nextOrder _ fun _ => rfl
  refine amended.narrow fun t z d opened bit p q => ?_
  obtain c | rfl := p
  · exact c.elim
  · exact absurd ⟨rfl, List.mem_range.mpr (amended.holds opened bit).1⟩ q

theorem talkOpen (h : x.TalkBut noException) (s : Source) (pri : Nat) (latched : Bool) (req : Nat) (c : TalkCause)
    (stage : x.dsc.role = .stage) : (x.talkOpen s pri latched req c).TalkBut noException := by
  unfold Part.talkOpen
  dsimp only
  split
  · exact (h.amendSession s pri latched req).of_view (by simp)
  · next closed => exact (h.openSession s pri latched req stage (by simpa using closed)).of_view (by simp)

theorem takeLatchedLimit (h : x.TalkBut P) (s : Source) : (x.takeLatchedLimit s).TalkBut P := by
  unfold Part.takeLatchedLimit
  repeat' split
  · exact h.closeSession _ _ _
  · exact h
  · exact h

/-! ### The configuration and the link -/

theorem applyTalkCfg (h : x.TalkBut noException) (f : TalkCfgSet) (c : TalkCause) :
    (x.applyTalkCfg f c).2.TalkBut noException := by
  have written (cfg : TalkCfg) : ({ x with tka := { x.tka with cfg := cfg } } : Part).evalCue.TalkBut (onlyDest 16) := by
    have elig (z : SessionEcho) (d : Nat) (ne : d ≠ 16) :
        (({ x with tka := { x.tka with cfg := cfg } } : Part).evalCue).talkView.elig z d = x.talkView.elig z d := by
      unfold TalkView.elig TalkView.mask
      rw [if_neg ne, if_neg ne]; rfl
    exact ⟨h.dests_length, h.mixes_length, h.free, h.held, h.granted,
      fun s z d hs hd ne => (elig z d ne).trans (h.eligible s z d hs hd id), h.handed, h.desk⟩
  unfold Part.applyTalkCfg
  dsimp only
  repeat' split
  · exact h
  · refine of_view ((written (x.tka.cfg.write f)).maskChanged (d := 16) (by decide)) ?_
    rw [Part.notify_talkView, Part.echo_talkView]; rfl
  · next same =>
    refine of_view h ?_
    rw [Part.notify_talkView, Part.echo_talkView]
    show { x.talkView with cue := (x.tka.cfg.write f).cueMask } = x.talkView
    rw [not_not.mp same]; rfl

/-- The arbiter takes a change of the link: with the link down no session is left at FOH CUE (R148). -/
theorem talkLink (h : x.TalkBut (onlyDest 16)) (old : LinkState)
    (up : x.fmu.link.up = true → x.TalkBut noException) (down : x.fmu.link.up = false → x.fmu.link = .severed) :
    (x.talkLink old).TalkBut noException := by
  have severed : (x.closeSession .foh .link .link).TalkBut (onlyDest 16) := h.closeSession _ _ _
  have unheld {w : Part} (hw : w.TalkBut (onlyDest 16)) (st : (w.dest 16).state ≠ .held) : w.TalkBut noException :=
    hw.narrow fun s z k opened bit e _ => absurd (e ▸ (hw.holds opened bit).2.1) st
  unfold Part.talkLink
  dsimp only
  split
  · refine of_view ?_ (Part.publishAll_talkView ..)
    split
    · next held =>
      obtain ⟨t, holder⟩ := severed.has_holder (d := 16) (by rw [held]; decide)
      refine unheld (severed.lose holder) ?_
      have put : ((x.closeSession .foh .link .link).lose 16).talkView.dest 16 = (.fading, some t) := by
        rw [Part.lose_talkView 16 _ t holder]
        refine (TalkView.put_dest 16 .fading (some t) _ 16).trans (if_pos ⟨rfl, ?_⟩)
        rw [TalkOk.dests_length severed]; decide
      rw [Part.talkView_dest] at put
      rw [show (((x.closeSession .foh .link .link).lose 16).dest 16).state = .fading from congrArg Prod.fst put]
      decide
    · next other => exact unheld severed other
  · next notSevered =>
    have linked : x.fmu.link.up = true := by
      by_contra c
      exact notSevered (down (by simpa using c))
    repeat' split
    · next free => exact ((up linked).arbitrateFree (by decide) free).of_view (by simp)
    · exact up linked
    · exact up linked

end Part.TalkBut

end Sys2Proof.Machine
end

section
/-!
PROOFS. Every move keeps the agreement of the talk tables: a report hands the arbiter the change of the link, a changed mask is judged,
STANDBY closes every session, and no other operation reaches what the agreement reads.
-/

namespace Sys2Proof.Machine

/-! ### Operations of the lane alone -/

theorem Part.dumpFill_eq (n : Nat) (x : Part) : ∃ l, Part.dumpFill n x = { x with ple := l } := by
  induction n generalizing x with
  | zero => exact ⟨_, rfl⟩
  | succ n ih =>
    unfold Part.dumpFill
    split
    · split
      · obtain ⟨l, h⟩ := ih { x with ple := { x.ple.offer _ with dump := _ } }
        exact ⟨l, h⟩
      · exact ⟨_, rfl⟩
    · exact ⟨_, rfl⟩

theorem Part.dumpStart_eq (x : Part) : ∃ l, x.dumpStart = { x with ple := l } := by
  obtain ⟨l, h⟩ := Part.dumpFill_eq 32
    { x with ple := { x.ple with queue := [], marks := [], cursor := none, goBackDue := false, dump := .begin } }
  exact ⟨l, h⟩

theorem Part.drainMarks_eq (ms : List Mark) (x : Part) : ∃ l, Part.drainMarks ms x = { x with ple := l } := by
  induction ms generalizing x with
  | nil => exact ⟨_, rfl⟩
  | cons m ms ih =>
    unfold Part.drainMarks
    split
    · split
      · obtain ⟨l, h⟩ := ih { x with ple := x.ple.offer _ }
        exact ⟨l, h⟩
      · exact ih x
    · exact ⟨_, rfl⟩

theorem Part.refill_eq (x : Part) : ∃ l, x.refill = { x with ple := l } := by
  unfold Part.refill
  split
  · exact ⟨_, rfl⟩
  · obtain ⟨l, h⟩ := Part.drainMarks_eq x.ple.marks x
    dsimp only
    rw [h]
    split
    · obtain ⟨k, h⟩ := Part.dumpFill_eq 32 { x with ple := l }
      exact ⟨k, h⟩
    · exact ⟨l, rfl⟩

theorem Part.refuse_stands (u : Update) (why : RefuseReason) (x : Part) : ∃ l, x.refuse u why = { x with ple := l } := by
  unfold Part.refuse
  dsimp only
  repeat' split
  all_goals exact ⟨_, rfl⟩

/-! ### What the view does not see -/

theorem Part.talkView_of_sansC {x y : Part} (h : y.sansChannels = x.sansChannels) : y.talkView = x.talkView :=
  (congrArg Part.talkView h :)

@[simp] theorem Part.onPath_talkView (p f) (x : Part) : (x.onPath p f).talkView = x.talkView := by cases p <;> rfl

@[simp] theorem Part.onPle_talkView (f) (x : Part) : (x.onPle f).talkView = x.talkView := rfl

@[simp] theorem Part.dumpStart_talkView (x : Part) : x.dumpStart.talkView = x.talkView := by
  obtain ⟨l, h⟩ := x.dumpStart_eq
  rw [h]; rfl

@[simp] theorem Part.mirrorTo_talkView (st) (x : Part) : (x.mirrorTo st).talkView = x.talkView := by
  unfold Part.mirrorTo
  dsimp only
  split <;> rfl

@[simp] theorem Part.answerHeldLink_talkView (c) (x : Part) : (x.answerHeldLink c).talkView = x.talkView := by
  unfold Part.answerHeldLink; split <;> rfl

@[simp] theorem Part.answerHeldState_talkView (c) (x : Part) : (x.answerHeldState c).talkView = x.talkView := by
  unfold Part.answerHeldState; split <;> rfl

@[simp] theorem Part.clockFollow_talkView (x : Part) : x.clockFollow.talkView = x.talkView := by
  unfold Part.clockFollow; split <;> rfl

@[simp] theorem Part.notifyPath_talkView (p o) (x : Part) : (Part.notifyPath p x o).talkView = x.talkView := by
  unfold Part.notifyPath; split <;> rfl

@[simp] theorem Part.anchoring_talkView (x : Part) : x.anchoring.1.talkView = x.talkView := by
  unfold Part.anchoring; repeat' split
  all_goals rfl

@[simp] theorem Part.laneLink_talkView (o) (x : Part) : (x.laneLink o).talkView = x.talkView := by
  unfold Part.laneLink; repeat' split
  all_goals rfl

@[simp] theorem Part.meterLink_talkView (x : Part) : x.meterLink.talkView = x.talkView := by
  unfold Part.meterLink; split <;> rfl

theorem Part.withMxe_talkView (t : Mxe) (x : Part)
    (same : (t.mixes.map fun m => (m.dest, m.talkMask)) = x.mxe.mixes.map fun m => (m.dest, m.talkMask)) :
    ({ x with mxe := t } : Part).talkView = x.talkView :=
  congrArg (fun l => ({ x.talkView with mixes := l } : TalkView)) same

@[simp] theorem Part.mastersEval_talkView (x : Part) : x.mastersEval.talkView = x.talkView := by
  refine x.withMxe_talkView _ ?_
  rw [List.map_map]; rfl

theorem Part.onMix_talkView (m : Nat) (f : Mix → Mix) (x : Part) (h : ∀ k, (f k).dest = k.dest ∧ (f k).talkMask = k.talkMask) :
    (x.onMix m f).talkView = x.talkView := by
  exact x.withMxe_talkView _ (map_updAt (fun k : Mix => (k.dest, k.talkMask)) f (fun k => Prod.ext (h k).1 (h k).2) m _)

theorem Part.onDest_talkView (d : Nat) (f : Dest → Dest) (x : Part) (h : ∀ r, (f r).state = r.state ∧ (f r).holder = r.holder) :
    (x.onDest d f).talkView = x.talkView := by
  exact congrArg (fun l => ({ x.talkView with dests := l } : TalkView))
    (map_updAt (fun r : Dest => (r.state, r.holder)) f (fun r => Prod.ext (h r).1 (h r).2) d x.tka.dests)

@[simp] theorem Part.mixVersion_talkView (m c) (x : Part) : (x.mixVersion m c).talkView = x.talkView := by
  rw [Part.mixVersion, Part.notify_talkView, Part.echo_talkView]
  exact Part.onMix_talkView m _ x fun _ => ⟨rfl, rfl⟩

@[simp] theorem Part.contribVersion_talkView (m rs c) (x : Part) : (x.contribVersion m rs c).talkView = x.talkView := by
  have each (y : Part) (r : SrcRef) : (Part.contribNotice m c y r).talkView = y.talkView := by simp [Part.contribNotice]
  unfold Part.contribVersion
  rw [foldl_keeps Part.talkView _ each]
  exact Part.onMix_talkView m _ x fun _ => ⟨rfl, rfl⟩

theorem Part.applyPut_talkView (m r k c) (x : Part) : (x.applyPut m r k c).2.talkView = x.talkView := by
  unfold Part.applyPut
  dsimp only
  repeat' split
  · rw [Part.contribVersion_talkView]; exact Part.onMix_talkView m _ x fun _ => ⟨rfl, rfl⟩
  · rw [Part.contribVersion_talkView]; exact Part.onMix_talkView m _ x fun _ => ⟨rfl, rfl⟩
  · rfl

theorem Part.applyDrop_talkView (m r c) (x : Part) : (x.applyDrop m r c).2.talkView = x.talkView := by
  unfold Part.applyDrop
  split
  · rw [Part.contribVersion_talkView]; exact Part.onMix_talkView m _ x fun _ => ⟨rfl, rfl⟩
  · rfl

theorem Part.applyClear_talkView (m c) (x : Part) : (x.applyClear m c).2.talkView = x.talkView := by
  unfold Part.applyClear
  split
  · rfl
  · rw [Part.contribVersion_talkView]; exact Part.onMix_talkView m _ x fun _ => ⟨rfl, rfl⟩

theorem Part.takeFreed_talkView (m r) (x : Part) : (x.takeFreed m r).talkView = x.talkView := by
  unfold Part.takeFreed
  repeat' split
  · exact Part.onMix_talkView m _ x fun _ => ⟨rfl, rfl⟩
  · rfl
  · rfl

theorem Part.takeLeavingEnd_talkView (m) (x : Part) : (x.takeLeavingEnd m).talkView = x.talkView := by
  unfold Part.takeLeavingEnd
  split
  · rw [Part.mixVersion_talkView]; exact Part.onMix_talkView m _ x fun _ => ⟨rfl, rfl⟩
  · rfl

theorem Part.takeArrivingEnd_talkView (m) (x : Part) : (x.takeArrivingEnd m).talkView = x.talkView := by
  unfold Part.takeArrivingEnd
  split
  · rw [Part.mixVersion_talkView]; exact Part.onMix_talkView m _ x fun _ => ⟨rfl, rfl⟩
  · rfl

/-! ### The sample event -/

/-- An entry changed to what it is already. -/
theorem updAt_self {α : Type} (i : Nat) (f : α → α) (d : α) (l : List α) (h : f (l.getD i d) = l.getD i d) : updAt i f l = l := by
  induction l generalizing i with
  | nil => cases i <;> rfl
  | cons a l ih =>
    cases i with
    | zero => simpa [updAt] using h
    | succ i => simpa [updAt] using ih i (by simpa using h)

theorem Part.mixCompute_talkView (x : Part) (m : Nat) : (x.mixCompute m).talkView = x.talkView := by
  have set (k : Mix) (dest : k.dest = (x.mix m).dest) (mask : k.talkMask = (x.mix m).talkMask) :
      (x.onMix m fun _ => k).talkView = x.talkView := by
    refine x.withMxe_talkView _ ?_
    rw [map_updAt_eq (fun k : Mix => (k.dest, k.talkMask)) _ (fun _ => (k.dest, k.talkMask)) fun _ => rfl]
    refine updAt_self m _ (Mix.powerOn.dest, Mix.powerOn.talkMask) _ ?_
    show (k.dest, k.talkMask) = x.talkView.mix m
    rw [x.talkView_mix m, dest, mask]
  have fade (y : Part) : (y.onDest m fun r => { r with fadeDue := true }).talkView = y.talkView :=
    Part.onDest_talkView m _ y fun _ => ⟨rfl, rfl⟩
  unfold Part.mixCompute
  dsimp only
  repeat' split
  all_goals first | exact set _ rfl rfl | exact (fade _).trans (set _ rfl rfl)

theorem Part.stageWork_talkView (x : Part) : x.stageWork.talkView = x.talkView := by
  have samples : x.talkSamples.talkView = x.talkView := by
    unfold Part.talkSamples
    dsimp only
    split
    · exact Part.onDest_talkView 16 _ _ fun _ => ⟨rfl, rfl⟩
    · rfl
  unfold Part.stageWork Part.mixAll
  split
  · rw [foldl_keeps Part.talkView _ Part.mixCompute_talkView]; exact samples
  · rfl

/-- The view of a part is that of its talk arbiter, mix engine, link and role. -/
theorem Part.talkView_congr {x y : Part} (tka : y.tka = x.tka) (mxe : y.mxe = x.mxe) (link : y.fmu.link = x.fmu.link)
    (role : y.dsc.role = x.dsc.role) : y.talkView = x.talkView := by
  unfold Part.talkView Part.session
  rw [tka, mxe, link, role]

theorem Part.latchTicks_talkView (x : Part) : x.latchTicks.talkView = x.talkView := by
  refine foldl_keeps Part.talkView _ (fun y s => ?_) _ _
  refine Part.onSource_talkView_same s _ y fun r => ?_
  cases r.session with
  | none => rfl
  | some z =>
    refine congrArg some ?_
    show (Session.latchTick _ z).echo = z.echo
    unfold Session.latchTick
    split <;> rfl

theorem Fmu.playout_link (fm : Fmu) : fm.playout.2.link = fm.link := by
  unfold Fmu.playout
  dsimp only
  repeat' split
  all_goals rfl

theorem Part.sampleWork_talkView (i : SampleInput) (x : Part) : (x.sampleWork i).talkView = x.talkView := by
  have timed : (x.takePorts i).timers.talkView = x.talkView := by
    have tka : (x.takePorts i).timers.talkView =
        { x.talkView with
          dests := (x.takePorts i).timers.tka.dests.map fun r => (r.state, r.holder)
          session := fun s => ((x.takePorts i).timers.tka.source s).session.map Session.echo
          cue := (x.takePorts i).timers.tka.cfg.cueMask } := by
      unfold Part.talkView Part.session
      rw [Part.timers_mxe, Part.timers_fmu, Part.timers_role]; rfl
    rw [tka, Part.timers_tka]
    split
    · exact (x.takePorts i).latchTicks_talkView
    · rfl
  have played : ((x.takePorts i).timers.stageCondition.takeLane.playout i.expiryFirst).talkView = x.talkView := by
    rw [← timed]
    refine Part.talkView_congr (by simp) (by simp) ?_ (by simp)
    rw [Part.playout_fmu]
    simp only [Part.takeLane_fmu, Part.stageCondition_fmu]
    exact Fmu.playout_link _
  have composed : (x.atCompose i).talkView = x.talkView := by
    refine (Part.talkView_congr ?_ ?_ ?_ ?_).trans ((Part.stageWork_talkView _).trans played) <;>
      simp only [Part.atCompose, Part.meters_tka, Part.meters_mxe, Part.meters_fmu, Part.meters_dsc]
  rw [← composed, Part.sampleWork_eq]
  refine Part.talkView_congr ?_ ?_ ?_ ?_
  · rw [Part.outputs_tka]; rfl
  · rw [Part.outputs_mxe]; rfl
  · rw [Part.outputs_fmu]; rfl
  · rw [Part.outputs_dsc]; rfl

/-! ### The link and the paths -/

/-- A link that goes down is SEVERED. -/
theorem linkOf_lost (old : LinkState) (a b : Bool) (ne : linkOf old a b ≠ old) (lost : (linkOf old a b).up = false) :
    linkOf old a b = .severed := by
  cases a <;> cases b
  · unfold linkOf at ne ⊢
    dsimp only at ne ⊢
    by_cases up : old.up = true
    · rw [if_pos up]
    · rw [if_neg up] at ne; exact absurd rfl ne
  · cases lost
  · cases lost
  · cases lost

/-- What an arrival leaves: all but the paths and the merge unit. -/
theorem Part.arrive_stands (p : Path) (f : Frame) (x : Part) :
    ∃ a b fm, (x.arrive p f).2 = { x with pa := a, pb := b, fmu := fm } := by
  have judged (d : Nat) : ∃ a b fm, x.judgeArrival p f d = { x with pa := a, pb := b, fmu := fm } := by
    unfold Part.judgeArrival; repeat' split
    · cases p <;> exact ⟨_, _, _, rfl⟩
    · exact ⟨_, _, _, rfl⟩
    · exact ⟨_, _, _, rfl⟩
  have counted (d : Nat) (g : Fmu → Fmu) : ∃ a b fm, (x.judgeArrival p f d).onFmu g = { x with pa := a, pb := b, fmu := fm } := by
    obtain ⟨a, b, fm, e⟩ := judged d
    rw [e]; exact ⟨_, _, _, rfl⟩
  have fromRef (d : Nat) : ∃ a b fm, x.refArrival p f d = { x with pa := a, pb := b, fmu := fm } := by
    unfold Part.refArrival; repeat' split
    · exact counted _ _
    · exact counted _ _
    · exact ⟨_, _, _, rfl⟩
    · exact counted _ _
  unfold Part.arrive
  dsimp only
  repeat' split
  · exact ⟨_, _, _, rfl⟩
  · exact ⟨_, _, _, rfl⟩
  · exact ⟨_, _, _, rfl⟩
  · exact fromRef _
  · exact judged _

namespace Part.TalkBut

variable {P : Source → Nat → Prop} {x y : Part}

/-- At DESK there is no session, and so no exception. -/
theorem of_desk (h : x.TalkBut P) (role : x.dsc.role = .desk) : x.TalkBut noException :=
  TalkOk.of_no_session h (TalkOk.desk h (by show (x.dsc.role == .desk) = true; rw [role]; rfl))

theorem linkChanged (h : x.TalkBut (onlyDest 16)) (old : LinkState)
    (up : x.fmu.link.up = true → x.TalkBut noException) (down : x.fmu.link.up = false → x.fmu.link = .severed) :
    (x.linkChanged old).TalkBut noException := by
  unfold Part.linkChanged
  dsimp only
  split
  · exact (h.talkLink old up down).of_view (by simp)
  · next role => exact (h.of_desk role).of_view (by simp)

/-- A change of the link leaves exceptions at FOH CUE only. -/
theorem withLink (h : x.TalkBut noException) (fm : Fmu) : ({ x with fmu := fm } : Part).TalkBut (onlyDest 16) := by
  have elig (z : SessionEcho) (d : Nat) (ne : d ≠ 16) :
      ({ x with fmu := fm } : Part).talkView.elig z d = x.talkView.elig z d := by
    have : (d != 16) = true := by simpa using ne
    unfold TalkView.elig
    rw [this]; simp only [Bool.true_or]; rfl
  exact ⟨h.dests_length, h.mixes_length, h.free, h.held, h.granted,
    fun s z d hs hd ne => (elig z d ne).trans (h.eligible s z d hs hd id), h.handed, h.desk⟩

/-- With the link up every session is as eligible as before. -/
theorem withLink_up (h : x.TalkBut noException) (fm : Fmu) (up : fm.link.up = true) :
    ({ x with fmu := fm } : Part).TalkBut noException := by
  refine ⟨h.dests_length, h.mixes_length, h.free, h.held, h.granted, fun s z d hs hd _ => ?_, h.handed, h.desk⟩
  have before := h.eligible s z d hs hd id
  unfold TalkView.elig at before ⊢
  rw [Bool.and_eq_true] at before ⊢
  exact ⟨before.1, by show (d != 16 || fm.link.up) = true; rw [up, Bool.or_true]⟩

theorem fmuReport (h : x.TalkBut noException) (n : Option Path) : (x.fmuReport n).TalkBut noException := by
  have taken := h.withLink (x.fmuAfter n)
  have same (e : (x.fmuAfter n).link = x.fmu.link) : ({ x with fmu := x.fmuAfter n } : Part).TalkBut noException :=
    h.of_view (Part.talkView_congr rfl rfl e rfl)
  have up := h.withLink_up (x.fmuAfter n)
  have down (ne : (x.fmuAfter n).link ≠ x.fmu.link) (lost : (x.fmuAfter n).link.up = false) : (x.fmuAfter n).link = .severed := by
    exact linkOf_lost _ _ _ ne lost
  have clock (z : Part) : z.clockFollow.fmu = z.fmu := by unfold Part.clockFollow; split <;> rfl
  have changed (w : Part) (view : w.talkView = ({ x with fmu := x.fmuAfter n } : Part).talkView) (link : w.fmu.link = (x.fmuAfter n).link)
      (ne : (x.fmuAfter n).link ≠ x.fmu.link) : (w.linkChanged x.fmu.link).TalkBut noException :=
    (taken.of_view view).linkChanged _ (fun hu => (up (link ▸ hu)).of_view view) fun hd => by rw [link] at hd ⊢; exact down ne hd
  unfold Part.fmuReport
  dsimp only
  repeat' split
  · next ne _ => exact changed _ (by simp) (by rw [clock]; rfl) ne
  · next ne _ => exact changed _ (by simp) (by rw [clock]) ne
  · next eq _ => exact (same (not_not.mp eq)).of_view (by simp)
  · next eq _ => exact (same (not_not.mp eq)).of_view (by simp)

theorem report (h : x.TalkBut noException) (o : Part) : (x.report o).TalkBut noException :=
  (h.of_view (y := ((x.anchoring.1).notifyPath .a o).notifyPath .b o) (by simp)).fmuReport _

theorem changePath (h : x.TalkBut noException) (p : Path) (f : PathCtl → PathCtl) : (x.changePath p f).TalkBut noException :=
  (h.of_view (x.onPath_talkView p f)).report x

/-- STANDBY takes the link: what FOH CUE's sessions hold is closed after it. -/
theorem pathsStandby (h : x.TalkBut noException) : x.pathsStandby.TalkBut (onlyDest 16) := by
  have aligned : x.standbyAligns.TalkBut noException := by
    refine h.of_view ?_
    unfold Part.standbyAligns
    split
    · dsimp only
      rw [Part.notifyPath_talkView, Part.notifyPath_talkView, Part.anchoring_talkView]; rfl
    · rfl
  have entered : ((Part.notifyPath .b (Part.notifyPath .a
      { x.standbyAligns with pa := x.standbyAligns.pa.standby, pb := x.standbyAligns.pb.standby } x.standbyAligns)
      x.standbyAligns).onFmu Fmu.standby).TalkBut (onlyDest 16) :=
    (aligned.of_view (y := Part.notifyPath .b (Part.notifyPath .a
      { x.standbyAligns with pa := x.standbyAligns.pa.standby, pb := x.standbyAligns.pb.standby } x.standbyAligns)
      x.standbyAligns) (by rw [Part.notifyPath_talkView, Part.notifyPath_talkView]; rfl)).withLink _
  have offline (w : Part) (link : w.fmu.link = .offline) (old : LinkState) : (w.linkChanged old).talkView = w.talkView := by
    have talk : w.talkLink old = w := by
      unfold Part.talkLink LinkState.up
      rw [link]; rfl
    unfold Part.linkChanged
    dsimp only
    rw [Part.meterLink_talkView, Part.laneLink_talkView]
    split
    · rw [talk]
    · rfl
  have clock (z : Part) : z.clockFollow.fmu = z.fmu := by unfold Part.clockFollow; split <;> rfl
  unfold Part.pathsStandby
  dsimp only
  split
  · exact entered.of_view (Part.clockFollow_talkView _)
  · refine entered.of_view ?_
    rw [offline _ (by rw [clock]; rfl), Part.clockFollow_talkView, Part.notify_talkView]

/-! ### Restarts and frames -/

theorem farFlag (h : x.TalkBut P) (a b : Bool) : (x.farFlag a b).TalkBut P := by
  have restarted {w : Part} (hw : w.TalkBut P) : w.restartHandling.TalkBut P := by
    unfold Part.restartHandling
    dsimp only
    split
    · exact hw.of_view (by simp)
    · exact ((hw.of_view (w.onPle_talkView Ple.flush)).closeSession .foh .link .link).of_view (by simp)
  unfold Part.farFlag Part.farRestart
  dsimp only
  repeat' split
  · exact h.of_view rfl
  · exact restarted (h.of_view rfl)
  · exact h.of_view rfl
  · exact h

theorem serviceFlags (h : x.TalkBut P) (f : Frame) : (x.serviceFlags f).TalkBut P := by
  have acked (w : Part) : w.restartAcked.talkView = w.talkView := by
    have answered : ((({ w with dsc := { w.dsc with restartFlag := false } } : Part).answerHeldLink .ok).onPle Ple.setTail).talkView =
        w.talkView := by
      rw [Part.onPle_talkView, Part.answerHeldLink_talkView]; rfl
    unfold Part.restartAcked
    dsimp only
    split
    · exact answered
    · rw [Part.dumpStart_talkView]; exact answered
  unfold Part.serviceFlags
  dsimp only
  split
  · exact (h.farFlag true f.restart).of_view (acked _)
  · exact h.farFlag true f.restart

theorem arrive (h : x.TalkBut P) (p : Path) (f : Frame) : (x.arrive p f).2.TalkBut P := by
  obtain ⟨a, b, fm, e⟩ := x.arrive_stands p f
  have link := congrArg (fun v => v.2.2.1) (x.arrive_view p f)
  refine h.of_view ?_
  rw [e] at link ⊢
  exact Part.talkView_congr rfl rfl link rfl

theorem frame (h : x.TalkBut noException) (p : Path) (b : List Bool) : (x.frame p b).TalkBut noException := by
  have onPath (f : PathCtl → PathCtl) : (x.onPath p f).TalkBut noException := h.of_view (x.onPath_talkView p f)
  have ident (f : Frame) : (x.identFrame p f).TalkBut noException := by
    unfold Part.identFrame; split
    · exact h.changePath _ _
    · exact onPath _
  have align (f : Frame) : (x.alignFrame p f).TalkBut noException := by
    unfold Part.alignFrame
    dsimp only
    repeat' split
    · exact h
    · exact (h.arrive p f).changePath _ _
    · exact h.arrive p f
    · exact h.arrive p f
  have usable (f : Frame) : (x.usableFrame p f).TalkBut noException := by
    have offered {y : Part} (hy : y.TalkBut noException) : (y.offerFull p f).TalkBut noException := by
      unfold Part.offerFull; split
      · exact hy
      · exact hy.arrive p f
    unfold Part.usableFrame
    dsimp only
    repeat' split
    · exact h.changePath _ _
    · exact offered ((onPath _).serviceFlags f)
    · exact offered (onPath _)
  unfold Part.frame Part.goodFrame
  repeat' split
  · exact h
  · exact h
  · exact h
  · exact onPath _
  · exact ident _
  · exact align _
  · exact h
  · exact usable _
  · exact usable _
  · exact onPath _

/-! ### Records and requests -/

theorem applyMix (h : x.TalkBut noException) (m : Nat) (f : MixSet) (c : ChangeCause) (lt : m ≤ 15) :
    (x.applyMix m f c).2.TalkBut noException := by
  have dest (op : OpState) (k : Mix) : (k.write op f).dest = k.dest := by
    have offset (v : Nat) (k : Mix) : (k.writeOffset v).dest = k.dest := by
      unfold Mix.writeOffset; repeat' split
      all_goals rfl
    unfold Mix.write
    dsimp only
    split
    · exact offset _ _
    · rfl
  have mixes (k : Nat) : ((x.onMix m (Mix.write x.dsc.opState f)).mix k).dest = (x.mix k).dest ∧
      (k ≠ m → ((x.onMix m (Mix.write x.dsc.opState f)).mix k).talkMask = (x.mix k).talkMask) := by
    rw [Part.mix_onMix]
    split
    · next e => obtain ⟨rfl, -⟩ := e; exact ⟨dest _ _, fun c => absurd rfl c⟩
    · exact ⟨rfl, fun _ => rfl⟩
  have elig (z : SessionEcho) (d : Nat) (same : d = 16 ∨ ((x.onMix m (Mix.write x.dsc.opState f)).mix d).talkMask = (x.mix d).talkMask) :
      (x.onMix m (Mix.write x.dsc.opState f)).talkView.elig z d = x.talkView.elig z d := by
    unfold TalkView.elig TalkView.mask
    rcases same with e | e
    · rw [if_pos e, if_pos e]; rfl
    · rw [Part.talkView_mix, Part.talkView_mix, e]; rfl
  have but (P : Source → Nat → Prop) (others : ∀ s d, ¬ P s d → d = 16 ∨
      ((x.onMix m (Mix.write x.dsc.opState f)).mix d).talkMask = (x.mix d).talkMask) :
      (x.onMix m (Mix.write x.dsc.opState f)).TalkBut P := by
    refine ⟨h.dests_length, ?_, h.free, h.held, h.granted,
      fun s z d hs hd ne => (elig z d (others s d ne)).trans (h.eligible s z d hs hd id), fun k hk => ?_, h.desk⟩
    · have := h.mixes_length
      simpa [Part.talkView, Part.onMix] using this
    · have before := h.handed k hk
      rw [Part.talkView_mix] at before ⊢
      rw [(mixes k).1]; exact before
  unfold Part.applyMix
  dsimp only
  repeat' split
  · exact h
  · exact ((but (onlyDest m) fun s d ne => .inr ((mixes d).2 ne)).maskChanged (by omega)).of_view (by simp)
  · next same =>
    refine (but noException fun s d _ => ?_).of_view (by simp)
    by_cases e : d = m
    · subst e; exact .inr (not_not.mp same)
    · exact .inr ((mixes d).2 e)

theorem doUpdate (h : x.TalkBut noException) (cc : ChangeCause) (tc : TalkCause) (role : Role) (u : Update)
    (ok : u.identOk role = true) (stage : x.dsc.role = .stage) : (x.doUpdate cc tc u).2.TalkBut noException := by
  cases u with
  | setChannel ch f => exact h.of_view (Part.talkView_of_sansC (Part.applyChannel_sansC ..))
  | setMix m f => exact h.applyMix m f cc (by simpa [Update.identOk] using ok)
  | putContrib m b i code =>
    unfold Part.doUpdate
    dsimp only
    split
    · exact h.of_view (Part.applyPut_talkView ..)
    · exact h
  | dropContrib m b i =>
    unfold Part.doUpdate
    dsimp only
    split
    · exact h.of_view (Part.applyDrop_talkView ..)
    · exact h
  | clearMix m => exact h.of_view (Part.applyClear_talkView ..)
  | openTalk s pri mode set =>
    unfold Part.doUpdate
    dsimp only
    repeat' split
    · exact h
    · exact h.talkOpen _ _ _ _ _ stage
    · exact h
  | closeTalk s =>
    unfold Part.doUpdate
    dsimp only
    repeat' split
    · exact h.closeSession _ _ _
    · exact h
    · exact h
  | setTalkCfg f => exact h.applyTalkCfg f tc
  | setLock f => exact h.of_view (Part.talkView_of_sansC (Part.applyLock_sansC ..))

theorem takeRecord (h : x.TalkBut noException) : x.takeRecord.TalkBut noException := by
  obtain ⟨l, u, stage, ok, -, -, e⟩ | ⟨-, -, e⟩ := x.takeRecord_cases
  · have done : (({ x with ple := l } : Part).doUpdate .lane .lane u.clamp).2.TalkBut noException :=
      (h.of_view (y := { x with ple := l }) rfl).doUpdate .lane .lane .desk u.clamp (by rw [Update.clamp_identOk, ok]) stage
    rw [e]
    obtain e | ⟨why, e⟩ := Part.applyUpdate_eq u { x with ple := l }
    · rw [e]; exact done
    · obtain ⟨k, r⟩ := Part.refuse_stands u why (({ x with ple := l } : Part).doUpdate .lane .lane u.clamp).2
      rw [e, r]; exact done.of_view rfl
  · rw [e]; exact h.of_view rfl

theorem standbyEntry (h : x.TalkBut noException) : x.standbyEntry.TalkBut noException := by
  have paths := (h.of_view (y := x.setOp .standby 0) rfl).pathsStandby
  have role : (x.setOp .standby 0).pathsStandby.dsc.role = x.dsc.role :=
    congrArg Prod.fst (Part.pathsStandby_stock (x.setOp .standby 0))
  unfold Part.standbyEntry
  dsimp only
  split
  · next desk => exact paths.of_desk (role.trans desk)
  · refine talkStandby (P := onlyDest 16) (paths.of_view ?_)
    rw [Part.mastersEval_talkView, Part.talkView_of_sansC (Part.channelsStandby_sansC _)]

theorem operateEntry_talkView (x : Part) : x.operateEntry.talkView = x.talkView := by
  unfold Part.operateEntry
  dsimp only
  split
  · rfl
  · rw [Part.mastersEval_talkView, Part.talkView_of_sansC (Part.channelsOperate_sansC _)]; rfl

theorem refreshPreamps_talkView (x : Part) : x.refreshPreamps.talkView = x.talkView := by
  unfold Part.refreshPreamps; split <;> rfl

theorem setState (h : x.TalkBut noException) (tag t : Nat) : (x.setState tag t).TalkBut noException := by
  unfold Part.setState
  split
  · exact h.of_view rfl
  · exact h.of_view ((refreshPreamps_talkView _).trans rfl)
  · exact standbyEntry ((h.of_view (x.answerHeldState_talkView .aborted)).of_view rfl)
  · exact h.of_view rfl
  · exact h.standbyEntry.of_view rfl
  · exact h.of_view rfl

/-- The talk tables of power-on agree. -/
theorem of_powerOn (tka : x.tka = Tka.powerOn) (mxe : x.mxe = Mxe.powerOn) : x.TalkBut noException := by
  have session (s : Source) : x.talkView.session s = none := by
    show (Tka.source x.tka s).session.map _ = none
    rw [tka]; cases s <;> rfl
  have dests : x.talkView.dests = List.replicate 17 (.free, none) := by
    show x.tka.dests.map _ = _
    rw [tka]; rfl
  have mixes : x.talkView.mixes = List.replicate 16 (.free, Mix.powerOn.talkMask) := by
    show x.mxe.mixes.map _ = _
    rw [mxe]; rfl
  have dest (d : Nat) : x.talkView.dest d = (.free, none) := by
    unfold TalkView.dest
    rw [dests, List.getD_eq_getElem?_getD, List.getElem?_replicate]
    split <;> rfl
  refine ⟨by rw [dests]; rfl, by rw [mixes]; rfl, fun d => by simp [dest], fun d s hd => ?_, fun s z d hs => ?_, fun s z d hs => ?_,
    fun m hm => ?_, fun _ => session⟩
  · rw [dest] at hd; cases hd
  · rw [session] at hs; cases hs
  · rw [session] at hs; cases hs
  · rw [dest]
    unfold TalkView.mix
    rw [mixes, List.getD_eq_getElem?_getD, List.getElem?_replicate, if_pos hm]; rfl

theorem linkReset (h : x.TalkBut noException) (tag : Nat) : (x.linkReset tag).TalkBut noException := by
  have emptied : (({ x with dsc := { x.dsc with restartFlag := true, heldLink := some tag } } : Part).onPle
      fun l => { l.flush with dump := .idle }).TalkBut noException := h.of_view rfl
  unfold Part.linkReset
  dsimp only
  split
  · exact emptied.of_view (Part.mirrorTo_talkView ..)
  · exact emptied.closeSession .foh .link .link

theorem act (h : x.TalkBut noException) (tag : Nat) (r : Request) (desk : ∀ u, r = .update u → x.dsc.role = .desk) :
    (x.act tag r).TalkBut noException := by
  cases r with
  | setState t => exact h.setState tag t
  | resetSoft =>
    have soft (z : Part) : z.softBlocks.tka = Tka.powerOn ∧ z.softBlocks.mxe = Mxe.powerOn := by
      unfold Part.softBlocks Part.refreshPreamps
      dsimp only
      (repeat' split) <;> exact ⟨rfl, rfl⟩
    exact of_powerOn (soft _).1 (soft _).2
  | linkReset =>
    show (x.askLinkReset tag).TalkBut noException
    unfold Part.askLinkReset; split
    · exact h.of_view rfl
    · exact h.linkReset tag
  | setNoticeMask m =>
    show (x.askMask tag m).TalkBut noException
    unfold Part.askMask; split <;> exact h.of_view rfl
  | setPath n f =>
    have set (p : Path) : (x.setPath p f).2.TalkBut noException := by
      have written : ({ x.onPath p (PathCtl.configure x.dsc.opState f) with
          pair := (x.onPath p (PathCtl.configure x.dsc.opState f)).pair.write f } : Part).TalkBut noException :=
        (h.of_view (x.onPath_talkView p (PathCtl.configure x.dsc.opState f))).of_view rfl
      unfold Part.setPath
      dsimp only
      split
      · exact h
      · exact written.report x
    show (x.askSetPath tag n f).TalkBut noException
    unfold Part.askSetPath; split
    · exact (set _).of_view rfl
    · exact h.of_view rfl
  | getPath n =>
    show (x.askGetPath tag n).TalkBut noException
    unfold Part.askGetPath; split <;> exact h.of_view rfl
  | setPlayout d =>
    show (x.askPlayout tag d).TalkBut noException
    unfold Part.askPlayout; split <;> exact h.of_view rfl
  | setClock s =>
    show (x.setClock tag s).TalkBut noException
    unfold Part.setClock; split <;> exact h.of_view rfl
  | getMix m =>
    show (x.askGetMix tag m).TalkBut noException
    unfold Part.askGetMix Part.clearClip; split
    · exact h.of_view (Part.onMix_talkView m (fun z => { z with clip := false }) x fun _ => ⟨rfl, rfl⟩)
    · exact h.of_view rfl
  | update u =>
    obtain ⟨q, code, e⟩ := x.askUpdate_desk tag u (desk u rfl)
    show (x.askUpdate tag u).TalkBut noException
    rw [e]; exact h.of_view rfl
  | _ => exact h.of_view rfl

theorem carryOut (h : x.TalkBut noException) (r : HostRequest) : (x.carryOut r).TalkBut noException := by
  obtain ⟨code, e⟩ | ⟨u, code, stage, -, ok, e⟩ | ⟨desk, e⟩ := x.carryOut_cases r
  · rw [e]; exact h.of_view rfl
  · rw [e]
    exact (h.doUpdate .host .host .stage u.clamp (by rw [Update.clamp_identOk, ok]) stage).of_view rfl
  · rw [e]
    refine h.act _ _ fun u hu => ?_
    cases hr : r.req with
    | update v => exact desk v hr
    | _ => rw [hr] at hu; cases hu

end Part.TalkBut

/-! ### Every move keeps the agreement -/

theorem Part.Move.talkInv {x y : Part} (move : Part.Move x y) (h : x.TalkBut noException) : y.TalkBut noException := by
  have onPath (p : Path) (f : PathCtl → PathCtl) : (x.onPath p f).TalkBut noException := h.of_view (x.onPath_talkView p f)
  have channels {y : Part} (same : y.sansChannels = x.sansChannels) : y.TalkBut noException :=
    h.of_view (Part.talkView_of_sansC same)
  cases move with
  | reAnchor =>
    refine h.of_view ?_
    have link := congrArg (fun v => v.2.2.1) x.takeReAnchor_view
    have stands : ∃ fm, x.takeReAnchor = { x with fmu := fm } := by
      unfold Part.takeReAnchor; split <;> exact ⟨_, rfl⟩
    obtain ⟨fm, e⟩ := stands
    rw [e] at link ⊢
    exact Part.talkView_congr rfl rfl link rfl
  | lock p =>
    unfold Part.takeLock
    dsimp only
    split
    · exact onPath _ _
    · exact h
  | ident p =>
    unfold Part.takeIdent
    dsimp only
    split
    · exact (h.farFlag _ _).changePath _ _
    · exact h
  | light p =>
    unfold Part.takeLight; split
    · exact h.changePath _ _
    · exact h
  | silence p =>
    unfold Part.takeSilence; split
    · exact h.changePath _ _
    · exact h
  | stall p =>
    unfold Part.takeStall
    dsimp only
    repeat' split
    · exact onPath _ _
    · exact (onPath p _).of_view rfl
    · exact h
  | errors p =>
    unfold Part.takeErrors; split
    · exact h.changePath _ _
    · exact h
  | recovered p =>
    unfold Part.takeRecovered; split
    · exact h.changePath _ _
    · exact h
  | burst p =>
    unfold Part.takeBurst; split
    · exact onPath _ _
    · exact h
  | cycle p =>
    unfold Part.takeCycle; split
    · exact onPath _ _
    · exact h
  | frame p bits => exact h.frame p bits
  | lightChange p lit => exact onPath _ _
  | record => exact h.takeRecord
  | tailEnd => exact h.of_view rfl
  | goBack => exact h.of_view rfl
  | clockWindow =>
    unfold Part.takeClockWindow
    dsimp only
    repeat' split
    all_goals exact h.of_view rfl
  | qualified => unfold Part.takeQualified; split <;> exact h.of_view rfl
  | clockEdge => unfold Part.clockEdge; split <;> exact h.of_view rfl
  | wake =>
    unfold Part.takeWake; split
    · exact (h.of_view (Part.TalkBut.operateEntry_talkView x)).of_view (Part.answerHeldState_talkView ..)
    · exact h
  | walk n => exact channels (Part.takeWalkStep_sansC ..)
  | rise n => exact channels (Part.takeRiseEnd_sansC ..)
  | fall n => exact channels (Part.takeFallEnd_sansC ..)
  | freed m r => exact h.of_view (Part.takeFreed_talkView ..)
  | leaving m => exact h.of_view (Part.takeLeavingEnd_talkView ..)
  | arriving m => exact h.of_view (Part.takeArrivingEnd_talkView ..)
  | fadeEnd d => exact h.takeFadeEnd d
  | limit s => exact h.takeLatchedLimit s
  | port f => exact h.of_view rfl
  | entry tag code => unfold Part.entryReply; split <;> exact h.of_view rfl
  | carry r => exact h.carryOut r
  | transmit =>
    unfold Part.takeTransmit
    dsimp only
    repeat' split
    all_goals exact h.of_view rfl
  | sample i => exact h.of_view (Part.sampleWork_talkView ..)
  | restart st pin => exact Part.TalkBut.of_powerOn rfl rfl
  | pin => exact h.of_view rfl

/-- Settles O57: the arbiter's operations keep the agreement, and what changes a mask, a set or the link is judged by the same
move. -/
theorem talkInvariantKept : Obligations.TalkInvariantKept := by
  refine step_keeps fun x y move h => ?_
  rw [Part.talkInv_iff_but] at h ⊢
  exact move.talkInv h

end Sys2Proof.Machine
end

section
/-!
PROOFS. The role and what is sent: a command other than power, the reset pin, a sample event and the transmitter's own leaves both. While
the reset pin is asserted nothing is sent, and no command begins a transmission.
-/

namespace Sys2Proof.Machine

/-- The commands that may change the role, the reset pin or what is being sent. -/
def reachesWires : Instr → Bool
  | .powerOn _ => true
  | .resetPinAssert => true
  | .resetPinRelease _ => true
  | .sampleEvent _ => true
  | .transmitFrameStart => true
  | .transmitFrameEnd => true
  | .holdRelease => true
  | _ => false

/-- Every other command leaves the role, the reset pin and what is being sent. -/
theorem exec_wires (c : Instr) (s : State) (other : reachesWires c = false) :
    ∃ y, exec c s = .next { s with part := y } ∧ y.wires = s.part.wires := by
  have request (tag : Nat) (r : Request) : (s.part.submit tag r).wires = s.part.wires := Part.submit_wires tag r s.part
  cases c with
  | powerOn st => cases other
  | resetPinAssert => cases other
  | resetPinRelease st => cases other
  | sampleEvent i => cases other
  | transmitFrameStart => cases other
  | transmitFrameEnd => cases other
  | holdRelease => cases other
  | laneRecordComplete => exact ⟨_, rfl, Part.takeRecord_wires _⟩
  | frameReceived p bits => exact ⟨_, rfl, (Part.frame_wires ..).trans (Part.settleFrame_wires ..)⟩
  | reAnchor => exact ⟨_, rfl, Part.takeReAnchor_wires _⟩
  | lockStepComplete p => exact ⟨_, rfl, Part.takeLock_wires ..⟩
  | identStepComplete p => exact ⟨_, rfl, Part.takeIdent_wires ..⟩
  | quietTailEnd => exact ⟨_, rfl, rfl⟩
  | goBack => exact ⟨_, rfl, rfl⟩
  | lightWindowEnd p => exact ⟨_, rfl, Part.takeLight_wires ..⟩
  | silenceTimeout p => exact ⟨_, rfl, Part.takeSilence_wires ..⟩
  | bringupStall p => exact ⟨_, rfl, Part.takeStall_wires ..⟩
  | errorWindowEnd p => exact ⟨_, rfl, Part.takeErrors_wires ..⟩
  | pathRecovered p => exact ⟨_, rfl, Part.takeRecovered_wires ..⟩
  | burstEntry p => exact ⟨_, rfl, Part.takeBurst_wires ..⟩
  | burstCycleRestart p => exact ⟨_, rfl, Part.takeCycle_wires ..⟩
  | clockWindowEnd => exact ⟨_, rfl, Part.takeClockWindow_wires _⟩
  | clockQualified => exact ⟨_, rfl, Part.takeQualified_wires _⟩
  | wakeComplete => exact ⟨_, rfl, Part.takeWake_wires _⟩
  | gainWalkStep n => exact ⟨_, rfl, wires_of_sans (Part.takeWalkStep_sans ..)⟩
  | phantomRiseEnd n => exact ⟨_, rfl, wires_of_sans (Part.takeRiseEnd_sans ..)⟩
  | phantomFallEnd n => exact ⟨_, rfl, wires_of_sans (Part.takeFallEnd_sans ..)⟩
  | contribFreed m r => exact ⟨_, rfl, wires_of_sans (Part.takeFreed_sans ..)⟩
  | leavingEnd m => exact ⟨_, rfl, wires_of_sans (Part.takeLeavingEnd_sans ..)⟩
  | arrivingEnd m => exact ⟨_, rfl, wires_of_sans (Part.takeArrivingEnd_sans ..)⟩
  | fadeEnd d => exact ⟨_, rfl, wires_of_sans (Part.takeFadeEnd_sans ..)⟩
  | latchedLimit src => exact ⟨_, rfl, wires_of_sans (Part.takeLatchedLimit_sans ..)⟩
  | cmpFrameClosed => exact ⟨_, rfl, Part.takeClosed_wires _⟩
  | framingError => exact ⟨_, rfl, (Part.framingError_wires _).trans (Part.settleLine_wires _)⟩
  | frameTooLong => exact ⟨_, rfl, Part.takeTooLong_wires _⟩
  | requestExecute => exact ⟨_, rfl, Part.executeHead_wires _⟩
  | holdAssert => exact ⟨_, rfl, rfl⟩
  | characterReceived c => exact ⟨_, rfl, (Part.character_wires ..).trans (Part.settleLine_wires _)⟩
  | lineIdleCharacterTime => exact ⟨_, rfl, (Part.onCmp_wires _ _ rfl).trans (Part.settleLine_wires _)⟩
  | receiverLightChange p lit =>
    exact ⟨_, rfl, (Part.onPath_wires p (PathCtl.lightChange lit) _ fun _ => rfl).trans (Part.takeLight_wires ..)⟩
  | wordClockEdge => exact ⟨_, rfl, (Part.clockEdge_wires _).trans (Part.takeClockWindow_wires _)⟩
  | _ => exact ⟨_, rfl, request _ _⟩

theorem Part.takeTransmit_dsc (x : Part) : x.takeTransmit.dsc = x.dsc := by
  unfold Part.takeTransmit
  dsimp only
  repeat' split
  all_goals rfl

/-- With the reset pin or HOLD asserted, or while it sends, the transmitter does nothing. -/
theorem Part.takeTransmit_idle (x : Part) (h : x.dsc.resetPin = true ∨ x.cmp.hold = true ∨ x.cmp.sending ≠ none) :
    x.takeTransmit = x := by
  unfold Part.takeTransmit
  refine if_neg fun ⟨pin, hold, sending⟩ => ?_
  rcases h with h | h | h
  · rw [pin] at h; cases h
  · rw [hold] at h; cases h
  · exact h sending

theorem wires_dsc {x y : Part} (h : x.wires = y.wires) :
    x.dsc.role = y.dsc.role ∧ x.dsc.resetPin = y.dsc.resetPin :=
  ⟨congrArg Prod.fst h, congrArg (fun w => w.2.1) h⟩

theorem Part.sampleWork_resetPin (i : SampleInput) (x : Part) : (x.sampleWork i).dsc.resetPin = x.dsc.resetPin := by
  rw [Part.sampleWork_dsc]; split <;> rfl

theorem Part.settle_dsc (x : Part) : x.settle.dsc.role = x.dsc.role ∧ x.settle.dsc.resetPin = x.dsc.resetPin := by
  have wires : (x.settleLink.settleDevice.settleTables.settleLine.drain).wires = x.wires := by simp
  have dsc : x.settle.dsc = (x.settleLink.settleDevice.settleTables.settleLine.drain).dsc := by
    unfold Part.settle Part.settlePort
    exact Part.takeTransmit_dsc _
  rw [dsc]
  exact wires_dsc wires

theorem Part.sampleEvent_role (i : SampleInput) (x : Part) : (x.sampleEvent i).dsc.role = x.dsc.role := by
  unfold Part.sampleEvent
  split
  · rfl
  · rw [Part.sampleWork_role]; exact x.settle_dsc.1

/-- Settles O5: power-on and the release of the pin aside, a command leaves the wires, or sends, or is the pin's assertion. -/
theorem roleKeptByEveryOtherCommand : Obligations.RoleKeptByEveryOtherCommand := by
  intro c s t other h
  have same {y : Part} (e : exec c s = .next { s with part := y }) (role : y.dsc.role = s.part.dsc.role) :
      t.part.dsc.role = s.part.dsc.role := by
    rw [e] at h; cases h; exact role
  by_cases reaches : reachesWires c = false
  · obtain ⟨y, e, wires⟩ := exec_wires c s reaches
    exact same e (wires_dsc wires).1
  · cases c with
    | powerOn st => exact absurd rfl (other st).1
    | resetPinRelease st => exact absurd rfl (other st).2
    | resetPinAssert => exact same rfl rfl
    | sampleEvent i => exact same rfl (Part.sampleEvent_role i s.part)
    | transmitFrameStart => exact same rfl (congrArg Dsc.role (Part.takeTransmit_dsc _))
    | transmitFrameEnd => exact same rfl (by unfold Part.endTransmit; split <;> rfl)
    | holdRelease => exact same rfl (congrArg Dsc.role (Part.takeTransmit_dsc _))
    | _ => exact absurd rfl reaches

/-- Settles O4: with the pin asserted the sample event and the transmitter do nothing, its assertion stops what is sent, and no
other command begins a transmission. -/
theorem resetPinSilences : Obligations.ResetPinSilences := by
  refine ⟨⟨fun s => rfl, fun s pin => ⟨fun i => ?_, ?_⟩⟩, fun s t inv h => ?_⟩
  · show Host.Outcome.next { s with part := s.part.sampleEvent i } = _
    unfold Part.sampleEvent
    rw [if_pos pin]
  · show Host.Outcome.next { s with part := s.part.takeTransmit } = _
    rw [s.part.takeTransmit_idle (.inl pin)]
  · unfold step at h
    split at h
    · cases h; exact inv
    · next c rest waits =>
      have moved {y : Part} (e : exec c { s with pending := rest } = .next { s with pending := rest, part := y })
          (kept : y.PinInv) : t.part.PinInv := by
        rw [e] at h; cases h; exact kept
      have pinned {y : Part} (sent : y.wires = s.part.wires) : y.PinInv := by
        simp only [Part.wires, Prod.mk.injEq] at sent
        obtain ⟨-, pin, a, b, host⟩ := sent
        intro asserted
        rw [a, b, host]
        exact inv (pin ▸ asserted)
      have transmits {y : Part} (hy : y.PinInv) : y.takeTransmit.PinInv := by
        intro asserted
        rw [y.takeTransmit_dsc] at asserted
        rw [y.takeTransmit_idle (.inl asserted)]
        exact hy asserted
      by_cases reaches : reachesWires c = false
      · obtain ⟨y, e, wires⟩ := exec_wires c { s with pending := rest } reaches
        exact moved e (pinned wires)
      · cases c with
        | powerOn st => exact moved rfl fun _ => ⟨rfl, rfl, rfl⟩
        | resetPinRelease st => exact moved rfl fun _ => ⟨rfl, rfl, rfl⟩
        | resetPinAssert => exact moved rfl fun _ => ⟨rfl, rfl, rfl⟩
        | sampleEvent i =>
          refine moved rfl ?_
          show (s.part.sampleEvent i).PinInv
          unfold Part.sampleEvent
          split
          · exact inv
          · next released =>
            intro asserted
            rw [Part.sampleWork_resetPin, s.part.settle_dsc.2] at asserted
            exact absurd asserted released
        | transmitFrameStart => exact moved rfl (transmits inv)
        | transmitFrameEnd =>
          refine moved rfl ?_
          show s.part.endTransmit.PinInv
          unfold Part.endTransmit
          split
          · exact inv
          · exact fun asserted => ⟨(inv asserted).1, (inv asserted).2.1, rfl⟩
        | holdRelease => exact moved rfl (transmits inv)
        | _ => exact absurd rfl reaches

end Sys2Proof.Machine
end

section
/-!
PROOFS. The step, reset and power: what a step does with the queue, which steps are not due, and the values of power-on.
-/

namespace Sys2Proof.Machine

/-! ### Steps that are not due -/

/-- A command that leaves the part leaves the state. -/
theorem next_of_part {x : Part} (s : State) (h : x = s.part) : Host.Outcome.next { s with part := x } = (.next s : Host.Outcome State Fault Refusal) := by
  rw [h]

theorem Part.onPath_self (p : Path) (f : PathCtl → PathCtl) (x : Part) (h : f (x.path p) = x.path p) : x.onPath p f = x := by
  cases p
  · exact congrArg (fun c => { x with pa := c }) h
  · exact congrArg (fun c => { x with pb := c }) h

/-- A freed contribution is found only where the list holds one of the reference. -/
theorem Mix.find_ref (m : Mix) (r : SrcRef) (c : Contrib) (h : m.find r = some c) : c ∈ m.contribs ∧ c.ref = r := by
  unfold Mix.find at h
  exact ⟨List.mem_of_find?_eq_some h, by simpa using List.find?_some h⟩

theorem Part.takeFreed_idle (m : Nat) (r : SrcRef) (x : Part)
    (none : ∀ c ∈ (x.mix m).contribs, c.ref = r → c.freeDue = false ∨ c.live = true) : x.takeFreed m r = x := by
  unfold Part.takeFreed
  split
  · next c j found _ =>
    obtain ⟨mem, ref⟩ := Mix.find_ref _ _ _ found
    rw [if_neg]
    rcases none c mem ref with h | h <;> simp [h]
  · rfl

theorem Part.burstReady_false (op : OpState) (c : PathCtl)
    (h : c.state ≠ .dark ∨ op ≠ .operate ∨ c.cfg.enabled = false ∨ c.cfg.autoBurst = false ∨ c.darkTimer < 96000 ∨ c.tx = .burst) :
    c.burstReady op = false := by
  unfold PathCtl.burstReady
  rcases h with h | h | h | h | h | h <;> simp [h]

/-- The steps of one path that are not due. -/
theorem path_steps_idle (s : State) (p : Path) :
    let idle (c : Instr) : Prop := exec c s = .next s
    let c := s.part.path p
    (c.state ≠ .acquiring ∨ c.step ≠ .lock ∨ c.count < 8 → idle (.lockStepComplete p)) ∧
    (c.state ≠ .acquiring ∨ c.step ≠ .ident ∨ c.count < 8 → idle (.identStepComplete p)) ∧
    (c.state ≠ .acquiring ∨ c.stepTimer < 12000 → idle (.bringupStall p)) ∧
    (c.lightDue = false → idle (.lightWindowEnd p)) ∧ (c.errDue = false → idle (.errorWindowEnd p)) ∧
    (c.silenceDue = false ∨ (c.state ≠ .inService ∧ c.state ≠ .impaired) → idle (.silenceTimeout p)) ∧
    (c.state ≠ .impaired ∨ c.recovery < 10 → idle (.pathRecovered p)) ∧
    (c.state ≠ .dark ∨ s.part.dsc.opState ≠ .operate ∨ c.cfg.enabled = false ∨ c.cfg.autoBurst = false ∨
      c.darkTimer < 96000 ∨ c.tx = .burst → idle (.burstEntry p)) ∧
    (c.tx ≠ .burst ∨ c.burstCounter < 24000 → idle (.burstCycleRestart p)) := by
  dsimp only
  refine ⟨fun h => ?_, fun h => ?_, fun h => ?_, fun h => ?_, fun h => ?_, fun h => ?_, fun h => ?_, fun h => ?_, fun h => ?_⟩ <;>
    refine next_of_part s ?_
  · refine if_neg fun ⟨state, step, count⟩ => ?_
    rcases h with h | h | h
    · exact h state
    · exact h step
    · omega
  · refine if_neg fun ⟨state, step, count⟩ => ?_
    rcases h with h | h | h
    · exact h state
    · exact h step
    · omega
  · refine if_neg fun ⟨state, timer⟩ => ?_
    rcases h with h | h
    · exact h state
    · omega
  · exact if_neg (by simp [h])
  · exact if_neg (by simp [h])
  · refine if_neg ?_
    rcases h with h | ⟨h1, h2⟩
    · simp [h]
    · simp [PathCtl.usable, h1, h2]
  · refine if_neg fun ⟨state, count⟩ => ?_
    rcases h with h | h
    · exact h state
    · omega
  · exact if_neg (by simp [Part.burstReady_false _ _ h])
  · refine if_neg fun ⟨tx, count⟩ => ?_
    rcases h with h | h
    · exact h tx
    · omega

theorem Part.takeTransmit_empty (x : Part) (replies : x.cmp.replies = []) (notices : x.cmp.notices = []) :
    x.takeTransmit = x := by
  have either : x.cmp.eitherFirst = false := by simp [Cmp.eitherFirst, replies]
  have sent (b : Bool) : x.cmp.transmit b = x.cmp := by
    unfold Cmp.transmit Cmp.transmitNotice
    rw [either, replies, notices]; rfl
  unfold Part.takeTransmit
  split
  · dsimp only
    rw [either, if_neg (by decide), Part.onCmp, sent]
  · rfl

/-- Settles O1: the front command is carried out, every command completes with the waiting ones as they stand, and the command of a
step that is not due finds its condition false. -/
theorem stepTakesFrontCommand : Obligations.StepTakesFrontCommand := by
  refine ⟨fun c s => rfl, fun s empty => by unfold step; rw [empty], fun c s => ?_, fun s => ?_⟩
  · obtain ⟨y, h, -⟩ := exec_moves c s
    exact ⟨y, h⟩
  · dsimp only
    refine ⟨path_steps_idle s, fun h => next_of_part s ?_, fun h => next_of_part s ?_, fun h => next_of_part s ?_,
      fun h => next_of_part s ?_, fun h => next_of_part s ?_, fun h => next_of_part s ?_, fun h => next_of_part s ?_,
      fun n => ⟨fun h => next_of_part s ?_, fun h => next_of_part s ?_, fun h => next_of_part s ?_⟩,
      fun m r => ⟨fun h => next_of_part s ?_, fun h => next_of_part s ?_, fun h => next_of_part s ?_⟩,
      fun d h => next_of_part s ?_, fun src h => next_of_part s ?_,
      fun h => ⟨next_of_part s ?_, next_of_part s ?_⟩, fun h => next_of_part s ?_, fun h => next_of_part s ?_,
      fun h => next_of_part s ?_⟩
    · unfold Part.takeReAnchor; rw [h]
    · unfold Part.takeRecord; rw [h]
    · unfold Part.onPle Ple.takeTailEnd; rw [h]; rfl
    · have idle : s.part.ple.takeGoBack = s.part.ple := by
        unfold Ple.takeGoBack
        refine if_neg ?_
        rcases h with h | h <;> simp [h]
      unfold Part.onPle; rw [idle]
    · exact if_neg (by simp [h])
    · refine if_neg fun ⟨role, source, lock, qual⟩ => ?_
      rcases h with h | h | h | h
      · rw [role] at h; cases h
      · rw [source] at h; cases h
      · exact h lock
      · omega
    · refine if_neg fun ⟨waking, timer⟩ => ?_
      rcases h with h | h
      · exact h waking
      · exact h timer
    · exact if_neg (by simp [h])
    · exact if_neg fun ⟨rising, timer⟩ => h.elim (fun c => c rising) fun c => c timer
    · exact if_neg fun ⟨falling, timer⟩ => h.elim (fun c => c falling) fun c => c timer
    · exact Part.takeFreed_idle m r s.part h
    · exact if_neg (by simp [h])
    · exact if_neg (by simp [h])
    · refine if_neg ?_
      rcases h with h | h <;> simp [h]
    · unfold Part.takeLatchedLimit
      split
      · next z opened =>
        refine if_neg ?_
        rcases h z opened with h | h <;> simp [h]
      · rfl
    · unfold Part.takeClosed; rw [h]
    · unfold Part.takeTooLong; rw [h]
    · unfold Part.executeHead; rw [h]
    · exact if_pos h
    · rcases h with h | h | h | ⟨replies, notices⟩
      · exact s.part.takeTransmit_idle (.inl h)
      · exact s.part.takeTransmit_idle (.inr (.inl h))
      · exact s.part.takeTransmit_idle (.inr (.inr h))
      · exact s.part.takeTransmit_empty replies notices

/-! ### Power -/

theorem getD_replicate {α : Type} (n : Nat) (a : α) (i : Nat) : (List.replicate n a).getD i a = a := by
  rw [List.getD_eq_getElem?_getD, List.getElem?_replicate]
  split <;> rfl

/-- Settles O2: the values are read off the definition; every entry of a list of power-on entries is the power-on entry. -/
theorem powerOnValues : Obligations.PowerOnValues := by
  intro st s
  have channel (n : Nat) : (s.part.restart st false).channel n = Channel.powerOn := getD_replicate 64 _ n
  have mix (m : Nat) : (s.part.restart st false).mix m = Mix.powerOn := getD_replicate 16 _ m
  have dest (d : Nat) : (s.part.restart st false).dest d = Dest.powerOn := getD_replicate 17 _ d
  have path (p : Path) : (s.part.restart st false).path p = PathCtl.powerOn.keepLight (s.part.path p) := by cases p <;> rfl
  have queue (r : Role) : (Api.powerOn r).queue =
      if r = .stage then (List.range 64).map (fun n => (⟨n, 0, false, false⟩ : PreampRecord)) else [] := by cases r <;> rfl
  have slots (r : Role) : List.replicate (rxSlots r) (0 : Int) = List.replicate (if r = .desk then 65 else 9) 0 := by cases r <;> rfl
  have source (src : Source) : (s.part.restart st false).tka.source src = SourceRec.powerOn := by cases src <;> rfl
  refine ⟨s.part.restart st false, rfl, rfl, ?_⟩
  simp only [channel, mix, dest, path, source]
  and_intros
  all_goals try rfl
  · exact queue st.role
  · exact fun p => ⟨rfl, rfl, rfl, rfl, rfl, rfl, rfl, rfl, rfl, rfl, rfl, rfl, rfl, rfl, rfl, rfl, rfl, rfl, rfl, rfl, rfl, rfl, rfl⟩
  · exact slots st.role
  · exact fun n => ⟨rfl, rfl, rfl, rfl, rfl, rfl, rfl, rfl, rfl, rfl, rfl⟩
  · exact fun m => ⟨rfl, rfl, rfl, rfl, rfl, rfl, rfl, rfl, rfl, rfl, rfl, rfl, rfl, rfl⟩
  · exact fun src => rfl
  · exact fun d => ⟨rfl, rfl⟩

/-- Settles O3: the machine starts in the power-on values of a STAGE part, which meet every invariant. -/
theorem resetIsPowerOnOfStage : Obligations.ResetIsPowerOnOfStage := by
  refine ⟨rfl, rfl, rfl, ?_, ?_, ?_, Ple.queueInv_empty _ rfl (by decide), ⟨Nat.zero_le 8, Nat.zero_le 32⟩, nofun, ?_⟩
  · exact Part.linkInv_of_down _ rfl rfl rfl rfl
  · exact (Part.phantomInv_iff _).mpr phantomOk_powerOn
  · exact (Part.poolInv_iff _).mpr poolOk_powerOn
  · exact (Part.talkInv_iff_but _).mpr (Part.TalkBut.of_powerOn rfl rfl)

end Sys2Proof.Machine
end

section
/-!
PROOFS. The steps of one path: light, errors, bring-up stall, silence and bursts (R21 to R38), and the frames that reach a path
before it is in service (Table 2-3).
-/

namespace Sys2Proof.Machine

/-! ### A step, and a change of one path -/

/-- Two parts that agree leave the same state. -/
theorem next_part {x y : Part} (s : State) (h : x = y) :
    (Host.Outcome.next { s with part := x } : Host.Outcome State Fault Refusal) = .next { s with part := y } := by
  rw [h]

/-- A change of one path depends on its value at that path alone. -/
theorem Part.onPath_congr {f g : PathCtl → PathCtl} (p : Path) (x : Part) (h : f (x.path p) = g (x.path p)) :
    x.onPath p f = x.onPath p g := by
  cases p
  · exact congrArg (fun c => { x with pa := c }) h
  · exact congrArg (fun c => { x with pb := c }) h

/-- A change of one path, reported, depends on its value at that path alone. -/
theorem Part.changePath_congr {f g : PathCtl → PathCtl} (p : Path) (x : Part) (h : f (x.path p) = g (x.path p)) :
    x.changePath p f = (x.onPath p g).report x := by
  unfold Part.changePath
  rw [x.onPath_congr p h]

/-! ### Light (R21, R22) -/

/-- What a closed light window makes of a path, by the judgement and the state. -/
theorem PathCtl.actOnLight_eq (op : OpState) (c : PathCtl) :
    c.actOnLight op =
      if c.light = false ∧ c.state ≠ .disabled ∧ c.state ≠ .dark then c.darken .lightLost
      else if c.light = true ∧ c.state = .dark ∧ op = .operate then { c.acquire .light with tx := .full }
      else c := by
  unfold PathCtl.actOnLight
  cases c.state <;> cases c.light <;> cases op <;> rfl

/-- Settles O20: the judgement is two of three of the history after the window, and the path acts on it by its state. -/
theorem lightWindowJudged : Obligations.LightWindowJudged := by
  refine ⟨fun p s due => ?_, fun p lit s idle => ?_⟩
  · refine next_part s ?_
    show s.part.takeLight p = _
    unfold Part.takeLight
    rw [if_pos due]
    refine s.part.changePath_congr p ?_
    rw [PathCtl.actOnLight_eq]
    rfl
  · refine next_part s ?_
    show (if _ then _ else _ : Part).onPath p (PathCtl.lightChange lit) = _
    rw [if_neg (by simp [idle])]
    rfl

/-! ### Errors (R32 to R34) -/

/-- The judgement of an error window, by use and by the two counts. -/
theorem PathCtl.judgeErrors_eq (c : PathCtl) :
    c.judgeErrors =
      if c.usable = false then c
      else if c.cfg.threshold ≤ c.badCount then { c with state := .impaired, cause := .errors, recovery := 0 }
      else if c.cfg.threshold ≤ c.lateCount then { c with state := .impaired, cause := .skew, recovery := 0 }
      else if c.state = .impaired then { c with recovery := c.recovery + 1 }
      else c := by
  unfold PathCtl.judgeErrors
  split
  · next serving => simp [PathCtl.usable, serving]
  · next impaired =>
    simp [PathCtl.usable, impaired]
  · next notServing notImpaired =>
    exact (if_pos (by simpa [PathCtl.usable] using ⟨notServing, notImpaired⟩)).symm

/-- Settles O21: the window is judged by use, errors before skew, and its counts are then kept. -/
theorem errorWindowJudged : Obligations.ErrorWindowJudged := by
  refine ⟨fun p s due => ?_, fun p s impaired ten => ?_⟩
  · refine next_part s ?_
    show s.part.takeErrors p = _
    unfold Part.takeErrors
    rw [if_pos due]
    refine s.part.changePath_congr p ?_
    rw [PathCtl.judgeErrors_eq]
    simp only [decide_eq_true_eq]
    split_ifs <;> rfl
  · refine next_part s ?_
    show s.part.takeRecovered p = _
    unfold Part.takeRecovered
    rw [if_pos ⟨impaired, ten.ge⟩]
    rfl

/-! ### Stall, silence and bursts (R28, R31, R38) -/

/-- Settles O22: each step's condition holds, and the step is its own definition. -/
theorem pathTimersAct : Obligations.PathTimersAct := by
  refine ⟨fun p s acquiring stalled => ?_, fun p s due used => ?_, fun p s => ⟨fun dark op enabled auto timer tx => ?_, fun tx count => ?_⟩⟩
  · refine next_part s ?_
    show s.part.takeStall p = _
    unfold Part.takeStall
    dsimp only
    rw [if_pos ⟨acquiring, stalled⟩]
    split <;> rfl
  · refine next_part s ?_
    show s.part.takeSilence p = _
    unfold Part.takeSilence
    rw [if_pos (by simp [due, used])]
    rfl
  · refine next_part s ?_
    show s.part.takeBurst p = _
    unfold Part.takeBurst
    rw [if_pos (by simp [PathCtl.burstReady, dark, op, enabled, auto, timer, tx])]
    rfl
  · refine next_part s ?_
    show s.part.takeCycle p = _
    unfold Part.takeCycle
    rw [if_pos ⟨tx, count.ge⟩]

/-! ### Frames before service (Table 2-3) -/

/-- A bad frame is counted unless the path is DISABLED or DARK, and returns the consecutive-frame count of LOCK and IDENT to 0. -/
theorem PathCtl.badFrame_eq (c : PathCtl) :
    c.badFrame = { c with
      badCount := if c.state = .disabled ∨ c.state = .dark then c.badCount else min 65535 (c.badCount + 1)
      count := if c.state = .acquiring ∧ c.step ≠ .align then 0 else c.count } := by
  unfold PathCtl.badFrame
  split
  · next state => rw [if_pos (Or.inl state), if_neg (by simp [state])]
  · next state => rw [if_pos (Or.inr state), if_neg (by simp [state])]
  · next state => by_cases step : c.step = .align <;> simp [state, step, satInc_eq]
  · next up lit waiting => rw [satInc_eq, if_neg (c := _ ∨ _) (not_or_intro up lit), if_neg fun h => waiting h.1]

/-- A good frame of this end's own role takes a path at IDENT or in use to MISMATCHED. -/
theorem Part.goodFrame_ownRole (p : Path) (f : Frame) (x : Part) (own : f.role = x.dsc.role)
    (heard : (x.path p).state = .acquiring ∧ (x.path p).step = .ident ∨ (x.path p).usable = true) :
    x.goodFrame p f = x.changePath p (PathCtl.mismatch f.role) := by
  unfold Part.goodFrame
  rcases heard with ⟨state, step⟩ | used
  · rw [state, step]
    exact if_pos own
  · cases state : (x.path p).state
    case inService => exact if_pos own
    case impaired => exact if_pos own
    all_goals simp [PathCtl.usable, state] at used

/-- Settles O12: a bad frame is one change of the path, a good one is taken by the state and the step. -/
theorem framesBeforeService : Obligations.FramesBeforeService := by
  refine ⟨fun p bits s ready bad => ?_, fun p bits f s ready good => ?_⟩
  · rw [exec_frameReceived_bad p bits s ready bad]
    exact next_part s (s.part.onPath_congr p (PathCtl.badFrame_eq _))
  · rw [exec_frameReceived_good p bits f s ready good]
    refine ⟨fun deaf => next_part (y := s.part) s ?_, fun state step => next_part s (s.part.goodFrame_lock p f state step),
      fun state step far => next_part s ?_, fun heard own => next_part s ?_, fun state step idle => next_part (y := s.part) s ?_⟩
    · unfold Part.goodFrame
      rcases deaf with state | state | state <;> rw [state]
    · unfold Part.goodFrame
      rw [state, step]
      exact if_neg far
    · rw [s.part.goodFrame_ownRole p f own heard]
      rfl
    · unfold Part.goodFrame
      rw [state, step]
      exact if_pos idle

end Sys2Proof.Machine
end

section
/-!
PROOFS. Arrivals at the FMU: judged by their distance from the playout pointer, placed, anchored and re-anchored (R42 to R44,
R52 to R54).
-/

namespace Sys2Proof.Machine

/-! ### Arrivals judged (R42, R43) -/

/-- A late, an early and an in-window arrival, written out. -/
theorem Part.judgeArrival_eq (p : Path) (f : Frame) (d : Nat) (x : Part) :
    x.judgeArrival p f d =
      if 32768 ≤ d then x.onPath p fun c => { c with lateCount := min 65535 (c.lateCount + 1) }
      else if 16 ≤ d then { x with fmu := match p with
        | .a => { x.fmu with earlyA := min 65535 (x.fmu.earlyA + 1) }
        | .b => { x.fmu with earlyB := min 65535 (x.fmu.earlyB + 1) } }
      else { x with fmu := x.fmu.place p f } := by
  unfold Part.judgeArrival
  simp only [satInc_eq]
  cases p <;> (simp only [← satInc_eq]; rfl)

/-- The judgement of an arrival leaves the pointer and the re-anchor count. -/
theorem Part.judgeArrival_counts (p : Path) (f : Frame) (d : Nat) (x : Part) :
    (x.judgeArrival p f d).fmu.p = x.fmu.p ∧ (x.judgeArrival p f d).fmu.reCount = x.fmu.reCount := by
  unfold Part.judgeArrival Part.onFmu
  split
  · cases p <;> exact ⟨rfl, rfl⟩
  · split
    · cases p <;> exact ⟨rfl, rfl⟩
    · refine ⟨Fmu.place_p p f _, ?_⟩
      unfold Fmu.place Fmu.countDup
      dsimp only
      repeat' split
      all_goals rfl

/-- With the pointer set and no anchoring pending an arrival reports its distance. -/
theorem Part.arrive_pointed (p : Path) (f : Frame) (q : Nat) (x : Part) (idle : x.fmu.anchor = none) (pointer : x.fmu.p = some q) :
    x.arrive p f = (some (distance f.seq q),
      if x.fmu.ref = some p then x.refArrival p f (distance f.seq q) else x.judgeArrival p f (distance f.seq q)) := by
  unfold Part.arrive
  rw [idle, pointer]

/-! ### A full frame on a usable path (R29 to R31) -/

/-- The flags of a frame that asks for nothing. -/
theorem Part.serviceFlags_quiet (f : Frame) (x : Part) (down : f.restart = false) (calm : x.ple.episode = false)
    (answered : f.restartAck = false ∨ x.dsc.restartFlag = false) : x.serviceFlags f = x := by
  unfold Part.serviceFlags Part.farFlag
  simp only [down, calm, Bool.and_false, Bool.false_eq_true, if_false]
  rw [if_neg (by rcases answered with h | h <;> simp [h])]

/-- A frame of the far role on a usable path is taken as one in use. -/
theorem Part.goodFrame_used (p : Path) (f : Frame) (x : Part) (used : (x.path p).usable = true) :
    x.goodFrame p f = x.usableFrame p f := by
  unfold Part.goodFrame
  cases state : (x.path p).state
  case inService => rfl
  case impaired => rfl
  all_goals simp [PathCtl.usable, state] at used

/-- A full frame whose flags ask for nothing resets the silence timer and is offered. -/
theorem Part.usableFrame_offered (p : Path) (f : Frame) (x : Part) (full : f.idle = false) (far : f.role ≠ x.dsc.role)
    (quiet : (x.path p).state = .inService → f.restart = false ∧ x.ple.episode = false ∧
      (f.restartAck = false ∨ x.dsc.restartFlag = false)) :
    x.usableFrame p f = ((x.onPath p fun c => { c with silenceTimer := 0 }).arrive p f).2 := by
  unfold Part.usableFrame Part.offerFull
  dsimp only
  rw [if_neg far, if_neg (by simp [full])]
  split
  · next serving =>
    obtain ⟨down, calm, answered⟩ := quiet serving
    rw [Part.serviceFlags_quiet f _ down (by simpa using calm) (by simpa using answered)]
  · rfl

/-! ### Placing (R44) -/

/-- Placing an arrival touches its own slot alone. -/
theorem Fmu.place_other (p : Path) (f : Frame) (fm : Fmu) (j : Nat) (h : j ≠ f.seq % 16) :
    (fm.place p f).slots[j]? = fm.slots[j]? := by
  unfold Fmu.place
  dsimp only
  split
  · split
    · cases p <;> rfl
    · exact (updAt_get _ _ _ _).trans (if_neg h)
  · exact (updAt_get _ _ _ _).trans (if_neg h)

/-- The duplicate counts after a placing: a copy where its own path's copy is already there is counted. -/
theorem Fmu.place_counts (p : Path) (f : Frame) (fm : Fmu) :
    (fm.place p f).dupA = (if (fm.slot f.seq).seq = some f.seq ∧ p = .a ∧ (fm.slot f.seq).goodA = true then satInc fm.dupA
      else fm.dupA) ∧
    (fm.place p f).dupB = (if (fm.slot f.seq).seq = some f.seq ∧ p = .b ∧ (fm.slot f.seq).goodB = true then satInc fm.dupB
      else fm.dupB) := by
  unfold Fmu.place Fmu.countDup MergeSlot.good
  dsimp only
  by_cases held : (fm.slot f.seq).seq = some f.seq
  · rw [if_pos held]
    cases p
    · cases good : (fm.slot f.seq).goodA <;> simp [held]
    · cases good : (fm.slot f.seq).goodB <;> simp [held]
  · rw [if_neg held]
    simp [held]

/-- A further copy joins its slot's copy states. -/
theorem Fmu.place_copies (p : Path) (f : Frame) (fm : Fmu) (inRange : f.seq % 16 < fm.slots.length)
    (held : (fm.slot f.seq).seq = some f.seq) :
    ((fm.place p f).slot f.seq).goodA = ((fm.slot f.seq).goodA || p == .a) ∧
    ((fm.place p f).slot f.seq).goodB = ((fm.slot f.seq).goodB || p == .b) ∧
    ((fm.slot f.seq).good p = true → (fm.place p f).slots = fm.slots) := by
  unfold Fmu.place
  dsimp only
  rw [if_pos held]
  split
  · next good => cases p <;> exact ⟨by simp_all [MergeSlot.good, Fmu.countDup, Fmu.slot], by simp_all [Fmu.countDup, Fmu.slot, MergeSlot.good], fun _ => rfl⟩
  · next fresh =>
    have taken : Fmu.slot { fm with slots := updAt (f.seq % 16) (MergeSlot.second p) fm.slots } f.seq =
        MergeSlot.second p (fm.slot f.seq) :=
      (updAt_getD _ _ _ _ _).trans (if_pos ⟨rfl, inRange⟩)
    rw [taken]
    refine ⟨?_, ?_, fun good => absurd good fresh⟩ <;> cases p <;> simp [MergeSlot.second]

/-- Settles O13: a frame that asks for nothing is offered, and the offer is judged by the distance. -/
theorem arrivalJudgedByDistance : Obligations.ArrivalJudgedByDistance := by
  refine ⟨fun p bits f q s ready good full far used quiet idle pointer => ?_, fun p f fm inRange => ?_⟩
  · have offered : exec (.frameReceived p bits) s =
        .next { s with part := ((s.part.onPath p fun c => { c with silenceTimer := 0 }).arrive p f).2 } := by
      rw [exec_frameReceived_good p bits f s ready good, s.part.goodFrame_used p f used,
        s.part.usableFrame_offered p f full far quiet]
    refine ⟨fun other => ?_, fun _ => offered⟩
    rw [offered, Part.arrive_pointed p f q _ (by simpa using idle) (by simpa using pointer),
      if_neg (by simpa using other)]
    exact next_part s (Part.judgeArrival_eq p f _ _)
  · obtain ⟨countA, countB⟩ := fm.place_counts p f
    simp only [satInc_eq] at countA countB
    refine ⟨fm.slot_place_first p f inRange, fun held => ?_, fm.place_other p f, fun held => (fm.place_copies p f inRange held).2.2,
      countA, countB, fm.place_p p f⟩
    obtain ⟨seqKept, copyKept⟩ := fm.slot_place_again p f inRange held
    obtain ⟨goodA, goodB, -⟩ := fm.place_copies p f inRange held
    exact ⟨seqKept.trans held.symm, copyKept, goodA, goodB⟩

/-! ### Anchoring (R52 to R54) -/

/-- An arrival from the reference path, by its distance and the re-anchor count. -/
theorem Part.refArrival_cases (p : Path) (f : Frame) (d : Nat) (x : Part) (below : x.fmu.reCount < 48) :
    (x.refArrival p f d).fmu.reCount = (if 1 ≤ d ∧ d ≤ 15 then 0 else x.fmu.reCount + 1) ∧
    (x.refArrival p f d).fmu.p = x.fmu.p ∧
    ((x.refArrival p f d).fmu.reCount = 48 → (x.refArrival p f d).fmu.reArrival = some (p, f)) := by
  unfold Part.refArrival
  split
  · next inWindow => exact ⟨rfl, (x.judgeArrival_counts p f d).1, fun h => absurd h (show (0 : Nat) ≠ 48 by decide)⟩
  · next outside =>
    obtain ⟨kept, counted⟩ := x.judgeArrival_counts p f d
    split
    · next more =>
      have now : ((x.judgeArrival p f d).onFmu fun fm => { fm with reCount := fm.reCount + 1 }).fmu.reCount =
        x.fmu.reCount + 1 := congrArg (· + 1) counted
      exact ⟨now, kept, fun h => by omega⟩
    · next last =>
      refine ⟨?_, ?_, fun _ => rfl⟩
      · show 48 = _
        omega
      · split
        · rfl
        · exact kept

/-- Below the 48th, an arrival from the reference path is judged and the count follows. -/
theorem Part.refArrival_counted (p : Path) (f : Frame) (d : Nat) (x : Part)
    (more : 1 ≤ d ∧ d ≤ 15 ∨ x.fmu.reCount < 47) :
    x.refArrival p f d =
      (x.judgeArrival p f d).onFmu fun fm => { fm with reCount := if 1 ≤ d ∧ d ≤ 15 then 0 else x.fmu.reCount + 1 } := by
  unfold Part.refArrival
  have counted := (x.judgeArrival_counts p f d).2
  by_cases inWindow : 1 ≤ d ∧ d ≤ 15
  · rw [if_pos inWindow, if_pos inWindow]
  · have few : x.fmu.reCount + 1 < 48 := by
      have := more.resolve_left inWindow
      omega
    rw [if_neg inWindow, if_neg inWindow, if_pos few, ← counted]
    rfl

/-- The 48th arrival waits, and is not placed at distance 0. -/
theorem Part.refArrival_last (p : Path) (f : Frame) (d : Nat) (x : Part) (far : d = 0 ∨ 15 < d) (last : x.fmu.reCount = 47) :
    x.refArrival p f d =
      (if d = 0 then x else x.judgeArrival p f d).onFmu fun fm => { fm with reCount := 48, reArrival := some (p, f) } := by
  unfold Part.refArrival
  rw [if_neg (by omega), if_neg (by omega)]

/-- Settles O15: the arrival is judged by its distance, and the three branches of re-anchoring are those of the count. -/
theorem pointerAnchored : Obligations.PointerAnchored := by
  refine ⟨⟨fun p f q x idle pointer ref below => ?_, fun p f s due => ?_⟩, fun p f x => ⟨fun pending => ?_, fun pending => ?_, fun idle unset => ?_⟩⟩
  · have taken := x.arrive_pointed p f q idle pointer
    rw [if_pos ref] at taken
    obtain ⟨count, kept, waits⟩ := x.refArrival_cases p f (distance f.seq q) below
    simp only [taken]
    have judged := x.judgeArrival_eq p f (distance f.seq q)
    refine ⟨rfl, count, kept.trans pointer, waits, fun near => ?_, fun far last => ?_, fun zero last => ?_⟩
    · exact (x.refArrival_counted p f _ near).trans (congrArg (fun j => Part.onFmu _ j) judged)
    · have far : 15 < distance f.seq q := far
      refine (x.refArrival_last p f (distance f.seq q) (.inr far) last).trans ?_
      rw [if_neg (by omega)]
      exact congrArg (fun j => Part.onFmu _ j) judged
    · refine (x.refArrival_last p f (distance f.seq q) (.inl zero) last).trans ?_
      rw [if_pos (show distance f.seq q = 0 from zero)]
      rfl
  · refine next_part s ?_
    show s.part.takeReAnchor = _
    unfold Part.takeReAnchor
    rw [due]
    simp only [satInc_eq]
    rfl
  · unfold Part.arrive
    rw [pending]
    exact if_pos rfl
  · unfold Part.arrive
    rw [pending]
    exact if_neg (by cases p <;> decide)
  · unfold Part.arrive
    rw [idle, unset]

end Sys2Proof.Machine
end

section
/-!
PROOFS. Requests at a ready port (R172): refused by a check, or carried out with clamped fields; the notice mask, the playout delay,
the word clock and the read requests.
-/

namespace Sys2Proof.Machine

/-! ### A request at a ready port -/

/-- A request row at a ready port is carried out. -/
theorem exec_request_ready (tag : Nat) (r : Request) (s : State) (ready : s.part.PortReady) :
    exec (requestRow ⟨tag, r⟩) s = .next { s with part := s.part.carryOut ⟨tag, r⟩ } := by
  rw [exec_requestRow, Part.submit_ready tag r s.part ready]

/-- A request that a check of R172 answers. -/
theorem exec_request_refused (tag : Nat) (r : Request) (code : ReplyCode) (s : State) (ready : s.part.PortReady)
    (h : s.part.refusal r = some code) :
    exec (requestRow ⟨tag, r⟩) s = .next { s with part := s.part.answer tag code } := by
  rw [exec_request_ready tag r s ready, Part.carryOut_refused tag r code s.part h]

/-- A request that passes its checks acts with its fields clamped. -/
theorem exec_request_act (tag : Nat) (r : Request) (s : State) (ready : s.part.PortReady) (h : s.part.refusal r = none) :
    exec (requestRow ⟨tag, r⟩) s = .next { s with part := s.part.act tag r.clamp } := by
  rw [exec_request_ready tag r s ready, Part.carryOut_act tag r s.part h]

/-- A request that is no update and no SET_PLAYOUT is checked for its end and its identifiers alone. -/
theorem Part.refusal_eq (r : Request) (x : Part) (available : x.unavailable r.clamp = false) (free : x.locked r.clamp = false) :
    x.refusal r =
      if absentAt x.dsc.role r then some .state else if r.identOk x.dsc.role then none else some .range := by
  unfold Part.refusal
  rw [available, free]
  cases absentAt x.dsc.role r <;> cases r.identOk x.dsc.role <;> rfl

/-- A request that STAGE takes, DESK takes too. -/
theorem absentAt_of_stage (r : Request) (present : absentAt .stage r = false) (role : Role) : absentAt role r = false := by
  cases role
  · rfl
  · exact present

/-- A request of either end with no identifier out of range, no state and no lock to heed. -/
theorem Part.refusal_none (r : Request) (x : Part) (present : absentAt .stage r = false) (fits : r.identOk x.dsc.role = true)
    (available : x.unavailable r.clamp = false) (free : x.locked r.clamp = false) : x.refusal r = none := by
  rw [Part.refusal_eq r x available free, absentAt_of_stage r present, fits]
  rfl

/-- A request of either end with an identifier out of range. -/
theorem Part.refusal_range (r : Request) (x : Part) (present : absentAt .stage r = false) (off : r.identOk x.dsc.role = false) :
    x.refusal r = some .range := by
  unfold Part.refusal
  rw [absentAt_of_stage r present, off]
  rfl

/-! ### Notices and their mask (R168, R169) -/

/-- A notice by its enable and by the room in the queue. -/
theorem Part.notify_mask (n : Notice) (x : Part) :
    let enabled := n.kind = 0x0F ∨ x.cmp.mask.getD (n.kind - 1) true = true
    (¬ enabled → x.notify n = x) ∧
    (enabled → x.cmp.notices.length < 32 →
      x.notify n = { x with cmp := { x.cmp with notices := x.cmp.notices ++ [n] } }) ∧
    (enabled → 32 ≤ x.cmp.notices.length →
      x.notify n = { x with cmp := { x.cmp with lossFlag := true, lost := min 65535 (x.cmp.lost + 1) } }) := by
  unfold Part.notify Cmp.notify
  refine ⟨fun off => ?_, fun on room => ?_, fun on full => ?_⟩
  · rw [if_neg off]
  · rw [if_pos on, Cmp.join, if_pos room]
  · rw [if_pos on, Cmp.join, if_neg (by omega), satInc_eq]

/-- Settles O33: SET_NOTICE_MASK passes every check, and a notice is judged by its enable and the room. -/
theorem noticesMaskedAndCounted : Obligations.NoticesMaskedAndCounted := by
  refine ⟨fun tag mask s ready => ?_, Part.notify_mask⟩
  have acted := exec_request_act tag (.setNoticeMask mask) s ready
    (s.part.refusal_none _ rfl rfl rfl rfl)
  refine ⟨fun same => acted.trans (next_part s ?_), fun differs => acted.trans (next_part s ?_)⟩
  · exact if_pos same
  · exact if_neg differs

/-! ### The playout delay (R51) -/

/-- SET_PLAYOUT is refused outside STANDBY, and by no other check. -/
theorem Part.refusal_setPlayout (d : Nat) (x : Part) :
    x.refusal (.setPlayout d) = if x.dsc.opState = .standby then none else some .state := by
  have present : absentAt x.dsc.role (.setPlayout d) = false := by cases x.dsc.role <;> rfl
  unfold Part.refusal
  rw [present]
  cases op : x.dsc.opState <;> simp [Request.identOk, Part.unavailable, Part.locked, Request.clamp, op]

/-- Settles O46: STATE outside STANDBY, and the clamped delay is compared with D. -/
theorem playoutDelaySet : Obligations.PlayoutDelaySet := by
  intro tag d s ready
  refine ⟨fun op => ?_, fun op same => ?_, fun op differs => ?_⟩
  · exact exec_request_refused tag (.setPlayout d) .state s ready ((Part.refusal_setPlayout d s.part).trans (if_neg op))
  · have acted := exec_request_act tag (.setPlayout d) s ready ((Part.refusal_setPlayout d s.part).trans (if_pos op))
    exact acted.trans (next_part s (if_pos same))
  · have acted := exec_request_act tag (.setPlayout d) s ready ((Part.refusal_setPlayout d s.part).trans (if_pos op))
    exact acted.trans (next_part s (if_neg differs))

/-! ### The word clock (R12 to R14) -/

/-- A DESK part's CLOCK_STATE names its source and its lock state. -/
theorem Part.notifyClock_desk (x : Part) (source : ClockSource) (lock : LockState) (desk : x.dsc.role = .desk)
    (hs : x.scu.source = source) (hl : x.scu.lock = lock) :
    x.notifyClock = x.notify (.clockState ⟨.desk, some source, lock, none⟩) := by
  unfold Part.notifyClock Part.clockInfo
  rw [desk, hs, hl]

theorem goodWindow_iff (edges : Nat) : goodWindow edges = true ↔ 47 ≤ edges ∧ edges ≤ 49 := by
  unfold goodWindow
  simp only [Bool.or_eq_true, beq_iff_eq]
  omega

/-- SET_CLOCK at DESK is checked for its source. -/
theorem Part.refusal_setClock_desk (n : Nat) (x : Part) (desk : x.dsc.role = .desk) :
    x.refusal (.setClock n) = if n ≤ 1 then none else some .range := by
  rw [Part.refusal_eq _ x rfl rfl, desk]
  show (if decide (n ≤ 1) = true then none else some ReplyCode.range) = _
  simp only [decide_eq_true_eq]

/-- Settles O23: windows by their edges, SET_CLOCK by role and source. -/
theorem wordClockQualifies : Obligations.WordClockQualifies := by
  refine ⟨fun s desk source => ⟨fun idle opened => ?_, fun due low high => ?_, fun due bad => ?_, fun free sixteen => ?_⟩,
    fun tag n s ready => ⟨fun stage => ?_, fun desk high => ?_, fun desk held => ?_, fun desk other => ?_⟩⟩
  · refine next_part s ?_
    show s.part.takeClockWindow.clockEdge = _
    have stands : s.part.takeClockWindow = s.part := if_neg (by simp [idle])
    rw [stands]
    exact if_pos ⟨desk, source, opened⟩
  · refine next_part s ?_
    show s.part.takeClockWindow = _
    unfold Part.takeClockWindow
    rw [if_pos due, if_pos ((goodWindow_iff _).mpr ⟨low, high⟩)]
  · refine next_part s ?_
    show s.part.takeClockWindow = _
    unfold Part.takeClockWindow
    rw [if_pos due, if_neg (by rw [goodWindow_iff]; omega)]
    split
    · exact Part.notifyClock_desk _ .ext .free desk source rfl
    · rfl
  · refine next_part s ?_
    show s.part.takeQualified = _
    unfold Part.takeQualified
    rw [if_pos ⟨desk, source, free, sixteen.ge⟩]
    exact Part.notifyClock_desk _ .ext .locked desk source rfl
  · exact exec_request_refused tag (.setClock n) .state s ready (by rw [Part.refusal_eq _ s.part rfl rfl, stage]; rfl)
  · refine exec_request_refused tag (.setClock n) .range s ready ?_
    rw [Part.refusal_setClock_desk n s.part desk, if_neg (by omega)]
  all_goals
    have fits : s.part.refusal (.setClock n) = none := by
      rw [Part.refusal_setClock_desk n s.part desk, if_pos (by omega)]
    have acted := exec_request_act tag (.setClock n) s ready fits
  · refine acted.trans (next_part s (if_pos ?_))
    rcases held with ⟨rfl, h⟩ | ⟨rfl, h⟩ <;> exact h.symm
  · have differs : clockOf n ≠ s.part.scu.source := by
      rcases other with ⟨rfl, h⟩ | ⟨rfl, h⟩ <;> rw [h] <;> decide
    refine ⟨_, acted.trans (next_part s (if_neg differs)), rfl, rfl, rfl, ?_⟩
    exact congrArg (fun y : Part => { y with scu := s.part.scu }) 
      (Part.notifyClock_desk { s.part with scu := ⟨clockOf n, .free, 0, false, 0, 0, false⟩ } (clockOf n) .free desk rfl rfl)

/-! ### Read requests (R39, R63, R89, R106, R128, R151, R158, R175) -/

/-- The lane status with its mirror state at DESK alone. -/
theorem Part.laneStatus_eq (x : Part) :
    x.laneStatus =
      { queued := x.ple.queue.length
        inFlight := (x.ple.queue.filter fun r => r.seq.isSome).length
        marks := x.ple.marks.length
        nextSeq := x.ple.nextSeq
        expSeq := x.ple.expSeq
        ackRaised := x.ple.ackRaised
        episode := x.ple.episode
        quietTail := x.ple.quietTail
        dump := x.ple.dump
        mirror := if x.dsc.role = .desk then some x.mirror.state else none
        dups := x.ple.dups
        outOfOrder := x.ple.outOfOrder
        broken := x.ple.broken
        malformed := x.ple.malformed
        goBacks := x.ple.goBacks } := by
  unfold Part.laneStatus
  cases x.dsc.role <;> rfl

/-- The place of the first entry a search finds. -/
theorem findFrom_eq_findIdx? {α : Type} (f : α → Bool) (i : Nat) (l : List α) :
    findFrom f i l = (l.findIdx? f).map (· + i) := by
  induction l generalizing i with
  | nil => rfl
  | cons a l ih =>
    rw [List.findIdx?_cons]
    unfold findFrom
    split
    · simp
    · rw [ih, Option.map_map]
      refine congrArg (fun g => Option.map g _) (funext fun k => ?_)
      show k + (i + 1) = k + 1 + i
      omega

/-- The contributions known LIVE, counted off by their places. -/
theorem mirrorLive_eq (row : List (Option ContribEcho)) :
    mirrorLive row = (List.range row.length).filterMap fun k =>
      match row.getD k none with
      | some e => if e.live.isSome = true then some (if k < 64 then ⟨.input, k⟩ else ⟨.ret, k - 64⟩, e) else none
      | none => none := by
  have numbered : mapFrom (fun i (e : Option ContribEcho) => (refAt i, e)) 0 row =
      (List.range row.length).map fun k => (refAt k, row.getD k none) := by
    refine List.ext_getElem? fun j => ?_
    rw [mapFrom_get, List.getElem?_map]
    by_cases inside : j < row.length
    · simp [inside]
    · simp [inside]
  unfold mirrorLive
  rw [numbered, List.filterMap_map]
  refine congrArg (fun g => List.filterMap g _) (funext fun k => ?_)
  show (match row.getD k none with | some e => if e.live.isSome then some (refAt k, e) else none | none => none) = _
  cases row.getD k none <;> rfl

/-- METER_READ covers a meter when one of its steps reaches it. -/
theorem metersRead_contains (first count k : Nat) :
    (metersRead first count).contains k = true ↔ ∃ i, i < (if count = 0 then 80 else count) ∧ (first + i) % 80 = k := by
  simp [metersRead]

/-- A read request passes every check but that of its identifiers. -/
theorem exec_read_request (tag : Nat) (r : Request) (s : State) (ready : s.part.PortReady)
    (present : absentAt .stage r = false) (fits : r.identOk s.part.dsc.role = true)
    (available : s.part.unavailable r.clamp = false) (free : s.part.locked r.clamp = false) :
    exec (requestRow ⟨tag, r⟩) s = .next { s with part := s.part.act tag r.clamp } :=
  exec_request_act tag r s ready (s.part.refusal_none r present fits available free)

theorem PathCtl.usable_eq_decide (c : PathCtl) : c.usable = decide (c.state = .inService ∨ c.state = .impaired) := by
  unfold PathCtl.usable
  cases c.state <;> rfl

/-- GET_IDENTIFY's fields. -/
theorem Part.identifyInfo_eq (x : Part) :
    x.identifyInfo =
      { device := 0x6416
        revision := Config.siliconRevision.val + 1
        role := x.dsc.role
        lineSpeed := match x.cmp.speed1, x.cmp.speed0 with
          | false, false => 115200
          | false, true => 230400
          | true, false => 460800
          | true, true => 921600
        strap1 := x.cmp.speed1
        strap0 := x.cmp.speed0
        opState := x.dsc.opState
        wakeLeft := if x.dsc.opState = .waking then some x.dsc.wakeTimer else none
        heldState := x.dsc.heldState
        heldLink := x.dsc.heldLink
        restartFlag := x.dsc.restartFlag
        clock := match x.dsc.role with
          | .desk => ⟨.desk, some x.scu.source, x.scu.lock, none⟩
          | .stage => ⟨.stage, none, x.scu.lock, x.fmu.ref⟩
        qual := if x.dsc.role = .desk then some x.scu.qual else none
        lane := x.laneStatus
        mask := x.cmp.mask
        lossFlag := x.cmp.lossFlag
        lost := x.cmp.lost
        frameErrors := x.cmp.frameErrors
        repliesLost := x.cmp.repliesLost } := by
  unfold Part.identifyInfo Part.clockInfo
  cases x.dsc.role <;> rfl

/-- What METER_READ leaves of the table. -/
theorem Part.readMeters_table (first count : Nat) (x : Part) (k : Nat) (e : MeterEntry) (held : x.mtu.table[k]? = some e) :
    (x.readMeters first count).2.mtu.table[k]? =
      some (if ∃ i, i < (if count = 0 then 80 else count) ∧ (first + i) % 80 = k then ⟨0, false, e.age⟩ else e) := by
  show (mapFrom _ 0 x.mtu.table)[k]? = _
  rw [mapFrom_get, held, Nat.zero_add]
  refine congrArg some ?_
  by_cases read : ∃ i, i < (if count = 0 then 80 else count) ∧ (first + i) % 80 = k
  · rw [if_pos read]
    exact if_pos ((metersRead_contains first count k).mpr read)
  · rw [if_neg read]
    exact if_neg fun h => read ((metersRead_contains first count k).mp h)

/-- The meters METER_READ covers, its count clamped. -/
theorem metersRead_clamped (first count : Nat) :
    metersRead first (min 80 count) =
      (List.range (if count = 0 then 80 else min 80 count)).map fun i => (first + i) % 80 := by
  unfold metersRead
  by_cases all : count = 0
  · rw [all]; rfl
  · rw [if_neg (by omega), if_neg all]

/-- Settles O45: each read request passes its checks and reports its fields, which are those of the model's replies. -/
theorem readRequestsReport : Obligations.ReadRequestsReport := by
  refine ⟨fun tag n s ready => ?_, fun tag first count s ready => ⟨fun high => ?_, fun fits => ?_⟩⟩
  · have read (r : Request) (present : absentAt .stage r = false) (fits : r.identOk s.part.dsc.role = true)
        (available : s.part.unavailable r.clamp = false) (free : s.part.locked r.clamp = false) {body : ReplyBody}
        (reply : s.part.act tag r.clamp = s.part.reply tag .ok body) :
        exec (requestRow ⟨tag, r⟩) s = .next { s with part := s.part.reply tag .ok body } :=
      (exec_read_request tag r s ready present fits available free).trans (next_part s reply)
    have off (r : Request) (present : absentAt .stage r = false) (high : r.identOk s.part.dsc.role = false) :
        exec (requestRow ⟨tag, r⟩) s = .next { s with part := s.part.answer tag .range } :=
      exec_request_refused tag r .range s ready (s.part.refusal_range r present high)
    have channelFits (h : n ≤ 63) : Request.identOk s.part.dsc.role (.getChannel n) = true := decide_eq_true h
    have mixFits (h : n ≤ 15) : Request.identOk s.part.dsc.role (.getMix n) = true := decide_eq_true h
    refine ⟨read .identify rfl rfl rfl rfl ?_, read .getLink rfl rfl rfl rfl ?_,
      fun low => read (.getPath n) rfl (decide_eq_true low) rfl rfl ?_, fun high => off (.getPath n) rfl (decide_eq_false (by omega)),
      fun high => off (.getChannel n) rfl (decide_eq_false (by omega)), fun high => off (.getMix n) rfl (decide_eq_false (by omega)),
      fun stage => ⟨fun low => read (.getChannel n) rfl (channelFits low) rfl rfl ?_, fun low inside => ?_,
        read .getTalk rfl rfl rfl rfl ?_, read .getLock rfl rfl rfl rfl ?_⟩,
      fun desk => ⟨fun low => read (.getChannel n) rfl (channelFits low) rfl rfl ?_,
        fun low => read (.getMix n) rfl (mixFits low) rfl rfl ?_, read .getTalk rfl rfl rfl rfl ?_, read .getLock rfl rfl rfl rfl ?_⟩⟩
    · have info := s.part.identifyInfo_eq
      rw [Part.laneStatus_eq] at info
      exact congrArg (fun i => s.part.reply tag .ok (.identify i)) info
    · show s.part.reply tag .ok (.link s.part.linkInfo) = _
      unfold Part.linkInfo
      rw [PathCtl.usable_eq_decide, PathCtl.usable_eq_decide]
    · obtain rfl | rfl : n = 0 ∨ n = 1 := by omega
      · rfl
      · rfl
    · show s.part.reply tag .ok (s.part.channelBody n) = _
      unfold Part.channelBody Part.chanInfo
      rw [stage, findFrom_eq_findIdx?]
      simp
      rfl
    · refine (exec_read_request tag (.getMix n) s ready rfl (mixFits low) rfl rfl).trans (next_part s ?_)
      show (s.part.clearClip n).reply tag .ok (s.part.mixBody n) = _
      unfold Part.clearClip Part.mixBody Part.onMix
      rw [stage, updAt_eq_set n _ Mix.powerOn _ inside]
      rfl
    · show s.part.reply tag .ok s.part.talkBody = _
      unfold Part.talkBody
      rw [stage]
      rfl
    · show s.part.reply tag .ok s.part.lockBody = _
      unfold Part.lockBody
      rw [stage]
    · show s.part.reply tag .ok (s.part.channelBody n) = _
      unfold Part.channelBody
      rw [desk]
    · show (s.part.clearClip n).reply tag .ok (s.part.mixBody n) = _
      unfold Part.clearClip Part.mixBody
      rw [desk]
      exact congrArg (fun live => s.part.reply tag .ok (.mixMirror s.part.mirror.state (s.part.mirror.mixes.getD n none) live
        ((s.part.mirror.contribs.getD n []).filter Option.isNone).length)) (mirrorLive_eq _)
    · show s.part.reply tag .ok s.part.talkBody = _
      unfold Part.talkBody
      rw [desk]
    · show s.part.reply tag .ok s.part.lockBody = _
      unfold Part.lockBody
      rw [desk]
  · exact exec_request_refused tag (.meterRead first count) .range s ready
      (s.part.refusal_range _ rfl (decide_eq_false (by omega)))
  · have acted := exec_read_request tag (.meterRead first count) s ready rfl
      (decide_eq_true fits) rfl rfl
    refine ⟨(s.part.readMeters first (min 80 count)).2.mtu.table, acted.trans (next_part s ?_), ?_, fun k e held => ?_⟩
    · have infos : (s.part.readMeters first (min 80 count)).1 =
          .meters (metersRead first (min 80 count)).length ((metersRead first (min 80 count)).map s.part.meterInfo) := rfl
      show ((s.part.readMeters first (min 80 count)).2).reply tag .ok (s.part.readMeters first (min 80 count)).1 = _
      rw [infos, metersRead_clamped, List.length_map, List.length_range, List.map_map]
      rfl
    · exact mapFrom_length _ 0 _
    · have same : (if min 80 count = 0 then 80 else min 80 count) = if count = 0 then 80 else min 80 count := by
        by_cases none : count = 0
        · rw [none]; rfl
        · rw [if_neg none, if_neg (by omega)]
      have table := s.part.readMeters_table first (min 80 count) k e held
      rw [same] at table
      exact table

end Sys2Proof.Machine
end

section
/-!
PROOFS. What the operations leave of the Control Message Port: all but its notices. A change of the paths, of the operating state or of
the tables gives notices and nothing else there; a request adds its reply.
-/

namespace Sys2Proof.Machine

/-- The Control Message Port without its notices. -/
def Part.port (x : Part) : Cmp := x.cmp.sansNotices

theorem port_of_sans {x y : Part} (h : x.sansTables = y.sansTables) : x.port = y.port := congrArg Part.cmp h

@[simp] theorem Part.notify_port (n : Notice) (x : Part) : (x.notify n).port = x.port := Cmp.notify_sans n x.cmp

@[simp] theorem Part.withPaths_port (a b : PathCtl) (x : Part) : ({ x with pa := a, pb := b } : Part).port = x.port := rfl
@[simp] theorem Part.withPair_port (p : PairCfg) (x : Part) : ({ x with pair := p } : Part).port = x.port := rfl
@[simp] theorem Part.withFmu_port (fm : Fmu) (x : Part) : ({ x with fmu := fm } : Part).port = x.port := rfl
@[simp] theorem Part.withScu_port (scu : Scu) (x : Part) : ({ x with scu := scu } : Part).port = x.port := rfl
@[simp] theorem Part.withDsc_port (d : Dsc) (x : Part) : ({ x with dsc := d } : Part).port = x.port := rfl
@[simp] theorem Part.withMirror_port (m : Mirror) (x : Part) : ({ x with mirror := m } : Part).port = x.port := rfl
@[simp] theorem Part.withApi_port (a : Api) (x : Part) : ({ x with api := a } : Part).port = x.port := rfl
@[simp] theorem Part.withMtu_port (m : Mtu) (x : Part) : ({ x with mtu := m } : Part).port = x.port := rfl
@[simp] theorem Part.onFmu_port (f : Fmu → Fmu) (x : Part) : (x.onFmu f).port = x.port := rfl
@[simp] theorem Part.onPle_port (f : Ple → Ple) (x : Part) : (x.onPle f).port = x.port := rfl
@[simp] theorem Part.onPath_port (p : Path) (f : PathCtl → PathCtl) (x : Part) : (x.onPath p f).port = x.port := by
  cases p <;> rfl

/-! ### Paths, link and clock -/

@[simp] theorem Part.clockFollow_port (x : Part) : x.clockFollow.port = x.port := by
  unfold Part.clockFollow Part.notifyClock
  split <;> simp

@[simp] theorem Part.notifyPath_port (p : Path) (x old : Part) : (Part.notifyPath p x old).port = x.port := by
  unfold Part.notifyPath
  split <;> simp

@[simp] theorem Part.anchoring_port (x : Part) : x.anchoring.1.port = x.port := by
  unfold Part.anchoring
  (repeat' split) <;> simp

@[simp] theorem Part.linkChanged_port (old : LinkState) (x : Part) : (x.linkChanged old).port = x.port := by
  have talk (y : Part) : (y.talkLink old).port = y.port := port_of_sans (y.talkLink_sans old)
  have lane (y : Part) : (y.laneLink old).port = y.port := by
    unfold Part.laneLink Part.endEpisode
    (repeat' split) <;> simp
  have meter (y : Part) : y.meterLink.port = y.port := by
    unfold Part.meterLink
    split <;> simp
  unfold Part.linkChanged
  dsimp only
  rw [meter, lane]
  split
  · exact talk x
  · rfl

@[simp] theorem Part.fmuReport_port (new : Option Path) (x : Part) : (x.fmuReport new).port = x.port := by
  unfold Part.fmuReport
  dsimp only
  (repeat' split) <;> simp

@[simp] theorem Part.report_port (old x : Part) : (x.report old).port = x.port := by
  simp [Part.report]

@[simp] theorem Part.changePath_port (p : Path) (f : PathCtl → PathCtl) (x : Part) : (x.changePath p f).port = x.port := by
  simp [Part.changePath]

@[simp] theorem Part.setPath_port (p : Path) (f : PathSet) (x : Part) : (x.setPath p f).2.port = x.port := by
  unfold Part.setPath
  dsimp only
  split
  · rfl
  · rw [Part.report_port, Part.withPair_port, Part.onPath_port]

@[simp] theorem Part.standbyAligns_port (x : Part) : x.standbyAligns.port = x.port := by
  unfold Part.standbyAligns
  split <;> simp

@[simp] theorem Part.pathsStandby_port (x : Part) : x.pathsStandby.port = x.port := by
  have entered (u : Part) : ({ u with pa := u.pa.standby, pb := u.pb.standby } : Part).port = u.port := rfl
  unfold Part.pathsStandby
  dsimp only
  split <;> simp [entered]

/-! ### Operating states -/

@[simp] theorem Part.refreshPreamps_port (x : Part) : x.refreshPreamps.port = x.port := by
  unfold Part.refreshPreamps
  split <;> rfl

@[simp] theorem Part.standbyEntry_port (x : Part) : x.standbyEntry.port = x.port := by
  have begun : (x.setOp .standby 0).pathsStandby.port = x.port := (Part.pathsStandby_port _).trans rfl
  unfold Part.standbyEntry
  dsimp only
  split
  · exact begun
  · refine Eq.trans ?_ begun
    exact port_of_sans ((Part.talkStandby_sans _).trans ((Part.mastersEval_sans _).trans (Part.channelsStandby_sans _)))

@[simp] theorem Part.operateEntry_port (x : Part) : x.operateEntry.port = x.port := by
  unfold Part.operateEntry
  dsimp only
  split
  · rfl
  · exact (port_of_sans ((Part.mastersEval_sans _).trans (Part.channelsOperate_sans _))).trans rfl

/-! ### Replies -/

/-- A reply joins the replies of the port. -/
@[simp] theorem Part.reply_port (tag : Nat) (code : ReplyCode) (body : ReplyBody) (x : Part) :
    (x.reply tag code body).port = { x.port with replies := x.port.replies ++ [⟨tag, code, body⟩] } := rfl

@[simp] theorem Part.answer_port (tag : Nat) (code : ReplyCode) (x : Part) :
    (x.answer tag code).port = { x.port with replies := x.port.replies ++ [⟨tag, code, .none⟩] } := rfl

/-- The replies of held requests. -/
def heldReplies (held : Option Nat) (code : ReplyCode) : List Reply :=
  match held with
  | some tag => [⟨tag, code, .none⟩]
  | none => []

@[simp] theorem Part.answerHeldState_eq (code : ReplyCode) (x : Part) :
    x.answerHeldState code = { x with
      dsc := { x.dsc with heldState := none }
      cmp := { x.cmp with replies := x.cmp.replies ++ heldReplies x.dsc.heldState code } } := by
  unfold Part.answerHeldState
  split
  · next held => rw [held]; rfl
  · next held => rw [held, heldReplies, List.append_nil, ← held]

@[simp] theorem Part.answerHeldLink_eq (code : ReplyCode) (x : Part) :
    x.answerHeldLink code = { x with
      dsc := { x.dsc with heldLink := none }
      cmp := { x.cmp with replies := x.cmp.replies ++ heldReplies x.dsc.heldLink code } } := by
  unfold Part.answerHeldLink
  split
  · next held => rw [held]; rfl
  · next held => rw [held, heldReplies, List.append_nil, ← held]

/-! ### Requests -/

/-- What of the port places requests: the two places and the closed frame. -/
def Part.places (x : Part) : Option HostRequest × Option HostRequest × Option RxDue :=
  (x.cmp.executing, x.cmp.staged, x.cmp.rxDue)

theorem places_of_port {x y : Part} (h : x.port = y.port) : x.places = y.places := by
  have same := congrArg (fun c : Cmp => (c.executing, c.staged, c.rxDue)) h
  exact same

@[simp] theorem Part.reply_places (tag : Nat) (code : ReplyCode) (body : ReplyBody) (x : Part) :
    (x.reply tag code body).places = x.places := rfl

@[simp] theorem Part.answer_places (tag : Nat) (code : ReplyCode) (x : Part) : (x.answer tag code).places = x.places := rfl

theorem Part.setState_places (tag n : Nat) (x : Part) : (x.setState tag n).places = x.places := by
  have entered (y : Part) : y.standbyEntry.places = y.places := places_of_port y.standbyEntry_port
  unfold Part.setState
  split
  · rfl
  · exact places_of_port (Part.refreshPreamps_port _)
  · rw [entered, Part.answerHeldState_eq]; rfl
  · rfl
  · exact entered x
  · rfl

theorem Part.linkReset_places (tag : Nat) (x : Part) : (x.linkReset tag).places = x.places := by
  have mirror (y : Part) : (y.mirrorTo .invalid).port = y.port := by
    unfold Part.mirrorTo
    dsimp only
    split <;> simp
  refine places_of_port ?_
  unfold Part.linkReset
  dsimp only
  rw [Part.notify_port]
  split
  · exact (mirror _).trans rfl
  · exact (port_of_sans (Part.closeSession_sans ..)).trans rfl

/-- A request other than RESET_SOFT leaves the places of the others. -/
theorem Part.act_places (tag : Nat) (r : Request) (x : Part) (other : r ≠ .resetSoft) : (x.act tag r).places = x.places := by
  cases r with
  | setState t => exact x.setState_places tag t
  | resetSoft => exact absurd rfl other
  | linkReset =>
    show (x.askLinkReset tag).places = _
    unfold Part.askLinkReset
    split
    · rfl
    · exact x.linkReset_places tag
  | setNoticeMask m =>
    show (x.askMask tag m).places = _
    unfold Part.askMask
    split <;> rfl
  | setPath n f =>
    show (x.askSetPath tag n f).places = _
    unfold Part.askSetPath
    split
    · next p _ => exact (Part.answer_places _ _ _).trans (places_of_port (x.setPath_port p f))
    · rfl
  | getPath n =>
    show (x.askGetPath tag n).places = _
    unfold Part.askGetPath
    split <;> rfl
  | setPlayout d =>
    show (x.askPlayout tag d).places = _
    unfold Part.askPlayout
    split <;> rfl
  | setClock n =>
    show (x.setClock tag n).places = _
    unfold Part.setClock Part.notifyClock
    split
    · rfl
    · rw [Part.answer_places]
      exact places_of_port ((Part.notify_port _ _).trans rfl)
  | getMix m =>
    show (x.askGetMix tag m).places = _
    unfold Part.askGetMix Part.clearClip
    split <;> rfl
  | update u =>
    show (x.askUpdate tag u).places = _
    unfold Part.askUpdate Part.forward
    split
    · (repeat' split) <;> rfl
    · exact (Part.answer_places _ _ _).trans (places_of_port (port_of_sans (Part.doUpdate_sans ..)))
  | _ => rfl

theorem Request.clamp_resetSoft (r : Request) (h : r.clamp = .resetSoft) : r = .resetSoft := by
  cases r <;> first | rfl | cases h

/-- RESET_SOFT leaves no request in its place, and the replies it queues. -/
theorem Part.resetSoft_port (tag : Nat) (x : Part) :
    (x.resetSoft tag).cmp = Cmp.soft { x.cmp with
      replies := x.cmp.replies ++ heldReplies x.dsc.heldState .aborted ++ heldReplies x.dsc.heldLink .aborted ++
        [⟨tag, .ok, .none⟩] ++ (match x.cmp.executing with
          | some q => [⟨q.tag, .aborted, .none⟩]
          | none => []) } := by
  have blocks (y : Part) : y.softBlocks.cmp = y.cmp := by
    unfold Part.softBlocks Part.refreshPreamps
    dsimp only
    cases y.dsc.role <;> rfl
  unfold Part.resetSoft
  dsimp only
  show Cmp.soft (Part.softBlocks _).cmp = _
  rw [blocks, Part.answerHeldState_eq, Part.answerHeldLink_eq]
  unfold Part.abortStaged
  show Cmp.soft (match x.cmp.executing with | some q => _ | none => _ : Part).cmp = _
  cases x.cmp.executing with
  | none => rw [List.append_nil]; rfl
  | some q => rfl

/-- A request carried out keeps the closed frame, and keeps each place or empties it. -/
theorem Part.carryOut_places (r : HostRequest) (x : Part) :
    (x.carryOut r).places = x.places ∨ (x.carryOut r).places = (none, none, x.cmp.rxDue) := by
  unfold Part.carryOut
  split
  · exact .inl rfl
  · by_cases soft : r.req.clamp = .resetSoft
    · refine .inr ?_
      rw [soft]
      show (x.resetSoft r.tag).places = _
      unfold Part.places
      rw [Part.resetSoft_port]
      rfl
    · exact .inl (x.act_places r.tag r.req.clamp soft)

end Sys2Proof.Machine
end

section
/-!
PROOFS. The Control Message Port (chapter 9): the line receiver and its framing, damaged frames, the request queue, the transmitter;
and the judgement of a complete lane record (R73).
-/

namespace Sys2Proof.Machine

/-! ### Characters (R160) -/

/-- The majority of three samples. -/
theorem majority_iff (b : Bool × Bool × Bool) :
    majority b = true ↔ b.1 = true ∧ b.2.1 = true ∨ b.1 = true ∧ b.2.2 = true ∨ b.2.1 = true ∧ b.2.2 = true := by
  simp [majority, or_assoc]

/-- A number read bit by bit, the last bit the least significant. -/
theorem ofBits_append (bits : List Bool) (b : Bool) : ofBits (bits ++ [b]) = 2 * ofBits bits + b.toNat := by
  unfold ofBits
  rw [List.foldl_append]
  rfl

/-- Bits read from the least significant on. -/
theorem testBit_ofBits_reverse (bits : List Bool) (i : Nat) (b : Bool) (h : bits[i]? = some b) :
    (ofBits bits.reverse).testBit i = b := by
  induction bits generalizing i with
  | nil => simp at h
  | cons a rest ih =>
    rw [List.reverse_cons, ofBits_append]
    cases i with
    | zero =>
      obtain rfl : a = b := by simpa using h
      cases a <;> simp [Nat.testBit_zero]
    | succ i =>
      have half : (2 * ofBits rest.reverse + a.toNat) / 2 = ofBits rest.reverse := by
        cases a
        · simp
        · simp; omega
      rw [Nat.testBit_succ, half]
      exact ih i (by simpa using h)

theorem ofBits_lt (bits : List Bool) : ofBits bits < 2 ^ bits.length := by
  induction bits using List.reverseRecOn with
  | nil => decide
  | append_singleton rest b ih =>
    rw [ofBits_append, List.length_append, List.length_singleton, Nat.pow_succ]
    have := Bool.toNat_le b
    omega

/-- A character's byte is of its eight data bits, the first the least significant. -/
theorem lineByte_bits (c : LineChar) (eight : c.data.length = 8) :
    lineByte c < 256 ∧ ∀ i b, c.data[i]? = some b → (lineByte c).testBit i = majority b := by
  unfold lineByte
  rw [List.map_reverse]
  refine ⟨?_, fun i b h => testBit_ofBits_reverse _ i _ (by rw [List.getElem?_map, h]; rfl)⟩
  have bound := ofBits_lt (c.data.map majority).reverse
  rwa [List.length_reverse, List.length_map, eight] at bound

/-- A character's fate. -/
theorem exec_characterReceived_cases (c : LineChar) (s : State) (ready : s.part.LineReady) :
    exec (.characterReceived c) s =
      if s.part.cmp.awaitIdle = true ∨ majority c.start = true then .next s
      else if majority c.stop = true then .next { s with part := s.part.onCmp (Cmp.takeByte (lineByte c)) }
      else exec .framingError s := by
  rw [exec_characterReceived_ready c s ready, exec_framingError_ready s ready]
  unfold Part.character
  cases s.part.cmp.awaitIdle <;> cases majority c.start <;> cases majority c.stop <;> rfl

/-! ### Damaged frames (R161 to R163) -/

/-- An entry reply, or its loss. -/
theorem Part.entryReply_eq (tag : Nat) (code : ReplyCode) (x : Part) :
    x.entryReply tag code =
      if 3 ≤ x.freeReplies then { x with cmp := { x.cmp with replies := x.cmp.replies ++ [⟨tag, code, .none⟩] } }
      else { x with cmp := { x.cmp with repliesLost := min 65535 (x.cmp.repliesLost + 1) } } := by
  unfold Part.entryReply
  rw [satInc_eq]
  rfl

/-- Settles O29: the character by its majorities, the byte by the state of the framing, the error by the frame it discards. -/
theorem lineReceiverFrames : Obligations.LineReceiverFrames := by
  refine ⟨fun c s ready => ⟨fun eight => ?_, fun h => ?_, fun heard begun stops => ?_, fun heard begun broken => ?_⟩, fun b c => ?_,
    fun s ready => ⟨fun heard => ?_, ?_⟩⟩
  · obtain ⟨small, bits⟩ := lineByte_bits c eight
    refine ⟨small, fun i b held => ?_⟩
    rw [bits i b held]
    exact majority_iff b
  · rw [exec_characterReceived_cases c s ready, if_pos (h.imp_right (majority_iff _).mpr)]
  · rw [exec_characterReceived_cases c s ready, if_neg, if_pos ((majority_iff _).mpr stops)]
    rintro (h | h)
    · rw [heard] at h; cases h
    · exact begun ((majority_iff _).mp h)
  · rw [exec_characterReceived_cases c s ready, if_neg, if_neg fun h => broken ((majority_iff _).mp h)]
    rintro (h | h)
    · rw [heard] at h; cases h
    · exact begun ((majority_iff _).mp h)
  · unfold Cmp.takeByte Cmp.addByte Cmp.hunt
    refine ⟨fun out other => ?_, fun out mark => ?_, fun inside plain mark empty => ?_, fun inside plain mark some => ?_,
      fun inside plain esc => ?_, fun inside plain notMark notEsc => ?_, fun inside escaped mark => ?_, fun inside escaped other => ?_⟩
    · rw [if_pos out, if_neg other]
    · rw [if_pos out, if_pos mark]
    · rw [if_neg (by simp [inside]), if_neg (by simp [plain]), if_pos mark, if_pos empty, ← empty]
    · rw [if_neg (by simp [inside]), if_neg (by simp [plain]), if_pos mark, if_neg some]
    · rw [if_neg (by simp [inside]), if_neg (by simp [plain]), if_neg (by omega), if_pos esc]
    · rw [if_neg (by simp [inside]), if_neg (by simp [plain]), if_neg notMark, if_neg notEsc]
    · rw [if_neg (by simp [inside]), if_pos escaped, if_pos mark]
    · rw [if_neg (by simp [inside]), if_pos escaped, if_neg other]
  · rw [exec_framingError_ready s ready]
    refine next_part s ?_
    unfold Part.framingError
    rw [if_neg (by simp [heard])]
    dsimp only
    by_cases kept : s.part.cmp.inFrame = false ∨ s.part.cmp.bytes = []
    · rw [if_neg (by rcases kept with h | h <;> simp [h]), if_pos kept]
      unfold Part.onCmp Cmp.countError Cmp.hunt
      rw [satInc_eq]
    · rw [if_pos (by simpa [not_or] using kept), if_neg kept, Part.entryReply_eq]
      unfold Part.onCmp Cmp.countError Cmp.hunt
      rw [satInc_eq]
      show (if 3 ≤ s.part.drain.freeReplies then _ else _ : Part) = _
      split <;> rfl
  · show Host.Outcome.next { s with part := s.part.settleLine.onCmp _ } = _
    rw [s.part.settleLine_ready ready]
    rfl

/-- A damaged frame is counted and answered, after the requests before it. -/
theorem Part.damaged_eq (x : Part) :
    x.damaged = Part.entryReply 0 .frame
      { x.drain with cmp := { x.drain.cmp with frameErrors := min 65535 (x.drain.cmp.frameErrors + 1) } } := by
  unfold Part.damaged Part.onCmp Cmp.countError
  rw [satInc_eq]

/-- CMP_FRAME_CLOSED on a closed frame. -/
theorem exec_cmpFrameClosed_waiting (bytes : List Nat) (s : State) (waits : s.part.cmp.rxDue = some (.closed bytes)) :
    exec .cmpFrameClosed s = .next { s with part := Part.closed bytes { s.part with cmp := { s.part.cmp with rxDue := none } } } := by
  refine next_part s ?_
  show s.part.takeClosed = _
  unfold Part.takeClosed
  rw [waits]
  rfl

/-- A frame of a wrong length or check is damaged. -/
theorem checkFrame_damaged (bytes : List Nat)
    (bad : bytes.length < 5 ∨ crc16 (bytes.take (bytes.length - 2)) ≠ beNat (bytes.drop (bytes.length - 2))) :
    checkFrame bytes = .damaged := by
  unfold checkFrame
  dsimp only
  by_cases short : bytes.length < 5
  · rw [if_pos short]
  · rw [if_neg short, if_pos (bad.resolve_left short)]

/-- A frame of the right length and check is judged by its class, code and fields. -/
theorem checkFrame_intact (bytes : List Nat) (cls tag code : Nat) (fields : List Nat)
    (check : crc16 (bytes.take (bytes.length - 2)) = beNat (bytes.drop (bytes.length - 2)))
    (body : bytes.take (bytes.length - 2) = cls :: tag :: code :: fields) :
    checkFrame bytes = checkBody (cls :: tag :: code :: fields) := by
  have long : ¬ bytes.length < 5 := by
    have := congrArg List.length body
    simp only [List.length_take, List.length_cons] at this
    omega
  unfold checkFrame
  dsimp only
  rw [if_neg long, if_neg (not_not.mpr check), body]

/-- Settles O30: the checks of R162 in order, each with its entry reply. -/
theorem damagedFramesAnswered : Obligations.DamagedFramesAnswered := by
  intro bytes s
  refine ⟨fun waits bad => ?_, fun waits => ?_, fun waits check cls tag code fields body => ?_⟩
  · rw [exec_cmpFrameClosed_waiting bytes s waits]
    refine next_part s ?_
    unfold Part.closed
    rw [checkFrame_damaged bytes bad]
    dsimp only
    rw [Part.damaged_eq, Part.entryReply_eq]
  · refine next_part s ?_
    show s.part.takeTooLong = _
    have taken : s.part.takeTooLong = Part.damaged { s.part with cmp := { s.part.cmp with rxDue := none } } := by
      unfold Part.takeTooLong
      rcases waits with h | h <;> (rw [h]; rfl)
    rw [taken, Part.damaged_eq, Part.entryReply_eq]
  · have judged := checkFrame_intact bytes cls tag code fields check body
    unfold checkBody at judged
    dsimp only at judged
    have replied (why : ReplyCode) := Part.entryReply_eq tag why
      (Part.drain { s.part with cmp := { s.part.cmp with rxDue := none } })
    rw [exec_cmpFrameClosed_waiting bytes s waits]
    refine ⟨fun other => next_part s ?_, fun own unknown => next_part s ?_, fun own malformed => next_part s ?_⟩
    · rw [if_pos other] at judged
      unfold Part.closed
      rw [judged]
      exact replied .malformed
    · rw [if_neg (not_not.mpr own), unknown] at judged
      unfold Part.closed
      rw [judged]
      exact replied .unknown
    · rw [if_neg (not_not.mpr own), malformed] at judged
      unfold Part.closed
      rw [judged]
      exact replied .malformed

/-! ### The transmitter (R166, R167, R169) -/

theorem decide_ne_nil {α : Type} (l : List α) : (!l.isEmpty) = decide (l ≠ []) := by
  cases l <;> rfl

/-- Settles O32: the choice by the two queues and by which of them stood when the transmitter became free. -/
theorem transmitterChooses : Obligations.TransmitterChooses := by
  intro s
  refine ⟨fun pin hold idle => ⟨fun r rest replies first => ?_, fun n rest notices none => ?_,
    fun r rest n rest' replies notices open_ => ?_, fun none none' => ?_⟩, fun busy => ?_, fun idle => ?_, fun sends => ?_, rfl, ?_⟩
  · refine next_part s ?_
    show s.part.takeTransmit = _
    have fixed : s.part.cmp.eitherFirst = false := by
      unfold Cmp.eitherFirst
      rcases first with h | h <;> simp [h]
    unfold Part.takeTransmit Part.onCmp Cmp.transmit
    dsimp only
    rw [if_pos ⟨pin, hold, idle⟩, fixed, if_neg (by decide), if_neg (by simp), replies]
  · refine next_part s ?_
    show s.part.takeTransmit = _
    have fixed : s.part.cmp.eitherFirst = false := by simp [Cmp.eitherFirst, none]
    have sent (first : Bool) : s.part.cmp.transmit first = s.part.cmp.sendNotice n rest := by
      unfold Cmp.transmit Cmp.transmitNotice
      rw [fixed, none, notices]
      rfl
    unfold Part.takeTransmit Part.onCmp
    dsimp only
    rw [if_pos ⟨pin, hold, idle⟩, fixed, if_neg (by decide), sent]
    rfl
  · refine next_part s ?_
    show s.part.takeTransmit = _
    have either : s.part.cmp.eitherFirst = true := by simp [Cmp.eitherFirst, replies, notices, open_]
    have sent (first : Bool) : s.part.cmp.transmit first =
        if first = true then s.part.cmp.sendNotice n rest' else { s.part.cmp with sending := some (.reply r), replies := rest } := by
      unfold Cmp.transmit Cmp.transmitNotice
      cases first
      · rw [either, replies]
        rfl
      · rw [either, notices]
        rfl
    unfold Part.takeTransmit Part.onCmp
    dsimp only
    rw [if_pos ⟨pin, hold, idle⟩, either, if_pos rfl, sent]
    cases Config.noticeFirst s.part.bus.freeCount <;> rfl
  · refine next_part (y := s.part) s ?_
    exact s.part.takeTransmit_empty none none'
  · refine next_part (y := s.part) s ?_
    refine s.part.takeTransmit_idle (.inr ?_)
    rcases busy with h | h
    · exact .inl h
    · exact .inr fun idle => by rw [idle] at h; cases h
  · exact next_part (y := s.part) s (if_pos idle)
  · refine next_part s ?_
    show s.part.endTransmit = _
    unfold Part.endTransmit
    rw [if_neg sends, ← decide_ne_nil]
    rfl
  · refine next_part s ?_
    show (s.part.setHold false).takeTransmit = _
    rw [← decide_ne_nil]
    rfl

/-! ### Lane records judged (R73) -/

/-- A quiet lane discards the record. -/
theorem Part.judgeRecord_quiet (r : RawRecord) (x : Part) (quiet : x.quiet = true) : x.judgeRecord r = x := if_pos quiet

/-- A record of an older sequence is counted as a duplicate. -/
theorem Part.judgeRecord_older (r : RawRecord) (x : Part) (heard : x.quiet = false) (other : r.seq ≠ x.ple.expSeq)
    (older : newer8 x.ple.expSeq r.seq = true) :
    x.judgeRecord r = x.onPle fun l => { l with dups := min 65535 (l.dups + 1) } := by
  unfold Part.judgeRecord
  rw [if_neg (by simp [heard]), if_neg other, if_pos older]
  simp only [satInc_eq]

/-- A record of any other sequence is counted as out of order. -/
theorem Part.judgeRecord_outOfOrder (r : RawRecord) (x : Part) (heard : x.quiet = false) (other : r.seq ≠ x.ple.expSeq)
    (ahead : ¬ newer8 x.ple.expSeq r.seq = true) :
    x.judgeRecord r = x.onPle fun l => { l with outOfOrder := min 65535 (l.outOfOrder + 1) } := by
  unfold Part.judgeRecord
  rw [if_neg (by simp [heard]), if_neg other, if_neg ahead]
  simp only [satInc_eq]

/-- A record of the expected sequence that does not fit this end is counted as malformed. -/
theorem Part.judgeRecord_malformed (r : RawRecord) (x : Part) (heard : x.quiet = false) (expected : r.seq = x.ple.expSeq)
    (bad : readRecord x.dsc.role r.kind r.bytes = none) :
    x.judgeRecord r =
      x.onPle fun l => { l with expSeq := (l.expSeq + 1) % 256, malformed := min 65535 (l.malformed + 1) } := by
  unfold Part.judgeRecord
  rw [if_neg (by simp [heard]), if_pos expected, bad]
  simp only [satInc_eq]
  rfl

/-- Settles O35: the record is judged by the quiet lane, its sequence and its reading. -/
theorem laneRecordJudged : Obligations.LaneRecordJudged := by
  intro r rest s waits
  have judged := exec_laneRecordComplete_waiting r rest s waits
  have serial := newer8_iff s.part.ple.expSeq r.seq
  refine ⟨fun quiet => judged.trans (next_part s (Part.judgeRecord_quiet r _ quiet)),
    fun heard other low high => judged.trans (next_part s (Part.judgeRecord_older r _ heard other (serial.mpr ⟨low, high⟩))),
    fun heard other far => judged.trans (next_part s (Part.judgeRecord_outOfOrder r _ heard other ?_)),
    fun heard expected bad => judged.trans (next_part s (Part.judgeRecord_malformed r _ heard expected bad)),
    fun msg heard expected fits => exec_laneRecordComplete_applied r rest msg s waits heard expected fits⟩
  have outside : (s.part.ple.expSeq + 256 - r.seq % 256) % 256 = 0 ∨ 127 < (s.part.ple.expSeq + 256 - r.seq % 256) % 256 := far
  intro newer
  have inWindow := serial.mp newer
  omega

end Sys2Proof.Machine
end

section
/-!
PROOFS. The request queue (R164, R171): what the executing and the staged place become, and what a request given behind others finds.
-/

namespace Sys2Proof.Machine

/-! ### The two places -/

theorem placesFor_pos (q : HostRequest) (staged : Option HostRequest) : 1 ≤ placesFor q staged := by
  unfold placesFor
  split <;> omega

/-- A request with too few reply places waits. -/
theorem Part.executeHead_waits (q : HostRequest) (x : Part) (executing : x.cmp.executing = some q)
    (few : x.freeReplies < placesFor q x.cmp.staged) : x.executeHead = x := by
  unfold Part.executeHead
  rw [executing]
  exact if_neg (by omega)

/-- A request with its reply places is carried out, and the staged one moves up. -/
theorem Part.executeHead_carries (q : HostRequest) (x : Part) (executing : x.cmp.executing = some q)
    (room : placesFor q x.cmp.staged ≤ x.freeReplies) :
    x.executeHead = Part.carryOut q { x with cmp := { x.cmp with executing := x.cmp.staged, staged := none } } := by
  unfold Part.executeHead
  rw [executing]
  exact if_pos room

theorem Part.executeHead_idle (x : Part) (h : x.cmp.executing = none) : x.executeHead = x := by
  unfold Part.executeHead
  rw [h]

/-- REQUEST_EXECUTE does nothing, or leaves the staged place empty and the other what was staged. -/
theorem Part.executeHead_places (x : Part) :
    x.executeHead = x ∨ (x.executeHead.cmp.staged = none ∧
      (x.executeHead.cmp.executing = x.cmp.staged ∨ x.executeHead.cmp.executing = none)) := by
  cases executing : x.cmp.executing with
  | none => exact .inl (x.executeHead_idle executing)
  | some q =>
    by_cases few : x.freeReplies < placesFor q x.cmp.staged
    · exact .inl (x.executeHead_waits q executing few)
    · rw [x.executeHead_carries q executing (by omega)]
      rcases Part.carryOut_places q { x with cmp := { x.cmp with executing := x.cmp.staged, staged := none } } with h | h
      · exact .inr ⟨congrArg (fun p => p.2.1) h, .inl (congrArg Prod.fst h)⟩
      · exact .inr ⟨congrArg (fun p => p.2.1) h, .inr (congrArg Prod.fst h)⟩

@[simp] theorem Part.executeHead_rxDue (x : Part) : x.executeHead.cmp.rxDue = x.cmp.rxDue := by
  unfold Part.executeHead
  split
  · rfl
  · next q _ =>
    split
    · rcases Part.carryOut_places q { x with cmp := { x.cmp with executing := x.cmp.staged, staged := none } } with h | h <;>
        exact congrArg (fun p => p.2.2) h
    · rfl

@[simp] theorem Part.drain_rxDue (x : Part) : x.drain.cmp.rxDue = x.cmp.rxDue := by
  simp [Part.drain]

/-- With nothing staged, a second REQUEST_EXECUTE does nothing. -/
theorem Part.executeHead_twice (x : Part) (h : x.cmp.staged = none) : x.executeHead.executeHead = x.executeHead := by
  rcases x.executeHead_places with same | ⟨-, moved⟩
  · rw [same, same]
  · exact Part.executeHead_idle _ (moved.elim (fun up => up.trans h) id)

/-- Two are enough. -/
theorem Part.drain_executeHead (x : Part) : x.executeHead.drain = x.drain := by
  unfold Part.drain
  rcases x.executeHead_places with same | ⟨empty, -⟩
  · rw [same, same, same]
  · exact Part.executeHead_twice _ empty

/-- With too few reply places for the first, none is carried out. -/
theorem Part.drain_waits (q : HostRequest) (x : Part) (executing : x.cmp.executing = some q)
    (few : x.freeReplies < placesFor q x.cmp.staged) : x.drain = x := by
  unfold Part.drain
  rw [x.executeHead_waits q executing few, x.executeHead_waits q executing few]

/-! ### A closed frame, and a request behind it -/

theorem Part.entryReply_rxDue (tag : Nat) (code : ReplyCode) (x : Part) : (x.entryReply tag code).cmp.rxDue = x.cmp.rxDue := by
  unfold Part.entryReply
  split <;> rfl

theorem Part.damaged_rxDue (x : Part) : x.damaged.cmp.rxDue = x.cmp.rxDue :=
  (Part.entryReply_rxDue ..).trans x.drain_rxDue

theorem Part.enqueue_rxDue (r : HostRequest) (x : Part) : (x.enqueue r).cmp.rxDue = x.cmp.rxDue := by
  unfold Part.enqueue
  split
  · rfl
  · rfl
  · exact Part.entryReply_rxDue ..

theorem Part.closed_rxDue (bytes : List Nat) (x : Part) : (x.closed bytes).cmp.rxDue = x.cmp.rxDue := by
  unfold Part.closed
  split
  · exact x.damaged_rxDue
  · exact (Part.entryReply_rxDue ..).trans x.drain_rxDue
  · exact (Part.entryReply_rxDue ..).trans x.drain_rxDue
  · exact (Part.enqueue_rxDue ..).trans x.drain_rxDue

/-- A request depends on what the receiver and the requests before it leave. -/
theorem Part.submit_congr (tag : Nat) (r : Request) (x y : Part) (h : x.settleLine.drain = y.settleLine.drain) :
    x.submit tag r = y.submit tag r := by
  unfold Part.submit
  rw [h]

/-- A closed frame is taken before a request given behind it. -/
theorem Part.settleLine_takeClosed (bytes : List Nat) (x : Part) (waits : x.cmp.rxDue = some (.closed bytes)) :
    x.settleLine = x.takeClosed.settleLine := by
  have taken : x.takeClosed.cmp.rxDue = none := by
    unfold Part.takeClosed
    rw [waits]
    exact Part.closed_rxDue ..
  rw [Part.settleLine_ready _ taken]
  unfold Part.settleLine Part.takeTooLong
  rw [taken]

/-- A discarded frame is answered before a request given behind it. -/
theorem Part.settleLine_takeTooLong (x : Part) (waits : x.cmp.rxDue = some .tooLong ∨ x.cmp.rxDue = some .escapeBoundary) :
    x.settleLine = x.takeTooLong.settleLine := by
  have taken : x.takeTooLong.cmp.rxDue = none := by
    unfold Part.takeTooLong
    rcases waits with h | h <;> (rw [h]; exact Part.damaged_rxDue _)
  rw [Part.settleLine_ready _ taken]
  unfold Part.settleLine Part.takeClosed
  rcases waits with h | h <;> rw [h]

/-- A request that finds the port with too few places. -/
theorem Part.submit_behind (tag : Nat) (r : Request) (x : Part) (ready : x.cmp.rxDue = none) (stands : x.drain = x)
    (full : x.cmp.executing ≠ none ∨ x.freeReplies = 0) : x.submit tag r = x.enqueue ⟨tag, r⟩ := by
  unfold Part.submit
  rw [x.settleLine_ready ready, stands]
  dsimp only
  rw [if_neg]
  rintro ⟨idle, room⟩
  exact full.elim (fun h => h idle) fun h => by omega

/-- A reply that finds fewer than three places is lost. -/
theorem Part.entryReply_lost (tag : Nat) (code : ReplyCode) (x : Part) (few : x.freeReplies < 3) :
    x.entryReply tag code = { x with cmp := { x.cmp with repliesLost := min 65535 (x.cmp.repliesLost + 1) } } := by
  rw [Part.entryReply_eq, if_neg (by omega)]

/-- A request behind another: staged, or with both places occupied BUSY and, with few places, lost. -/
theorem Part.enqueue_behind (r q : HostRequest) (x : Part) (executing : x.cmp.executing = some q) (few : x.freeReplies < 3) :
    (x.cmp.staged = none → x.enqueue r = { x with cmp := { x.cmp with staged := some r } }) ∧
    (x.cmp.staged ≠ none →
      x.enqueue r = { x with cmp := { x.cmp with repliesLost := min 65535 (x.cmp.repliesLost + 1) } }) := by
  unfold Part.enqueue
  rw [executing]
  refine ⟨fun empty => ?_, fun full => ?_⟩
  · rw [empty]; rfl
  · obtain ⟨q', h⟩ := Option.ne_none_iff_exists'.mp full
    rw [h]
    exact x.entryReply_lost r.tag .busy few

/-- A request that comes in with no reply place free is staged, or lost with BUSY. -/
theorem Part.enqueue_full (r q : HostRequest) (x : Part) (executing : x.cmp.executing = some q) (none : x.freeReplies = 0) :
    (x.cmp.staged = .none → x.drain.enqueue r = { x with cmp := { x.cmp with staged := some r } }) ∧
    (x.cmp.staged ≠ .none →
      x.drain.enqueue r = { x with cmp := { x.cmp with repliesLost := min 65535 (x.cmp.repliesLost + 1) } }) := by
  have few := placesFor_pos q x.cmp.staged
  rw [x.drain_waits q executing (by omega)]
  exact Part.enqueue_behind r q x executing (by omega)

/-- A complete request that a closed frame gives. -/
theorem exec_cmpFrameClosed_request (bytes : List Nat) (r : HostRequest) (s : State)
    (waits : s.part.cmp.rxDue = some (.closed bytes)) (reads : checkFrame bytes = .request r) :
    exec .cmpFrameClosed s =
      .next { s with part := (Part.drain { s.part with cmp := { s.part.cmp with rxDue := none } }).enqueue r } := by
  rw [exec_cmpFrameClosed_waiting bytes s waits]
  refine next_part s ?_
  unfold Part.closed
  rw [reads]

/-- RESET_SOFT is refused by no check. -/
theorem Part.carryOut_resetSoft (tag : Nat) (x : Part) : x.carryOut ⟨tag, .resetSoft⟩ = x.resetSoft tag :=
  Part.carryOut_act tag .resetSoft x (x.refusal_none .resetSoft rfl rfl rfl rfl)

theorem Part.resetSoft_opState (tag : Nat) (x : Part) : (x.resetSoft tag).dsc.opState = .standby := by
  have blocks (y : Part) : y.softBlocks.dsc.opState = .standby := by
    unfold Part.softBlocks Part.refreshPreamps
    dsimp only
    cases y.dsc.role <;> rfl
  exact blocks _

/-- Settles O31: by the places occupied and the reply places free. -/
theorem requestsExecuteInOrder : Obligations.RequestsExecuteInOrder := by
  refine ⟨fun bytes r s waits reads => ?_, fun r s executing => ?_, fun r s => ?_⟩
  · have taken := exec_cmpFrameClosed_request bytes r s waits reads
    refine ⟨fun idle => taken.trans (next_part s ?_), fun q executing full staged => taken.trans (next_part s ?_),
      fun q q' executing full staged => taken.trans (next_part s ?_)⟩
    · rw [Part.drain_idle _ (by exact idle)]
      unfold Part.enqueue
      rw [show ({ s.part with cmp := { s.part.cmp with rxDue := none } } : Part).cmp.executing = none from idle]
      rfl
    · exact (Part.enqueue_full r q { s.part with cmp := { s.part.cmp with rxDue := none } } executing full).1 staged
    · exact (Part.enqueue_full r q { s.part with cmp := { s.part.cmp with rxDue := none } } executing full).2 (by show s.part.cmp.staged ≠ none; simp [staged])
  · have needs : (r.req ≠ .resetSoft ∨ s.part.cmp.staged = none → placesFor r s.part.cmp.staged = 1) := by
      intro h
      refine if_neg fun ⟨soft, staged⟩ => ?_
      rcases h with h | h
      · exact h soft
      · rw [h] at staged; cases staged
    refine ⟨fun room one => next_part s ?_, fun none => next_part (y := s.part) s ?_, fun q soft staged one => next_part (y := s.part) s ?_,
      fun q soft staged two => ?_⟩
    · exact s.part.executeHead_carries r executing (by rw [needs one]; exact room)
    · exact s.part.executeHead_waits r executing (by have := placesFor_pos r s.part.cmp.staged; omega)
    · exact s.part.executeHead_waits r executing (by rw [placesFor, if_pos ⟨soft, by simp [staged]⟩]; omega)
    · have two : placesFor r s.part.cmp.staged ≤ s.part.freeReplies := by rw [placesFor, if_pos ⟨soft, by simp [staged]⟩]; omega
      refine ⟨_, next_part s (s.part.executeHead_carries r executing two), ?_⟩
      obtain ⟨tag, req⟩ := r
      subst soft
      rw [Part.carryOut_resetSoft, Part.resetSoft_port, staged]
      refine ⟨rfl, rfl, Part.resetSoft_opState _ _, ?_⟩
      show _ ++ _ ++ _ ++ _ ++ _ = _
      rw [List.append_assoc _ [_] [_]]
      rfl
  · have offered := exec_requestRow r s
    have same (t : State) (y : Part) (e : (.next { s with part := y } : Host.Outcome State Fault Refusal) = .next t)
        (h : s.part.settleLine.drain = y.settleLine.drain) : exec (requestRow r) s = exec (requestRow r) t := by
      cases e
      rw [exec_requestRow, exec_requestRow]
      exact next_part s (Part.submit_congr r.tag r.req _ _ h)
    refine ⟨fun ready => offered.trans (next_part s (Part.submit_ready r.tag r.req _ ready)), fun ready =>
      ⟨fun idle none => offered.trans (next_part s ?_), fun q executing few => ?_, fun t e => same t s.part.executeHead e ?_⟩,
      fun bytes t waits e => same t s.part.takeClosed e ?_, fun t waits e => same t s.part.takeTooLong e ?_⟩
    · rw [Part.submit_behind _ _ _ ready (s.part.drain_idle idle) (.inr none)]
      unfold Part.enqueue
      rw [idle]
      rfl
    · have waits : s.part.freeReplies < placesFor q s.part.cmp.staged := by
        rcases few with none | ⟨one, soft, staged⟩
        · have := placesFor_pos q s.part.cmp.staged; omega
        · rw [placesFor, if_pos ⟨soft, by simpa [Option.isSome_iff_ne_none] using staged⟩]; omega
      have behind := Part.submit_behind r.tag r.req s.part ready (s.part.drain_waits q executing waits)
        (.inl (by rw [executing]; exact Option.some_ne_none q))
      obtain ⟨staged, busy⟩ := Part.enqueue_behind r q s.part executing (by rcases few with h | h <;> omega)
      exact ⟨fun empty => offered.trans (next_part s (behind.trans (staged empty))),
        fun full => offered.trans (next_part s (behind.trans (busy full)))⟩
    · rw [s.part.settleLine_ready ready, Part.settleLine_ready _ ((Part.executeHead_rxDue _).trans ready), Part.drain_executeHead]
    · rw [Part.settleLine_takeClosed bytes _ waits]
    · rw [Part.settleLine_takeTooLong _ waits]

end Sys2Proof.Machine
end

section
/-!
PROOFS. What an echo reads and what it changes (R75): an echo depends on the lane and on what its target reports, so the echoes of a
step leave the lane as `laneAfter` says, whatever the step does beside.
-/

namespace Sys2Proof.Machine

/-! ### One echo -/

/-- What an echo of a target reads outside the lane: the record it makes, and for a contribution its place in the mix's list. -/
def Part.reports (x : Part) (t : Target) : Option LaneMsg × Option Nat :=
  (x.buildEcho t, match t with
    | .contrib m b i => (refOf b i).bind fun r => (x.mix m).indexOf r
    | _ => none)

/-- An echo changes the lane alone. -/
theorem Part.echo_lane (t : Target) (x : Part) : x.echo t = { x with ple := (x.echo t).ple } := by
  obtain ⟨l, h⟩ := x.echo_eq t
  rw [h]

@[simp] theorem Part.reports_withPle (x : Part) (l : Ple) (t : Target) : ({ x with ple := l } : Part).reports t = x.reports t := by
  cases t <;> rfl

@[simp] theorem Part.reports_withCmp (x : Part) (c : Cmp) (t : Target) : ({ x with cmp := c } : Part).reports t = x.reports t := by
  cases t <;> rfl

/-- The dump has passed a target by its pointer and the target's place in the list. -/
theorem Part.dumpPassed_congr (t : Target) (x y : Part) (dump : x.ple.dump = y.ple.dump) (same : x.reports t = y.reports t) :
    x.dumpPassed t = y.dumpPassed t := by
  unfold Part.dumpPassed
  rw [dump]
  cases t with
  | contrib m b i =>
    have place := congrArg Prod.snd same
    simp only [Part.reports] at place
    cases y.ple.dump with
    | contrib n k =>
      dsimp only
      rcases Nat.lt_trichotomy m n with before | at_ | after
      · rw [if_pos before, if_pos before]
      · subst at_
        cases ref : refOf b i with
        | none => rfl
        | some r =>
          have place : (x.mix m).indexOf r = (y.mix m).indexOf r := by simpa [ref] using place
          simp only [place]
      · rw [if_neg (by omega), if_pos after, if_neg (by omega), if_pos after]
    | _ => rfl
  | _ => cases y.ple.dump <;> rfl

/-- An echo depends on the lane and what its target reports. -/
theorem Part.echo_congr (t : Target) (x y : Part) (lane : x.ple = y.ple) (same : x.reports t = y.reports t) :
    (x.echo t).ple = (y.echo t).ple := by
  have passed := Part.dumpPassed_congr t x y (by rw [lane]) same
  have built : x.buildEcho t = y.buildEcho t := congrArg Prod.fst same
  unfold Part.echo
  rw [passed, built, lane]
  (repeat' split) <;> simp [lane]

/-! ### The echoes of a step -/

@[simp] theorem Part.laneAfter_nil (x old : Part) : x.laneAfter old [] = old.ple := rfl

theorem Part.echoes_reports (ts : List Target) (x : Part) (l : Ple) (t : Target) :
    (ts.foldl (fun y t => Part.echo t y) { x with ple := l }).reports t = x.reports t := by
  have only : ∃ l', ts.foldl (fun y t => Part.echo t y) { x with ple := l } = { x with ple := l' } := by
    induction ts generalizing l with
    | nil => exact ⟨l, rfl⟩
    | cons u ts ih =>
      rw [List.foldl_cons, Part.echo_lane]
      exact ih _
  obtain ⟨l', h⟩ := only
  rw [h, Part.reports_withPle]

/-- One more echo, with what its target reports in the end. -/
theorem Part.laneAfter_concat (ts : List Target) (t : Target) (x old y : Part) (lane : y.ple = x.laneAfter old ts)
    (same : x.reports t = y.reports t) : x.laneAfter old (ts ++ [t]) = (y.echo t).ple := by
  unfold Part.laneAfter at lane ⊢
  rw [List.foldl_append, List.foldl_cons, List.foldl_nil]
  exact Part.echo_congr t _ _ lane.symm ((Part.echoes_reports ts x old.ple t).trans same)

/-- One echo. -/
theorem Part.laneAfter_one (t : Target) (x old y : Part) (lane : y.ple = old.ple) (same : x.reports t = y.reports t) :
    x.laneAfter old [t] = (y.echo t).ple :=
  Part.laneAfter_concat [] t x old y lane same

/-- The lane after echoes depends on the lane before and what the targets report. -/
theorem Part.laneAfter_congr (ts : List Target) (x y old old' : Part) (lane : old.ple = old'.ple)
    (same : ∀ t ∈ ts, x.reports t = y.reports t) : x.laneAfter old ts = y.laneAfter old' ts := by
  induction ts using List.reverseRecOn with
  | nil => exact lane
  | append_singleton ts t ih =>
    have earlier := ih fun u hu => same u (by simp [hu])
    rw [Part.laneAfter_concat ts t x old { x with ple := x.laneAfter old ts } rfl (Part.reports_withPle ..).symm,
      Part.laneAfter_concat ts t y old' { y with ple := y.laneAfter old' ts } rfl (Part.reports_withPle ..).symm]
    refine Part.echo_congr t _ _ earlier ?_
    rw [Part.reports_withPle, Part.reports_withPle]
    exact same t (by simp)

/-- Echoes after echoes. -/
theorem Part.laneAfter_append (ts us : List Target) (x old : Part) :
    x.laneAfter old (ts ++ us) = x.laneAfter { x with ple := x.laneAfter old ts } us := by
  unfold Part.laneAfter
  rw [List.foldl_append]
  have only : ts.foldl (fun y t => Part.echo t y) { x with ple := old.ple } =
      { x with ple := (ts.foldl (fun y t => Part.echo t y) { x with ple := old.ple }).ple } := by
    generalize ({ x with ple := old.ple } : Part).ple = l
    induction ts using List.reverseRecOn with
    | nil => rfl
    | append_singleton ts t ih => rw [List.foldl_append, List.foldl_cons, List.foldl_nil, Part.echo_lane, ih]
  rw [← only]

end Sys2Proof.Machine
end

section
/-!
PROOFS. The Channel Store's own steps (chapter 5): the gain walk, the end of a phantom rise and of a fall.
-/

namespace Sys2Proof.Machine

/-! ### One channel's phantom state -/

/-- A channel that enters a phantom state: its timer, and the target its conditioning ramp then has (R91, R94). -/
def Channel.enter (op : OpState) (st : Phantom) (timer : Nat) (c : Channel) : Channel :=
  { c with
    phantom := st
    phantomTimer := timer
    ramp := c.ramp.retarget (condTarget op { c with phantom := st, phantomTimer := timer }) }

/-- A channel with its version one higher. -/
def Channel.bump (c : Channel) : Channel := { c with version := inc16 c.version }

/-- A phantom state entered, with the record the API holds (R93). -/
theorem Part.setPhantom_exact (n : Nat) (st : Phantom) (timer : Nat) (x : Part) (inside : n < x.chs.channels.length) :
    x.setPhantom n st timer = { x with
      chs := { x.chs with channels := updAt n (Channel.enter x.dsc.opState st timer) x.chs.channels }
      api := if (x.channel n).phantom.supply != st.supply
        then { x.api with queue := queuePreamp ⟨n, (x.channel n).gain, (x.channel n).pad, st.supply⟩ x.api.queue }
        else x.api } := by
  have now : (x.onChannel n fun c => { c with phantom := st, phantomTimer := timer }).channel n =
      { x.channel n with phantom := st, phantomTimer := timer } := by
    rw [Part.channel_onChannel, if_pos ⟨rfl, inside⟩]
  unfold Part.setPhantom Part.evalCond Part.preamp Part.preampRecord
  dsimp only
  rw [now]
  unfold Part.onChannel
  dsimp only
  split <;> (dsimp only; rw [updAt_updAt]; rfl)

/-- A change of phantom-on hands the API a record. -/
theorem Part.setPhantom_hands (n : Nat) (st : Phantom) (timer : Nat) (x : Part) (inside : n < x.chs.channels.length)
    (changes : (x.channel n).phantom.supply ≠ st.supply) :
    x.setPhantom n st timer = { x with
      chs := { x.chs with channels := updAt n (Channel.enter x.dsc.opState st timer) x.chs.channels }
      api := { x.api with queue := queuePreamp ⟨n, (x.channel n).gain, (x.channel n).pad, st.supply⟩ x.api.queue } } := by
  rw [x.setPhantom_exact n st timer inside, if_pos (by simpa using changes)]

/-- With phantom-on as it was no record goes to the API. -/
theorem Part.setPhantom_keeps (n : Nat) (st : Phantom) (timer : Nat) (x : Part) (inside : n < x.chs.channels.length)
    (same : (x.channel n).phantom.supply = st.supply) :
    x.setPhantom n st timer =
      { x with chs := { x.chs with channels := updAt n (Channel.enter x.dsc.opState st timer) x.chs.channels } } := by
  rw [x.setPhantom_exact n st timer inside, if_neg (by simp [same])]

/-- The channels after one of them changes. -/
theorem Part.channel_updAt (x : Part) (f : Channel → Channel) (n k : Nat) (inside : n < x.chs.channels.length) (y : Part)
    (h : y.chs.channels = updAt n f x.chs.channels) : y.channel k = if k = n then f (x.channel n) else x.channel k := by
  unfold Part.channel
  rw [h, updAt_getD]
  simp [inside]

/-- A new version of a channel, with its echo and its notice. -/
theorem Part.channelVersion_exact (n : Nat) (cause : ChangeCause) (x : Part) (inside : n < x.chs.channels.length) :
    x.channelVersion n cause = { x with
      chs := { x.chs with channels := updAt n Channel.bump x.chs.channels }
      ple := (x.channelVersion n cause).laneAfter x [.channel n]
      cmp := x.cmp.notify (.channelChanged n { (x.channel n).echo with version := ((x.channel n).version + 1) % 65536 } cause) } := by
  have now : (x.onChannel n Channel.bump).channel n = (x.channel n).bump := by
    rw [Part.channel_onChannel, if_pos ⟨rfl, inside⟩]
  have lane : (x.channelVersion n cause).laneAfter x [.channel n] = ((x.onChannel n Channel.bump).echo (.channel n)).ple := by
    refine Part.laneAfter_one _ _ _ _ rfl ?_
    unfold Part.channelVersion
    rw [Part.echo_lane]
    rfl
  rw [lane]
  unfold Part.channelVersion
  rw [Part.echo_lane]
  dsimp only
  unfold Part.notify
  refine congrArg (fun e => { x.onChannel n Channel.bump with
    ple := ((x.onChannel n Channel.bump).echo (.channel n)).ple
    cmp := x.cmp.notify (.channelChanged n e cause) }) ?_
  show ((x.onChannel n Channel.bump).channel n).echo = _
  rw [now]
  rfl

/-! ### The gain walk (R92) -/

/-- Settles O41: a due step on a channel off its target moves it one up or down. -/
theorem gainWalkSteps : Obligations.GainWalkSteps := by
  intro n s inside due off
  refine next_part s ?_
  show s.part.takeWalkStep n = _
  have now (f : Channel → Channel) : (s.part.onChannel n f).channel n = f (s.part.channel n) := by
    rw [Part.channel_onChannel, if_pos ⟨rfl, inside⟩]
  have toward : walkToward (s.part.channel n).gain (s.part.channel n).gainTarget =
      if (s.part.channel n).gain < (s.part.channel n).gainTarget then (s.part.channel n).gain + 1 else (s.part.channel n).gain - 1 := by
    unfold walkToward
    split
    · rfl
    · rw [if_pos (by omega)]
  unfold Part.takeWalkStep
  rw [if_pos due, if_neg off]
  unfold Part.preamp Part.preampRecord
  rw [now]
  unfold Part.onChannel
  dsimp only
  rw [updAt_eq_set n _ Channel.powerOn _ inside]
  simp only [show s.part.chs.channels.getD n Channel.powerOn = s.part.channel n from rfl, toward]
  rfl

/-! ### The end of a rise and of a fall (R98, R99) -/

/-- A channel that enters a state at the end of a timer, with its new version. -/
def Channel.endTimer (op : OpState) (st : Phantom) (c : Channel) : Channel := (c.enter op st 0).bump

/-- The end of a phantom timer: state, version, echo, CHANNEL_CHANGED, PHANTOM_DONE. -/
def Part.timerDone (n : Nat) (st : Phantom) (x : Part) : Part :=
  ((x.setPhantom n st 0).channelVersion n .phantom).phantomDone n .timer

/-- The end of a phantom timer, written out. -/
theorem Part.timerDone_eq (n : Nat) (st : Phantom) (x : Part) (inside : n < x.chs.channels.length)
    (supply : (x.channel n).phantom.supply = st.supply) :
    x.timerDone n st = { x with
      chs := { x.chs with channels := updAt n (Channel.endTimer x.dsc.opState st) x.chs.channels }
      ple := (x.timerDone n st).laneAfter x [.channel n]
      cmp := (x.cmp.notify (.channelChanged n
          { (x.channel n).echo with phantom := st, version := ((x.channel n).version + 1) % 65536 } .phantom)).notify
        (.phantomDone n st .timer (x.timerDone n st).rising x.chs.phantomQueue.length) } := by
  have entered := x.setPhantom_keeps n st 0 inside supply
  have inside' : n < (x.setPhantom n st 0).chs.channels.length := by
    rw [entered]; simpa using inside
  have held : (x.setPhantom n st 0).channel n = (x.channel n).enter x.dsc.opState st 0 := by
    rw [Part.channel_updAt x _ n n inside _ (congrArg (fun y => y.chs.channels) entered), if_pos rfl]
  have version := Part.channelVersion_exact n .phantom _ inside'
  rw [held] at version
  have now : (((x.setPhantom n st 0).channelVersion n .phantom).channel n).phantom = st := by
    rw [Part.channel_updAt _ _ n n inside' _ (congrArg (fun y => y.chs.channels) version), if_pos rfl, held]
    rfl
  have lane : (x.timerDone n st).laneAfter x [.channel n] =
      ((x.setPhantom n st 0).channelVersion n .phantom).laneAfter (x.setPhantom n st 0) [.channel n] := by
    refine Part.laneAfter_congr _ _ _ _ _ (by rw [entered]) fun t _ => ?_
    exact Part.reports_withCmp _ _ t
  have queue : ((x.setPhantom n st 0).channelVersion n .phantom).chs.phantomQueue = x.chs.phantomQueue := by
    rw [version, entered]
  rw [lane]
  show ((x.setPhantom n st 0).channelVersion n .phantom).notify (.phantomDone n _ .timer
    ((x.setPhantom n st 0).channelVersion n .phantom).rising _) = { x with
      chs := _, ple := _, cmp := Cmp.notify (.phantomDone n st .timer
        ((x.setPhantom n st 0).channelVersion n .phantom).rising _) _ }
  rw [now, queue]
  generalize ((x.setPhantom n st 0).channelVersion n .phantom).laneAfter (x.setPhantom n st 0) [.channel n] = lane at version ⊢
  generalize ((x.setPhantom n st 0).channelVersion n .phantom).rising = rising
  rw [version, entered]
  unfold Part.notify
  dsimp only
  rw [updAt_updAt]
  rfl

/-- The head of the queue takes a freed place, and hands over its record (R93, R94). -/
theorem Part.promote_cons (k : Nat) (rest : List Nat) (x : Part) (queue : x.chs.phantomQueue = k :: rest)
    (inside : k < x.chs.channels.length) (queued : (x.channel k).phantom = .queued) :
    x.promote = { x with
      chs := { x.chs with channels := updAt k (Channel.enter x.dsc.opState .rising 12000) x.chs.channels, phantomQueue := rest }
      api := { x.api with queue := queuePreamp ⟨k, (x.channel k).gain, (x.channel k).pad, true⟩ x.api.queue } } := by
  have changes : (x.channel k).phantom.supply ≠ Phantom.supply .rising := by rw [queued]; decide
  unfold Part.promote
  rw [queue]
  exact Part.setPhantom_hands k .rising 12000 { x with chs := { x.chs with phantomQueue := rest } } inside changes

/-- The conditioning target of a channel that enters ON. -/
theorem Channel.enter_on_target (op : OpState) (timer : Nat) (c : Channel) :
    (c.enter op .on timer).ramp.target = if c.mute = false ∧ op = .operate then 65536 else 0 := by
  simp [Channel.enter, Ramp.retarget_target, condTarget, unity]

/-- A channel at the end of its timer, among the others. -/
theorem Part.timerDone_channel (n : Nat) (st : Phantom) (x : Part) (inside : n < x.chs.channels.length)
    (supply : (x.channel n).phantom.supply = st.supply) (k : Nat) :
    (x.timerDone n st).channel k = if k = n then (x.channel n).endTimer x.dsc.opState st else x.channel k :=
  Part.channel_updAt x _ n k inside _ (congrArg (fun y => y.chs.channels) (x.timerDone_eq n st inside supply))

/-- At the end of a rise one channel fewer is RISING. -/
theorem Part.timerDone_on_rising (n : Nat) (x : Part) (inside : n < x.chs.channels.length) (rises : (x.channel n).phantom = .rising) :
    (x.timerDone n .on).rising = x.rising - 1 := by
  have view : (x.timerDone n .on).phantomView = (x.phantomView.1.set n .on, x.phantomView.2) := by
    show (((x.setPhantom n .on 0).channelVersion n .phantom).phantomDone n .timer).phantomView = _
    rw [Part.phantomDone_phantom, Part.channelVersion_phantom, Part.setPhantom_phantom]
  rw [Part.rising_eq, Part.rising_eq, view, count_set_ne _ _ (by decide),
    if_pos ((x.phantomView_get n .rising).mpr ⟨inside, rises⟩)]

/-- A channel other than one that enters a state reports what it did. -/
theorem Part.reports_channel (x y : Part) (n : Nat) (same : x.channel n = y.channel n) :
    x.reports (.channel n) = y.reports (.channel n) := by
  show (some (LaneMsg.echoChannel n (x.channel n).echo), none) = (some (LaneMsg.echoChannel n (y.channel n).echo), none)
  rw [same]

/-- The end of a rise. -/
theorem Part.takeRiseEnd_due (n : Nat) (x : Part) (rises : (x.channel n).phantom = .rising) (timer : (x.channel n).phantomTimer = 0) :
    x.takeRiseEnd n = (x.timerDone n .on).promote := if_pos ⟨rises, timer⟩

/-- The end of a fall: offered again, or OFF. -/
theorem Part.takeFallEnd_due (n : Nat) (x : Part) (falls : (x.channel n).phantom = .falling) (timer : (x.channel n).phantomTimer = 0) :
    x.takeFallEnd n = if (x.channel n).request = true ∧ x.dsc.opState = .operate then x.offerPhantom n else x.timerDone n .off :=
  if_pos ⟨falls, timer⟩

/-- A channel offered: RISING with a record, or QUEUED at the tail. -/
theorem Part.offerPhantom_eq (n : Nat) (x : Part) (inside : n < x.chs.channels.length) (off : (x.channel n).phantom.supply = false) :
    x.offerPhantom n =
      if x.rising < 6 then { x with
        chs := { x.chs with channels := updAt n (Channel.enter x.dsc.opState .rising 12000) x.chs.channels }
        api := { x.api with queue := queuePreamp ⟨n, (x.channel n).gain, (x.channel n).pad, true⟩ x.api.queue } }
      else { x with chs := { x.chs with
        channels := updAt n (Channel.enter x.dsc.opState .queued 0) x.chs.channels
        phantomQueue := x.chs.phantomQueue ++ [n] } } := by
  unfold Part.offerPhantom Part.startRise
  rw [x.setPhantom_hands n .rising 12000 inside (by rw [off]; decide), x.setPhantom_keeps n .queued 0 inside off]
  rfl

/-- Settles O42: the timer's end gives the state, version, echo and notices; then the head of the queue rises. A fall's end offers, or
ends OFF. -/
theorem phantomTimersEnd : Obligations.PhantomTimersEnd := by
  refine ⟨fun n s lt inv rises timer => ⟨_, next_part s (s.part.takeRiseEnd_due n rises timer), ?_⟩,
    fun n s inside falls timer => ⟨_, next_part s (s.part.takeFallEnd_due n falls timer), ?_⟩⟩
  · obtain ⟨size, few, once, queued⟩ := inv
    have inside : n < s.part.chs.channels.length := by omega
    have supply : (s.part.channel n).phantom.supply = Phantom.supply .on := by rw [rises]; rfl
    have done := s.part.timerDone_eq n .on inside supply
    have chan := s.part.timerDone_channel n .on inside supply
    have rising := s.part.timerDone_on_rising n inside rises
    have queue : (s.part.timerDone n .on).chs.phantomQueue = s.part.chs.phantomQueue := by rw [done]
    have own : (s.part.timerDone n .on).channel n = (s.part.channel n).endTimer s.part.dsc.opState .on := by
      rw [chan, if_pos rfl]
    have cmp := congrArg Part.cmp done
    have ple := congrArg Part.ple done
    have api := congrArg Part.api done
    rw [rising] at cmp
    cases waits : s.part.chs.phantomQueue with
    | nil =>
      have stands : (s.part.timerDone n .on).promote = s.part.timerDone n .on := by
        unfold Part.promote; rw [queue, waits]
      rw [waits] at cmp queue
      rw [stands, own]
      refine ⟨rfl, rfl, rfl, Channel.enter_on_target .., queue, fun k _ _ h => (nomatch h), fun k other _ => ?_, cmp, ple, api⟩
      rw [chan, if_neg other]
    | cons k rest =>
      obtain ⟨kIn, kQueued⟩ := (queued k).mp (by rw [waits]; exact List.mem_cons_self)
      have kn : k ≠ n := fun e => by rw [e, rises] at kQueued; cases kQueued
      have kept : (s.part.timerDone n .on).channel k = s.part.channel k := by rw [chan, if_neg kn]
      have size' : (s.part.timerDone n .on).chs.channels.length = s.part.chs.channels.length := by rw [done]; simp
      have up := Part.promote_cons k rest _ (queue.trans waits) (by omega) (by rw [kept]; exact kQueued)
      have chan' (j : Nat) := Part.channel_updAt (s.part.timerDone n .on) _ k j (by omega) _ (congrArg (fun y => y.chs.channels) up)
      have stays : (s.part.timerDone n .on).promote.channel n = (s.part.channel n).endTimer s.part.dsc.opState .on := by
        rw [chan', if_neg (Ne.symm kn), own]
      rw [waits] at cmp
      rw [stays]
      refine ⟨rfl, rfl, rfl, Channel.enter_on_target .., congrArg (fun y => y.chs.phantomQueue) up, fun j _ _ head => ?_,
        fun j other notHead => ?_, (congrArg Part.cmp up).trans cmp, ?_, ?_⟩
      · obtain rfl : k = j := by simpa using head
        rw [chan', if_pos rfl, kept]
        exact ⟨rfl, rfl, rfl⟩
      · rw [chan', if_neg fun e => notHead (by rw [e]; rfl), chan, if_neg other]
      · refine (congrArg Part.ple up).trans (ple.trans (Part.laneAfter_congr _ _ _ _ _ rfl fun t ht => ?_))
        obtain rfl : t = .channel n := by simpa using ht
        exact Part.reports_channel _ _ n (by rw [stays, own])
      · rw [congrArg Part.api up, kept, api]
        rfl
  · have off : (s.part.channel n).phantom.supply = false := by rw [falls]; rfl
    have offered := s.part.offerPhantom_eq n inside off
    refine ⟨fun k other => ?_, ?_, fun on op few => ?_, fun on op full => ?_, fun idle => ?_⟩
    · split
      · rw [offered]
        split
        · exact (Part.channel_updAt s.part _ n k inside _ rfl).trans (if_neg other)
        · exact (Part.channel_updAt s.part _ n k inside _ rfl).trans (if_neg other)
      · rw [s.part.timerDone_channel n .off inside off, if_neg other]
    · split
      · rw [offered]
        split
        · rw [Part.channel_updAt s.part _ n n inside _ rfl, if_pos rfl]
          rfl
        · rw [Part.channel_updAt s.part _ n n inside _ rfl, if_pos rfl]
          rfl
      · rw [s.part.timerDone_channel n .off inside off, if_pos rfl]
        rfl
    · rw [if_pos ⟨on, op⟩, offered, if_pos few,
        (Part.channel_updAt s.part _ n n inside _ rfl).trans (if_pos rfl)]
      exact ⟨rfl, rfl, rfl, rfl, rfl, rfl, rfl⟩
    · rw [if_pos ⟨on, op⟩, offered, if_neg (by omega),
        (Part.channel_updAt s.part _ n n inside _ rfl).trans (if_pos rfl)]
      exact ⟨rfl, rfl, rfl, rfl, rfl, rfl, rfl⟩
    · have done := s.part.timerDone_eq n .off inside off
      have rising : (s.part.timerDone n .off).rising = s.part.rising := by
        have view : (s.part.timerDone n .off).phantomView = (s.part.phantomView.1.set n .off, s.part.phantomView.2) := by
          show (((s.part.setPhantom n .off 0).channelVersion n .phantom).phantomDone n .timer).phantomView = _
          rw [Part.phantomDone_phantom, Part.channelVersion_phantom, Part.setPhantom_phantom]
        have notRising : s.part.phantomView.1[n]? ≠ some .rising := fun h => by
          have := ((s.part.phantomView_get n .rising).mp h).2
          rw [falls] at this; cases this
        rw [Part.rising_eq, Part.rising_eq, view, count_set_ne _ _ (by decide), if_neg notRising, Nat.sub_zero]
      have cmp := congrArg Part.cmp done
      rw [rising] at cmp
      have ple := congrArg Part.ple done
      have api := congrArg Part.api done
      rw [if_neg (by rcases idle with h | h <;> simp [h]), s.part.timerDone_channel n .off inside off, if_pos rfl]
      exact ⟨rfl, rfl, rfl, congrArg (fun y => y.chs.phantomQueue) done, cmp, ple, api⟩

end Sys2Proof.Machine
end

section
/-!
PROOFS. The operating states and RESET_SOFT (R4, R7 to R11): what the entries make of the paths and the link, SET_STATE by Table 1-2,
and the values of RESET_SOFT.
-/

namespace Sys2Proof.Machine

/-! ### RESET_SOFT (R4, R171) -/

/-- RESET_SOFT of the blocks, with the preamp queue and the clock of each role. -/
theorem Part.softBlocks_eq (x : Part) :
    x.softBlocks = { x with
      dsc := { x.dsc with opState := .standby, wakeTimer := 0, heldState := none, heldLink := none, restartFlag := true }
      pa := x.pa.soft
      pb := x.pb.soft
      fmu := { Fmu.powerOn x.dsc.role with delay := x.fmu.delay }
      ple := Ple.powerOn
      chs := Chs.powerOn
      mxe := Mxe.powerOn
      tka := Tka.powerOn
      mtu := Mtu.powerOn
      mirror := Mirror.powerOn
      scu := if x.dsc.role = .stage ∧ x.scu.lock = .locked then { x.scu with lock := .holdover } else x.scu
      api := if x.dsc.role = .stage then { x.api with queue := (List.range 64).map fun n => ⟨n, 0, false, false⟩ } else x.api } := by
  have records (y : Part) (chs : y.chs = Chs.powerOn) : y.preampRecord = fun n => ⟨n, 0, false, false⟩ := by
    funext n
    have entry : y.channel n = Channel.powerOn := by
      unfold Part.channel
      rw [chs]
      exact getD_replicate 64 _ n
    unfold Part.preampRecord
    rw [entry]
    rfl
  unfold Part.softBlocks Part.refreshPreamps
  dsimp only
  cases role : x.dsc.role with
  | desk => rw [if_neg (by simp), if_neg (by simp)]
  | stage =>
    rw [if_pos rfl]
    dsimp only
    rw [records _ rfl]
    by_cases locked : x.scu.lock = .locked
    · rw [if_pos ⟨rfl, locked⟩, followRef, if_pos locked]
    · rw [if_neg fun h => locked h.2, followRef, if_neg locked]

/-- What RESET_SOFT makes of a path. -/
theorem PathCtl.soft_values (c : PathCtl) :
    c.soft.cfg = c.cfg ∧ c.soft.tx = .off ∧ c.soft.hist = ⟨false, false, false⟩ ∧ c.soft.light = false ∧
    c.soft.errPos = c.errPos ∧ c.soft.lightPos = c.lightPos ∧
    c.soft.state = (if c.cfg.enabled then .dark else .disabled) :=
  ⟨rfl, rfl, rfl, rfl, rfl, rfl, rfl⟩

/-- Settles O27: the values are read off the blocks at RESET_SOFT and the port after it. -/
theorem resetSoftValues : Obligations.ResetSoftValues := by
  intro tag s ready
  refine ⟨s.part.resetSoft tag, ?_, ?_⟩
  · exact (exec_request_ready tag .resetSoft s ready).trans (next_part s (Part.carryOut_resetSoft tag s.part))
  have port := s.part.resetSoft_port tag
  rw [ready.2.1, List.append_nil] at port
  have held : ((s.part.answerHeldState .aborted).answerHeldLink .aborted).answer tag .ok =
      { s.part with
        dsc := { s.part.dsc with heldState := none, heldLink := none }
        cmp := (((s.part.answerHeldState .aborted).answerHeldLink .aborted).answer tag .ok).cmp } := by
    rw [Part.answerHeldState_eq, Part.answerHeldLink_eq]
    rfl
  have alone : (((s.part.answerHeldState .aborted).answerHeldLink .aborted).answer tag .ok).abortStaged =
      ((s.part.answerHeldState .aborted).answerHeldLink .aborted).answer tag .ok := by
    unfold Part.abortStaged
    rw [Part.answerHeldState_eq, Part.answerHeldLink_eq]
    show (match s.part.cmp.executing with | some r => _ | none => _ : Part) = _
    rw [ready.2.1]
  have blocks : s.part.resetSoft tag = { s.part.softBlocks with cmp := (s.part.resetSoft tag).cmp } := by
    unfold Part.resetSoft
    dsimp only
    rw [alone, held, Part.softBlocks_eq, Part.softBlocks_eq]
    rfl
  rw [port, Part.softBlocks_eq] at blocks
  rw [blocks]
  refine ⟨rfl, rfl, rfl, rfl, rfl, rfl, rfl, rfl, rfl, rfl, rfl, rfl, rfl, rfl, rfl, rfl, rfl, rfl, ?_, rfl, rfl, rfl, rfl,
    rfl, rfl, rfl, rfl, ?_, rfl⟩
  · rintro (_ | _)
    · exact s.part.pa.soft_values
    · exact s.part.pb.soft_values
  · dsimp only
    split <;> rfl

/-! ### STANDBY entry of the paths and the link (R36, R59) -/

/-- A notice of a path goes to the Control Message Port alone. -/
theorem Part.notifyPath_eq (p : Path) (y old : Part) : ∃ c, Part.notifyPath p y old = { y with cmp := c } := by
  unfold Part.notifyPath
  split <;> exact ⟨_, rfl⟩

/-- The clock follows the reference: the lock state and a notice. -/
theorem Part.clockFollow_eq (x : Part) : ∃ c d, x.clockFollow = { x with cmp := c, scu := d } := by
  unfold Part.clockFollow
  split <;> exact ⟨_, _, rfl⟩

/-- A link gone OFFLINE ends an episode of the lane; no other block acts on it. -/
theorem Part.linkChanged_offline (old : LinkState) (x : Part) (offline : x.fmu.link = .offline) :
    x.linkChanged old = { x with ple := if x.ple.episode then x.endEpisode.ple else x.ple } := by
  have talk : x.talkLink old = x := by
    unfold Part.talkLink
    rw [offline]
    rfl
  have meters (y : Part) (h : y.fmu.link = .offline) : y.meterLink = y := by
    unfold Part.meterLink
    rw [h]
    exact if_neg fun h => by cases h.2
  have lane : x.laneLink old = if x.ple.episode then x.endEpisode else x := by
    unfold Part.laneLink
    rw [offline]
    rfl
  have stage : (match x.dsc.role with | .stage => x.talkLink old | .desk => x) = x := by
    rw [talk]
    cases x.dsc.role <;> rfl
  have ended : x.linkChanged old = (x.laneLink old).meterLink :=
    congrArg (fun y : Part => (y.laneLink old).meterLink) stage
  rw [ended, meters _ (by rw [lane]; split <;> exact offline), lane]
  cases x.ple.episode <;> rfl

/-- STANDBY entry of the paths changes the paths, the FMU, the clock, the quiet tail of the lane and the notices. -/
theorem Part.pathsStandby_eq (x : Part) : ∃ c d l, x.pathsStandby =
    { x with
      pa := x.standbyAligns.pa.standby
      pb := x.standbyAligns.pb.standby
      fmu := x.fmu.standby
      cmp := c
      scu := d
      ple := l } ∧ l.queue = x.ple.queue ∧ l.marks = x.ple.marks ∧ l.dump = x.ple.dump := by
  obtain ⟨c₀, aligned⟩ := x.standbyAligns_fields
  unfold Part.pathsStandby
  dsimp only
  generalize x.standbyAligns = u at aligned ⊢
  obtain ⟨c₁, toldA⟩ := Part.notifyPath_eq .a { u with pa := u.pa.standby, pb := u.pb.standby } u
  rw [toldA]
  obtain ⟨c₂, toldB⟩ := Part.notifyPath_eq .b { u with pa := u.pa.standby, pb := u.pb.standby, cmp := c₁ } u
  rw [toldB, aligned]
  split
  · obtain ⟨c, d, clock⟩ := Part.clockFollow_eq
      { x with pa := u.pa.standby, pb := u.pb.standby, cmp := c₂, fmu := x.fmu.standby }
    exact ⟨c, d, x.ple, clock, rfl, rfl, rfl⟩
  · obtain ⟨c, d, clock⟩ := Part.clockFollow_eq (Part.notify (.linkState .offline x.fmu.link none false false)
      { x with pa := u.pa.standby, pb := u.pb.standby, cmp := c₂, fmu := x.fmu.standby })
    refine ⟨c, d, _, (congrArg (Part.linkChanged x.fmu.link) clock).trans (Part.linkChanged_offline _ _ rfl), ?_⟩
    dsimp only
    split <;> exact ⟨rfl, rfl, rfl⟩

/-- Anchoring leaves a path, or completes it from ALIGN. -/
theorem Part.anchoring_cases (x : Part) (p : Path) :
    x.anchoring.1.path p = x.path p ∨ ((x.path p).atAlign = true ∧ x.anchoring.1.path p = (x.path p).serve) := by
  unfold Part.anchoring
  split
  · exact .inl rfl
  · split
    · next align => cases p with
      | a => exact .inr ⟨align, rfl⟩
      | b => exact .inl rfl
    · split
      · next align => cases p with
        | a => exact .inl rfl
        | b => exact .inr ⟨align, rfl⟩
      · exact .inl rfl

/-- A path that STANDBY took out of use is not at ALIGN. -/
theorem PathCtl.standby_atAlign (c : PathCtl) : c.standby.atAlign = false := by
  rw [PathCtl.standby_eq]
  unfold PathCtl.atAlign
  dsimp only
  split <;> rfl

/-- A path as it stands when the entry's transitions begin: completed from ALIGN, taken out of use, or as it was. -/
theorem Part.standbyAligns_path (p : Path) (x : Part) :
    x.standbyAligns.path p = x.path p ∨ ((x.path p).usable = true ∧ x.standbyAligns.path p = (x.path p).standby) ∨
    ((x.path p).atAlign = true ∧ x.standbyAligns.path p = (x.path p).serve) := by
  unfold Part.standbyAligns
  split
  · let y : Part := { x with pa := x.pa.standbyUsable, pb := x.pb.standbyUsable }
    have used : y.path p = (x.path p).standbyUsable := by cases p <;> rfl
    have told : (Part.notifyPath .b (Part.notifyPath .a y.anchoring.1 x) x).path p = y.anchoring.1.path p := by
      obtain ⟨a1, b1, -⟩ := Part.notifyPath_fields .a x y.anchoring.1
      obtain ⟨a2, b2, -⟩ := Part.notifyPath_fields .b x (Part.notifyPath .a y.anchoring.1 x)
      cases p
      · exact a2.trans a1
      · exact b2.trans b1
    show (Part.notifyPath .b (Part.notifyPath .a y.anchoring.1 x) x).path p = _ ∨ (_ ∧
      (Part.notifyPath .b (Part.notifyPath .a y.anchoring.1 x) x).path p = _) ∨ (_ ∧
      (Part.notifyPath .b (Part.notifyPath .a y.anchoring.1 x) x).path p = _)
    have anchored := y.anchoring_cases p
    rw [used] at anchored
    rw [told]
    unfold PathCtl.standbyUsable at anchored
    cases usable : (x.path p).usable <;> simp only [usable, if_true, Bool.false_eq_true, if_false] at anchored
    · exact anchored.imp id .inr
    · rcases anchored with left | ⟨align, -⟩
      · exact .inr (.inl ⟨rfl, left⟩)
      · rw [PathCtl.standby_atAlign] at align
        cases align
  · exact .inl rfl

theorem dsc_mtu_of_sans {x y : Part} (h : x.sansTables = y.sansTables) : x.dsc = y.dsc ∧ x.mtu = y.mtu :=
  ⟨(congrArg Part.dsc h :), (congrArg Part.mtu h :)⟩

/-- STANDBY entry leaves the role, the restart flag and the meter table. -/
theorem Part.standbyEntry_fields (x : Part) :
    x.standbyEntry.dsc = { x.dsc with opState := .standby, wakeTimer := 0 } ∧ x.standbyEntry.mtu = x.mtu := by
  obtain ⟨c, d, l, entered, -⟩ := (x.setOp .standby 0).pathsStandby_eq
  have begun : (x.setOp .standby 0).pathsStandby.dsc = { x.dsc with opState := .standby, wakeTimer := 0 } ∧
      (x.setOp .standby 0).pathsStandby.mtu = x.mtu := by
    rw [entered]
    exact ⟨rfl, rfl⟩
  have tables (y : Part) : y.channelsStandby.mastersEval.talkStandby.dsc = y.dsc ∧
      y.channelsStandby.mastersEval.talkStandby.mtu = y.mtu :=
    dsc_mtu_of_sans ((Part.talkStandby_sans _).trans ((Part.mastersEval_sans _).trans y.channelsStandby_sans))
  unfold Part.standbyEntry
  dsimp only
  split
  · exact begun
  · obtain ⟨dsc, mtu⟩ := tables (x.setOp .standby 0).pathsStandby
    exact ⟨dsc.trans begun.1, mtu.trans begun.2⟩

/-- The replies after STANDBY entry are those before it. -/
theorem Part.standbyEntry_replies (x : Part) : x.standbyEntry.cmp.replies = x.cmp.replies := by
  have same := congrArg Cmp.replies x.standbyEntry_port
  exact same

/-! ### SET_STATE (Table 1-2) -/

theorem Part.refusal_setState (n : Nat) (x : Part) : x.refusal (.setState n) = if n ≤ 1 then none else some .range := by
  rw [Part.refusal_eq _ x rfl rfl, absentAt_of_stage _ rfl]
  show (if decide (n ≤ 1) = true then none else some ReplyCode.range) = _
  simp only [decide_eq_true_eq]

/-- STANDBY taken while the wake runs. -/
theorem Part.setState_waking (tag : Nat) (x : Part) (op : x.dsc.opState = .waking) :
    x.setState tag 0 = ((x.answerHeldState .aborted).answer tag .ok).standbyEntry := by
  unfold Part.setState
  rw [op]
  rfl

/-- STANDBY taken in OPERATE. -/
theorem Part.setState_operate (tag : Nat) (x : Part) (op : x.dsc.opState = .operate) :
    x.setState tag 0 = x.standbyEntry.answer tag .ok := by
  unfold Part.setState
  rw [op]
  rfl

/-- Settles O24: by the operating state and the target. -/
theorem setStateByTable : Obligations.SetStateByTable := by
  intro tag n s ready
  have acted (low : n ≤ 1) : exec (.setState tag n) s = .next { s with part := s.part.setState tag n } :=
    exec_request_act tag (.setState n) s ready ((s.part.refusal_setState n).trans (if_pos low))
  refine ⟨fun high => ?_, fun zero op => ?_, fun one op => ?_, fun one op => ?_, fun zero op => ?_⟩
  · exact exec_request_refused tag (.setState n) .range s ready ((s.part.refusal_setState n).trans (if_neg (by omega)))
  · refine (acted (by omega)).trans (next_part s ?_)
    subst zero
    unfold Part.setState
    rw [op]
    rfl
  · refine (acted (by omega)).trans (next_part s ?_)
    subst one
    unfold Part.setState
    cases h : s.part.dsc.opState
    · exact absurd h op
    · rfl
    · rfl
  · refine (acted (by omega)).trans (next_part s ?_)
    subst one
    unfold Part.setState
    rw [op]
    show s.part.startWake tag = _
    unfold Part.startWake Part.refreshPreamps
    dsimp only [Part.setOp]
    cases s.part.dsc.role <;> rfl
  · have acted := acted (by omega)
    subst zero
    cases h : s.part.dsc.opState with
    | standby => exact absurd h op
    | waking =>
      let y := (s.part.answerHeldState .aborted).answer tag .ok
      have asked : y = { s.part with
          dsc := { s.part.dsc with heldState := none }
          cmp := { s.part.cmp with
            replies := s.part.cmp.replies ++ heldReplies s.part.dsc.heldState .aborted ++ [⟨tag, .ok, .none⟩] } } := by
        show (s.part.answerHeldState .aborted).answer tag .ok = _
        rw [Part.answerHeldState_eq]
        rfl
      obtain ⟨dsc, mtu⟩ := y.standbyEntry_fields
      have replies := y.standbyEntry_replies
      rw [congrArg Part.dsc asked] at dsc
      rw [congrArg Part.mtu asked] at mtu
      rw [congrArg Part.cmp asked] at replies
      refine ⟨y.standbyEntry, acted.trans (next_part s (s.part.setState_waking tag h)), ?_⟩
      rw [dsc, mtu, replies]
      exact ⟨rfl, fun _ => ⟨rfl, rfl⟩, nofun, rfl, rfl, rfl⟩
    | operate =>
      obtain ⟨dsc, mtu⟩ := s.part.standbyEntry_fields
      refine ⟨s.part.standbyEntry.answer tag .ok, acted.trans (next_part s (s.part.setState_operate tag h)), ?_⟩
      have fields : (s.part.standbyEntry.answer tag .ok).dsc = { s.part.dsc with opState := .standby, wakeTimer := 0 } := dsc
      have replies : (s.part.standbyEntry.answer tag .ok).cmp.replies = s.part.cmp.replies ++ [⟨tag, .ok, .none⟩] :=
        congrArg (· ++ [_]) s.part.standbyEntry_replies
      rw [fields, replies]
      exact ⟨rfl, nofun, fun _ => rfl, rfl, rfl, congrArg Mtu.table mtu⟩

end Sys2Proof.Machine
end

section
/-!
PROOFS. What the arbiter's operations make of the tables, exactly. A destination gains a holder, fades, or stands; an operation over
the destinations is a move of each, judged on the tables before it (`Part.moves`). `Part.publishAll` then raises versions and tells of
the sessions that differ.
-/

namespace Sys2Proof.Machine

/-! ### One destination's move -/

/-- What an operation does with one destination. -/
inductive TalkMove where
  | stay
  | gain (s : Source)
  | fade
  deriving DecidableEq

namespace TalkMove

/-- The record of the destination after the move. -/
def dest : TalkMove → Dest → Dest
  | stay, r => r
  | gain s, _ => ⟨.held, some s, false⟩
  | fade, r => ⟨.fading, r.holder, false⟩

/-- The mix after the move of its destination. -/
def mix : TalkMove → Mix → Mix
  | stay, z => z
  | gain _, z => z.handDest .held
  | fade, z => z.handDest .fading

/-- A source's granted set after the move of destination `d` with the holder it had. -/
def bits (d : Nat) (holder : Option Source) (t : Source) : TalkMove → Nat → Nat
  | stay, n => n
  | gain s, n => if t = s then setAdd n d else n
  | fade, n => if holder = some t then setDel n d else n

theorem testBit_bits (d : Nat) (holder : Option Source) (t : Source) (m : TalkMove) (n k : Nat) (ne : k ≠ d) :
    (m.bits d holder t n).testBit k = n.testBit k := by
  cases m with
  | stay => rfl
  | gain s =>
    unfold bits
    dsimp only
    split
    · rw [testBit_setAdd]; simp [Ne.symm ne]
    · rfl
  | fade =>
    unfold bits
    dsimp only
    split
    · rw [testBit_setDel]; simp [Ne.symm ne]
    · rfl

end TalkMove

/-- A session with another granted set. -/
def Session.holding (n : Nat) (z : Session) : Session := { z with granted := n }

/-- The move carried out. -/
def Part.move (x : Part) (d : Nat) : TalkMove → Part
  | .stay => x
  | .gain s => x.grant s d
  | .fade => x.lose d

/-- The part with the destinations, the sessions and the ramps they drive left out. -/
def Part.sansTalk (x : Part) : Part :=
  { x with
    tka := { x.tka with foh := default, mon := default, stg := default, dests := [], cue := default }
    mxe := { x.mxe with mixes := [] } }

theorem Part.setDest_sansTalk (d : Nat) (st : DestState) (h : Option Source) (x : Part) :
    (x.setDest d st h).sansTalk = x.sansTalk := by
  unfold Part.setDest
  dsimp only
  split <;> rfl

theorem Part.onSource_sansTalk (s : Source) (f : SourceRec → SourceRec) (x : Part) :
    (x.onSource s f).sansTalk = x.sansTalk := by
  cases s <;> rfl

theorem Part.lose_exact (d : Nat) (x : Part) :
    x.lose d = match (x.dest d).holder with
      | some h => (x.setDest d .fading (some h)).onSession h fun z => z.holding (setDel z.granted d)
      | none => x.setDest d .fading none := rfl

theorem Part.move_sansTalk (x : Part) (d : Nat) (m : TalkMove) : (x.move d m).sansTalk = x.sansTalk := by
  cases m with
  | stay => rfl
  | gain s => exact (Part.onSource_sansTalk ..).trans (Part.setDest_sansTalk ..)
  | fade =>
    show (x.lose d).sansTalk = _
    rw [Part.lose_exact]
    split
    · exact (Part.onSource_sansTalk ..).trans (Part.setDest_sansTalk ..)
    · exact Part.setDest_sansTalk ..

/-- The destinations after one takes a state. -/
theorem Part.setDest_dests (d : Nat) (st : DestState) (h : Option Source) (x : Part) :
    (x.setDest d st h).tka.dests = updAt d (fun _ => ⟨st, h, false⟩) x.tka.dests := by
  unfold Part.setDest
  dsimp only
  split <;> rfl

/-- The mixes after a destination takes a state. -/
theorem Part.setDest_mixes (d : Nat) (st : DestState) (h : Option Source) (x : Part) :
    (x.setDest d st h).mxe.mixes = if d = 16 then x.mxe.mixes else updAt d (Mix.handDest st) x.mxe.mixes := by
  unfold Part.setDest
  dsimp only
  split <;> rfl

/-- A destination that takes a state leaves the sources. -/
theorem Part.setDest_source (d : Nat) (st : DestState) (h : Option Source) (x : Part) (t : Source) :
    (x.setDest d st h).tka.source t = x.tka.source t := by
  unfold Part.setDest
  dsimp only
  split <;> cases t <;> rfl

/-- A change of one source's record. -/
theorem Part.onSource_source (s : Source) (f : SourceRec → SourceRec) (x : Part) (t : Source) :
    (x.onSource s f).tka.source t = if t = s then f (x.tka.source t) else x.tka.source t := by
  cases s <;> cases t <;> rfl

theorem Part.move_dests (x : Part) (d : Nat) (m : TalkMove) :
    (x.move d m).tka.dests = updAt d (fun _ => m.dest (x.dest d)) x.tka.dests := by
  have source (s : Source) (f : SourceRec → SourceRec) (y : Part) : (y.onSource s f).tka.dests = y.tka.dests := by
    cases s <;> rfl
  cases m with
  | stay =>
    refine List.ext_getElem? fun k => ?_
    show x.tka.dests[k]? = _
    rw [updAt_get]
    split
    · next e =>
      subst e
      show _ = Option.map (fun _ => x.tka.dests.getD k Dest.powerOn) _
      rw [List.getD_eq_getElem?_getD]
      cases x.tka.dests[k]? <;> rfl
    · rfl
  | gain s => exact (source ..).trans (Part.setDest_dests ..)
  | fade =>
    show (x.lose d).tka.dests = _
    rw [Part.lose_exact]
    show _ = updAt d (fun _ => (⟨.fading, (x.dest d).holder, false⟩ : Dest)) _
    split
    · next h => rw [h]; exact (source ..).trans (Part.setDest_dests ..)
    · next h => rw [h]; exact Part.setDest_dests ..

theorem Part.move_dest (x : Part) (d : Nat) (m : TalkMove) (k : Nat) :
    (x.move d m).dest k = if k = d ∧ d < x.tka.dests.length then m.dest (x.dest d) else x.dest k := by
  unfold Part.dest
  rw [Part.move_dests, updAt_getD]
  rfl

theorem Part.move_mixes (x : Part) (d : Nat) (m : TalkMove) :
    (x.move d m).mxe.mixes = if d = 16 then x.mxe.mixes else updAt d m.mix x.mxe.mixes := by
  have source (s : Source) (f : SourceRec → SourceRec) (y : Part) : (y.onSource s f).mxe.mixes = y.mxe.mixes := by
    cases s <;> rfl
  cases m with
  | stay =>
    have same : updAt d (fun z : Mix => z) x.mxe.mixes = x.mxe.mixes := by
      refine List.ext_getElem? fun k => ?_
      rw [updAt_get]
      split
      · exact Option.map_id'
      · rfl
    show x.mxe.mixes = if d = 16 then x.mxe.mixes else updAt d (fun z => z) x.mxe.mixes
    rw [same, ite_self]
  | gain s => exact (source ..).trans (Part.setDest_mixes ..)
  | fade =>
    show (x.lose d).mxe.mixes = _
    rw [Part.lose_exact]
    split
    · exact (source ..).trans (Part.setDest_mixes ..)
    · exact Part.setDest_mixes ..

theorem Part.move_mix (x : Part) (d : Nat) (m : TalkMove) (k : Nat) :
    (x.move d m).mix k = if k = d ∧ d ≠ 16 ∧ d < x.mxe.mixes.length then m.mix (x.mix d) else x.mix k := by
  unfold Part.mix
  rw [Part.move_mixes]
  by_cases cue : d = 16
  · rw [if_pos cue, if_neg fun h => h.2.1 cue]
  · rw [if_neg cue, updAt_getD]
    by_cases h : k = d ∧ d < x.mxe.mixes.length
    · rw [if_pos h, if_pos ⟨h.1, cue, h.2⟩]
    · rw [if_neg h, if_neg fun c => h ⟨c.1, c.2.2⟩]

theorem Part.move_source (x : Part) (d : Nat) (m : TalkMove) (t : Source) :
    (x.move d m).tka.source t = { x.tka.source t with
      session := (x.session t).map fun z => z.holding (m.bits d (x.dest d).holder t z.granted) } := by
  have none_moved (t : Source) : x.tka.source t = { x.tka.source t with session := (x.session t).map fun z => z.holding z.granted } := by
    have same : (x.session t).map (fun z => z.holding z.granted) = x.session t := by
      cases x.session t <;> rfl
    rw [same]
    rfl
  cases m with
  | stay => exact none_moved t
  | gain s =>
    refine (Part.onSource_source ..).trans ?_
    rw [Part.setDest_source]
    unfold TalkMove.bits
    dsimp only
    split
    · rfl
    · exact none_moved t
  | fade =>
    show (x.lose d).tka.source t = _
    rw [Part.lose_exact]
    unfold TalkMove.bits
    dsimp only
    split
    · next h holder =>
      refine (Part.onSource_source ..).trans ?_
      rw [Part.setDest_source, holder]
      by_cases e : t = h
      · subst e
        simp only [if_true]
        rfl
      · simp only [if_neg e, if_neg fun c : some h = some t => e (Option.some.inj c).symm]
        exact none_moved t
    · next holder =>
      rw [Part.setDest_source, holder]
      simp only [if_neg (nofun : ¬ none = some t)]
      exact none_moved t

theorem Part.move_cue (x : Part) (d : Nat) (m : TalkMove) (ne : d ≠ 16) : (x.move d m).tka.cue = x.tka.cue := by
  have source (s : Source) (f : SourceRec → SourceRec) (y : Part) : (y.onSource s f).tka.cue = y.tka.cue := by
    cases s <;> rfl
  have put (st : DestState) (h : Option Source) : (x.setDest d st h).tka.cue = x.tka.cue := by
    unfold Part.setDest
    dsimp only
    rw [if_neg ne]
    rfl
  cases m with
  | stay => rfl
  | gain s => exact (source ..).trans (put ..)
  | fade =>
    show (x.lose d).tka.cue = _
    rw [Part.lose_exact]
    split
    · exact (source ..).trans (put ..)
    · exact put ..

theorem Part.move_cue_cur (x : Part) (d : Nat) (m : TalkMove) : (x.move d m).tka.cue.cur = x.tka.cue.cur := by
  have source (s : Source) (f : SourceRec → SourceRec) (y : Part) : (y.onSource s f).tka.cue = y.tka.cue := by
    cases s <;> rfl
  have put (st : DestState) (h : Option Source) : (x.setDest d st h).tka.cue.cur = x.tka.cue.cur := by
    unfold Part.setDest
    dsimp only
    split
    · exact Ramp.retarget_cur ..
    · rfl
  cases m with
  | stay => rfl
  | gain s => exact (congrArg Ramp.cur (source ..)).trans (put ..)
  | fade =>
    show (x.lose d).tka.cue.cur = _
    rw [Part.lose_exact]
    split
    · exact (congrArg Ramp.cur (source ..)).trans (put ..)
    · exact put ..

/-- The targets of a destination depend on its state, its mix, the cue ramp and the cue level. -/
theorem Part.targetsFollow_congr (x y : Part) (d : Nat) (state : (x.dest d).state = (y.dest d).state)
    (mix : d < 16 → x.mix d = y.mix d) (cue : d = 16 → x.tka.cue = y.tka.cue)
    (level : x.tka.cfg.cueLevel = y.tka.cfg.cueLevel) : x.TargetsFollow d ↔ y.TargetsFollow d := by
  unfold Part.TargetsFollow
  rw [state, level]
  constructor
  all_goals
    intro h
    refine ⟨fun lt => ?_, fun e => ?_⟩
    · have := h.1 lt
      rw [mix lt] at *
      exact this
    · have := h.2 e
      rw [cue e] at *
      exact this

/-- A destination that moves has the targets of its new state. -/
theorem Part.move_targetsFollow (x : Part) (d : Nat) (m : TalkMove) (moves : m ≠ .stay) (lt : d < 17)
    (dests : x.tka.dests.length = 17) (mixes : x.mxe.mixes.length = 16) : (x.move d m).TargetsFollow d := by
  cases m with
  | stay => exact absurd rfl moves
  | gain s => exact (Part.onSource_targetsFollow ..).mpr (x.setDest_targetsFollow d _ _ lt dests mixes)
  | fade =>
    show (x.lose d).TargetsFollow d
    rw [Part.lose_exact]
    split
    · exact (Part.onSource_targetsFollow ..).mpr (x.setDest_targetsFollow d _ _ lt dests mixes)
    · exact x.setDest_targetsFollow d _ _ lt dests mixes

/-! ### The moves of a list of destinations -/

/-- The moves of a list of destinations, each judged beforehand. -/
def Part.moves (x : Part) (ms : Nat → TalkMove) (l : List Nat) : Part :=
  l.foldl (fun y d => y.move d (ms d)) x

theorem Part.moves_concat (x : Part) (ms : Nat → TalkMove) (l : List Nat) (d : Nat) :
    x.moves ms (l ++ [d]) = (x.moves ms l).move d (ms d) := by
  unfold Part.moves
  rw [List.foldl_append]
  rfl

/-- A walk over destinations whose every step is the move judged beforehand. -/
theorem foldl_moves (step : Part → Nat → Part) (x : Part) (ms : Nat → TalkMove) (l : List Nat)
    (h : ∀ l' d, l' ++ [d] <+: l → step (x.moves ms l') d = (x.moves ms l').move d (ms d)) : l.foldl step x = x.moves ms l := by
  induction l using List.reverseRecOn with
  | nil => rfl
  | append_singleton l d ih =>
    rw [List.foldl_append, ih fun l' e sub => h l' e (sub.trans (List.prefix_append ..)), Part.moves_concat]
    exact h l d (List.prefix_refl _)

theorem Part.moves_sansTalk (x : Part) (ms : Nat → TalkMove) (l : List Nat) : (x.moves ms l).sansTalk = x.sansTalk :=
  foldl_keeps Part.sansTalk _ (fun _ _ => Part.move_sansTalk ..) ..

theorem Part.moves_lengths (x : Part) (ms : Nat → TalkMove) (l : List Nat) :
    (x.moves ms l).tka.dests.length = x.tka.dests.length ∧ (x.moves ms l).mxe.mixes.length = x.mxe.mixes.length := by
  have one (y : Part) (d : Nat) (m : TalkMove) : (y.move d m).tka.dests.length = y.tka.dests.length ∧
      (y.move d m).mxe.mixes.length = y.mxe.mixes.length := by
    refine ⟨by rw [Part.move_dests, updAt_length], ?_⟩
    rw [Part.move_mixes]
    split
    · rfl
    · exact updAt_length ..
  exact ⟨foldl_keeps (fun y : Part => y.tka.dests.length) _ (fun y d => (one y d (ms d)).1) l x,
    foldl_keeps (fun y : Part => y.mxe.mixes.length) _ (fun y d => (one y d (ms d)).2) l x⟩

theorem Part.moves_dest (x : Part) (ms : Nat → TalkMove) (l : List Nat) (once : l.Nodup) (k : Nat) :
    (x.moves ms l).dest k = if k ∈ l ∧ k < x.tka.dests.length then (ms k).dest (x.dest k) else x.dest k := by
  induction l using List.reverseRecOn with
  | nil => simp [Part.moves]
  | append_singleton l d ih =>
    obtain ⟨once, -, apart⟩ := List.nodup_append.mp once
    have out : d ∉ l := fun h => apart d h d (by simp) rfl
    have ih := ih once
    rw [Part.moves_concat, Part.move_dest, (x.moves_lengths ms l).1]
    by_cases e : k = d
    · subst e
      simp [ih, out]
    · simp [ih, e]

theorem Part.moves_mix (x : Part) (ms : Nat → TalkMove) (l : List Nat) (once : l.Nodup) (k : Nat) :
    (x.moves ms l).mix k = if k ∈ l ∧ k ≠ 16 ∧ k < x.mxe.mixes.length then (ms k).mix (x.mix k) else x.mix k := by
  induction l using List.reverseRecOn with
  | nil => simp [Part.moves]
  | append_singleton l d ih =>
    obtain ⟨once, -, apart⟩ := List.nodup_append.mp once
    have out : d ∉ l := fun h => apart d h d (by simp) rfl
    have ih := ih once
    rw [Part.moves_concat, Part.move_mix, (x.moves_lengths ms l).2]
    by_cases e : k = d
    · subst e
      simp [ih, out]
    · simp [ih, e]

theorem Part.moves_cue (x : Part) (ms : Nat → TalkMove) (l : List Nat) (out : ∀ d ∈ l, d = 16 → ms d = .stay) :
    (x.moves ms l).tka.cue = x.tka.cue := by
  induction l using List.reverseRecOn with
  | nil => rfl
  | append_singleton l d ih =>
    rw [Part.moves_concat, ← ih fun e he => out e (by simp [he])]
    by_cases e : d = 16
    · rw [out d (by simp) e]
      rfl
    · exact Part.move_cue _ d _ e

/-- The granted set of a source after the moves. -/
def grantedAfter (x : Part) (ms : Nat → TalkMove) (t : Source) (l : List Nat) (n : Nat) : Nat :=
  l.foldl (fun n d => (ms d).bits d (x.dest d).holder t n) n

theorem grantedAfter_concat (x : Part) (ms : Nat → TalkMove) (t : Source) (l : List Nat) (d n : Nat) :
    grantedAfter x ms t (l ++ [d]) n = (ms d).bits d (x.dest d).holder t (grantedAfter x ms t l n) := by
  unfold grantedAfter
  rw [List.foldl_append]
  rfl

theorem Part.moves_source (x : Part) (ms : Nat → TalkMove) (l : List Nat) (once : l.Nodup) (t : Source) :
    (x.moves ms l).tka.source t = { x.tka.source t with
      session := (x.session t).map fun z => z.holding (grantedAfter x ms t l z.granted) } := by
  induction l using List.reverseRecOn with
  | nil =>
    show x.tka.source t = { x.tka.source t with session := (x.session t).map fun z => z.holding z.granted }
    have same : (x.session t).map (fun z => z.holding z.granted) = x.session t := by
      cases x.session t <;> rfl
    rw [same]
    rfl
  | append_singleton l d ih =>
    obtain ⟨once, -, apart⟩ := List.nodup_append.mp once
    have out : d ∉ l := fun h => apart d h d (by simp) rfl
    have ih := ih once
    have held : (x.moves ms l).dest d = x.dest d := by
      rw [x.moves_dest ms l once, if_neg fun h => out h.1]
    rw [Part.moves_concat, Part.move_source, held]
    unfold Part.session
    rw [ih]
    unfold Part.session
    cases (x.tka.source t).session with
    | none => rfl
    | some z => exact congrArg (fun n => { x.tka.source t with session := some (z.holding n) }) (grantedAfter_concat x ms t l d _).symm

theorem Part.moves_session (x : Part) (ms : Nat → TalkMove) (l : List Nat) (once : l.Nodup) (t : Source) :
    (x.moves ms l).session t = (x.session t).map fun z => z.holding (grantedAfter x ms t l z.granted) :=
  congrArg SourceRec.session (x.moves_source ms l once t)

theorem testBit_grantedAfter (x : Part) (ms : Nat → TalkMove) (t : Source) (l : List Nat) (once : l.Nodup) (n k : Nat) :
    (grantedAfter x ms t l n).testBit k =
      if k ∈ l then ((ms k).bits k (x.dest k).holder t n).testBit k else n.testBit k := by
  induction l using List.reverseRecOn with
  | nil => simp [grantedAfter]
  | append_singleton l d ih =>
    obtain ⟨once, -, apart⟩ := List.nodup_append.mp once
    have out : d ∉ l := fun h => apart d h d (by simp) rfl
    have ih := ih once
    rw [grantedAfter_concat]
    by_cases e : k = d
    · subst e
      rw [if_neg out] at ih
      rw [if_pos (by simp)]
      generalize grantedAfter x ms t l n = g at ih
      cases ms k with
      | stay => exact ih
      | gain s =>
        unfold TalkMove.bits
        dsimp only
        split
        · rw [testBit_setAdd, testBit_setAdd, ih]
        · exact ih
      | fade =>
        unfold TalkMove.bits
        dsimp only
        split
        · rw [testBit_setDel, testBit_setDel, ih]
        · exact ih
    · rw [TalkMove.testBit_bits _ _ _ _ _ _ e, ih]
      simp [e]

/-- Moves of other destinations leave the targets of one. -/
theorem Part.move_targetsFollow_other (x : Part) (d k : Nat) (m : TalkMove) (ne : k ≠ d) :
    (x.move d m).TargetsFollow k ↔ x.TargetsFollow k := by
  refine Part.targetsFollow_congr _ _ _ ?_ (fun _ => ?_) (fun e => ?_) ?_
  · rw [Part.move_dest, if_neg fun h => ne h.1]
  · rw [Part.move_mix, if_neg fun h => ne h.1]
  · exact Part.move_cue x d m fun h => ne (e.trans h.symm)
  · exact (congrArg (fun y : Part => y.tka.cfg.cueLevel) (x.move_sansTalk d m) :)

/-- Every destination that moved has the targets of its new state. -/
theorem Part.moves_targetsFollow (x : Part) (ms : Nat → TalkMove) (l : List Nat) (once : l.Nodup) (k : Nat) (member : k ∈ l)
    (moves : ms k ≠ .stay) (lt : k < 17) (dests : x.tka.dests.length = 17) (mixes : x.mxe.mixes.length = 16) :
    (x.moves ms l).TargetsFollow k := by
  induction l using List.reverseRecOn with
  | nil => cases member
  | append_singleton l d ih =>
    obtain ⟨once, -, -⟩ := List.nodup_append.mp once
    rw [Part.moves_concat]
    by_cases e : k = d
    · subst e
      refine Part.move_targetsFollow _ k _ moves lt ?_ ?_
      · rw [(x.moves_lengths ms l).1, dests]
      · rw [(x.moves_lengths ms l).2, mixes]
    · refine (Part.move_targetsFollow_other _ d k _ e).mpr (ih once ?_)
      simpa [e] using member

/-- A destination that only may have moved: where its record differs it has the targets of its new state. -/
theorem Part.moves_targetsFollow_of_ne (x : Part) (ms : Nat → TalkMove) (l : List Nat) (once : l.Nodup) (k : Nat)
    (differs : (x.moves ms l).dest k ≠ x.dest k) (lt : k < 17) (dests : x.tka.dests.length = 17)
    (mixes : x.mxe.mixes.length = 16) : (x.moves ms l).TargetsFollow k := by
  rw [x.moves_dest ms l once] at differs
  split at differs
  · next h =>
    refine x.moves_targetsFollow ms l once k h.1 (fun stay => differs ?_) lt dests mixes
    rw [stay]
    rfl
  · exact absurd rfl differs

theorem destNums_nodup : destNums.Nodup := List.nodup_range

theorem mem_destNums (d : Nat) : d ∈ destNums ↔ d < 17 := List.mem_range

/-! ### Versions, echoes and notices (R132, R150) -/

/-- A source's record with its version one higher. -/
def SourceRec.bump (r : SourceRec) : SourceRec := { r with version := inc16 r.version }

/-- The records of the sources of a set with their versions one higher. -/
def Tka.bump (p : Source → Bool) (t : Tka) : Tka :=
  { t with
    foh := if p .foh then t.foh.bump else t.foh
    mon := if p .mon then t.mon.bump else t.mon
    stg := if p .stg then t.stg.bump else t.stg }

theorem Tka.bump_source (p : Source → Bool) (t : Tka) (s : Source) :
    (t.bump p).source s = if p s then (t.source s).bump else t.source s := by
  cases s <;> rfl

theorem Tka.bump_session (p : Source → Bool) (t : Tka) (s : Source) : ((t.bump p).source s).session = (t.source s).session := by
  rw [Tka.bump_source]
  split <;> rfl

/-- What ECHO_TALK carries of a source's session differs from what it carried. -/
def Part.talkDiffers (x : Part) (before : Tka) (s : Source) : Bool :=
  (x.session s).map Session.echo != (before.source s).session.map Session.echo

theorem Part.talkDiffers_congr (x y : Part) (before : Tka) (s : Source) (same : x.session s = y.session s) :
    x.talkDiffers before s = y.talkDiffers before s := by
  unfold Part.talkDiffers
  rw [same]

theorem Part.talkChanged_eq (x old : Part) (order : List Source) : x.talkChanged old order = order.filter (x.talkDiffers old.tka) := rfl

/-- One source published. -/
theorem Part.publish_eq (before : Tka) (cause : TalkCause) (s : Source) (x : Part) :
    Part.publish before cause x s =
      if x.talkDiffers before s then
        { x with
          tka := x.tka.onSource s SourceRec.bump
          ple := ((x.onSource s SourceRec.bump).echo (.talk (sourceNum s))).ple
          cmp := x.cmp.notify (.talkState
            (talkNotice s ((before.source s).session.map Session.echo) (x.tka.source s).bump.echo cause)) }
      else x := by
  unfold Part.publish Part.talkDiffers
  dsimp only
  by_cases same : (x.session s).map Session.echo = (before.source s).session.map Session.echo
  · rw [if_pos same, if_neg (by simpa using same)]
  · rw [if_neg same, if_pos (by simpa using same), Part.echo_lane]
    unfold Part.notify
    dsimp only
    refine congrArg (fun r : SourceRec => { x with
      tka := x.tka.onSource s SourceRec.bump
      ple := ((x.onSource s SourceRec.bump).echo (.talk (sourceNum s))).ple
      cmp := x.cmp.notify (.talkState (talkNotice s ((before.source s).session.map Session.echo) r.echo cause)) }) ?_
    refine (Part.onSource_source s SourceRec.bump x s).trans (if_pos rfl)

/-- A source reports its session and version. -/
theorem Part.reports_talk (x y : Part) (s : Source) (same : x.tka.source s = y.tka.source s) :
    x.reports (.talk (sourceNum s)) = y.reports (.talk (sourceNum s)) := by
  cases s
  all_goals
    show (some (LaneMsg.echoTalk _ (Tka.source _ _).echo), none) = (some (LaneMsg.echoTalk _ (Tka.source _ _).echo), none)
    rw [same]

/-- One more source whose version rises. -/
theorem Tka.bump_concat (p q : Source → Bool) (s : Source) (t : Tka) (before : p s = false) (after : q s = true)
    (others : ∀ u, u ≠ s → q u = p u) : (t.bump p).onSource s SourceRec.bump = t.bump q := by
  cases s with
  | foh => simp [Tka.bump, Tka.onSource, before, after, others .mon nofun, others .stg nofun]
  | mon => simp [Tka.bump, Tka.onSource, before, after, others .foh nofun, others .stg nofun]
  | stg => simp [Tka.bump, Tka.onSource, before, after, others .foh nofun, others .mon nofun]

/-- Sources published one after another, each once: their versions, their echoes and their notices. -/
theorem Part.publish_walk (old x : Part) (cause : TalkCause) (l : List Source) (once : l.Nodup) (y : Part)
    (final : ∀ s ∈ l, y.tka.source s = if x.talkDiffers old.tka s then (x.tka.source s).bump else x.tka.source s) :
    l.foldl (Part.publish old.tka cause) x = { x with
      tka := x.tka.bump fun s => decide (s ∈ l) && x.talkDiffers old.tka s
      ple := y.laneAfter x (y.talkEchoes old l)
      cmp := y.talkTold { old with cmp := x.cmp } cause l } := by
  have echo (s : Source) (h : s ∈ l) : y.session s = x.session s := by
    refine (congrArg SourceRec.session (final s h)).trans ?_
    split <;> rfl
  have differs (s : Source) (h : s ∈ l) : y.talkDiffers old.tka s = x.talkDiffers old.tka s :=
    Part.talkDiffers_congr _ _ _ _ (echo s h)
  induction l using List.reverseRecOn with
  | nil => 
    have none : x.tka.bump (fun s => decide (s ∈ ([] : List Source)) && x.talkDiffers old.tka s) = x.tka := by
      simp [Tka.bump]
    rw [none]
    rfl
  | append_singleton l s ih =>
    obtain ⟨once, -, apart⟩ := List.nodup_append.mp once
    have out : s ∉ l := fun h => apart s h s (by simp) rfl
    have ih := ih once (fun t h => final t (by simp [h])) (fun t h => echo t (by simp [h])) (fun t h => differs t (by simp [h]))
    have held : (x.tka.bump fun t => decide (t ∈ l) && x.talkDiffers old.tka t).source s = x.tka.source s := by
      rw [Tka.bump_source, if_neg (by simp [out])]
    have last := final s (by simp)
    have sets (t : Source) : (decide (t ∈ l ++ [s]) && x.talkDiffers old.tka t) =
        if t = s then x.talkDiffers old.tka t else decide (t ∈ l) && x.talkDiffers old.tka t := by
      by_cases e : t = s <;> simp [e]
    rw [List.foldl_append, ih, List.foldl_cons, List.foldl_nil, Part.publish_eq]
    have same : Part.talkDiffers { x with
        tka := x.tka.bump fun t => decide (t ∈ l) && x.talkDiffers old.tka t
        ple := y.laneAfter x (y.talkEchoes old l)
        cmp := y.talkTold { old with cmp := x.cmp } cause l } old.tka s = x.talkDiffers old.tka s :=
      Part.talkDiffers_congr _ _ _ _ (congrArg SourceRec.session held)
    have changed : y.talkChanged old (l ++ [s]) = y.talkChanged old l ++ if x.talkDiffers old.tka s then [s] else [] := by
      rw [Part.talkChanged_eq, Part.talkChanged_eq, List.filter_append, List.filter_cons, differs s (by simp), List.filter_nil]
    rw [same]
    by_cases moved : x.talkDiffers old.tka s = true
    · rw [if_pos moved] at last changed ⊢
      have versions : (x.tka.bump fun t => decide (t ∈ l) && x.talkDiffers old.tka t).onSource s SourceRec.bump =
          x.tka.bump fun t => decide (t ∈ l ++ [s]) && x.talkDiffers old.tka t :=
        Tka.bump_concat _ _ s x.tka (by simp [out]) (by simp [moved]) fun t ne => by rw [sets, if_neg ne]
      have lane : y.laneAfter x (y.talkEchoes old (l ++ [s])) = (Part.echo (.talk (sourceNum s)) { x with
          tka := x.tka.bump fun t => decide (t ∈ l ++ [s]) && x.talkDiffers old.tka t
          ple := y.laneAfter x (y.talkEchoes old l)
          cmp := y.talkTold { old with cmp := x.cmp } cause l }).ple := by
        unfold Part.talkEchoes
        rw [changed, List.map_append]
        refine Part.laneAfter_concat _ _ _ _ _ rfl (Part.reports_talk _ _ s ?_)
        rw [last]
        refine Eq.symm ((Tka.bump_source ..).trans (if_pos ?_))
        simp [moved]
      have told : y.talkTold { old with cmp := x.cmp } cause (l ++ [s]) =
          (y.talkTold { old with cmp := x.cmp } cause l).notify (.talkState
            (talkNotice s ((old.tka.source s).session.map Session.echo) (x.tka.source s).bump.echo cause)) := by
        unfold Part.talkTold
        rw [show y.talkChanged { old with cmp := x.cmp } (l ++ [s]) = y.talkChanged { old with cmp := x.cmp } l ++ [s] from changed,
          List.foldl_append, List.foldl_cons, List.foldl_nil, last]
        rfl
      rw [lane, told]
      dsimp only [Part.onSource]
      rw [versions, held]
    · rw [if_neg moved] at last changed ⊢
      rw [List.append_nil] at changed
      have versions : (x.tka.bump fun t => decide (t ∈ l ++ [s]) && x.talkDiffers old.tka t) =
          x.tka.bump fun t => decide (t ∈ l) && x.talkDiffers old.tka t := by
        refine congrArg (fun p => x.tka.bump p) (funext fun t => ?_)
        rw [sets]
        split
        · next e => subst e; simp [moved]
        · rfl
      have told : y.talkTold { old with cmp := x.cmp } cause (l ++ [s]) = y.talkTold { old with cmp := x.cmp } cause l := by
        unfold Part.talkTold
        rw [show y.talkChanged { old with cmp := x.cmp } (l ++ [s]) = y.talkChanged { old with cmp := x.cmp } l from changed]
      rw [versions, told, Part.talkEchoes, Part.talkEchoes, changed]

/-- The order in which the sources an event changed are published: the opener last. -/
def publishOrder : Option Source → List Source
  | none => [.foh, .mon, .stg]
  | some .foh => [.mon, .stg, .foh]
  | some .mon => [.foh, .stg, .mon]
  | some .stg => [.foh, .mon, .stg]

theorem publishOrder_eq (opener : Option Source) :
    (sources.filter fun s => some s != opener) ++ opener.toList = publishOrder opener := by
  rcases opener with _ | (_ | _ | _) <;> rfl

theorem mem_publishOrder (opener : Option Source) (s : Source) : s ∈ publishOrder opener := by
  rcases opener with _ | (_ | _ | _) <;> cases s <;> decide

theorem publishOrder_nodup (opener : Option Source) : (publishOrder opener).Nodup := by
  rcases opener with _ | (_ | _ | _) <;> decide

/-- The sources an event changed, published. -/
theorem Part.publishAll_eq (old x : Part) (cause : TalkCause) (opener : Option Source) (y : Part)
    (final : ∀ s, y.tka.source s = if x.talkDiffers old.tka s then (x.tka.source s).bump else x.tka.source s) :
    x.publishAll old.tka cause opener = { x with
      tka := x.tka.bump (x.talkDiffers old.tka)
      ple := y.laneAfter x (y.talkEchoes old (publishOrder opener))
      cmp := y.talkTold { old with cmp := x.cmp } cause (publishOrder opener) } := by
  have all : (fun s => decide (s ∈ publishOrder opener) && x.talkDiffers old.tka s) = x.talkDiffers old.tka :=
    funext fun s => by simp [mem_publishOrder opener s]
  unfold Part.publishAll
  rw [publishOrder_eq, Part.publish_walk old x cause _ (publishOrder_nodup opener) y fun s _ => final s, all]

/-- The sources after they were published. -/
theorem Part.publishAll_source (old x : Part) (cause : TalkCause) (opener : Option Source) (s : Source) :
    (x.publishAll old.tka cause opener).tka.source s =
      if x.talkDiffers old.tka s then (x.tka.source s).bump else x.tka.source s := by
  rw [Part.publishAll_eq old x cause opener { x with tka := x.tka.bump (x.talkDiffers old.tka) } fun s => Tka.bump_source ..]
  exact Tka.bump_source ..

/-- The sources an event changed, published: the lane and the notices by what stands afterwards. -/
theorem Part.publishAll_exact (old x : Part) (cause : TalkCause) (opener : Option Source) :
    let y := x.publishAll old.tka cause opener
    y = { x with
      tka := x.tka.bump (x.talkDiffers old.tka)
      ple := y.laneAfter x (y.talkEchoes old (publishOrder opener))
      cmp := y.talkTold { old with cmp := x.cmp } cause (publishOrder opener) } :=
  Part.publishAll_eq old x cause opener _ (Part.publishAll_source old x cause opener)

end Sys2Proof.Machine
end

section
/-!
PROOFS. What an event of the arbiter leaves (R132, R139, R142, R144): the moves of its destinations, and the versions, echoes and notices of
the sessions it changed.
-/

namespace Sys2Proof.Machine

/-! ### An event published -/

/-- The part `y` is the part `w` with the sessions that differ from those of `x` published: an event that began at `x`. -/
structure Part.TalkEvent (x w y : Part) (cause : TalkCause) (order : List Source) : Prop where
  rest : ({ y with cmp := x.cmp, ple := x.ple } : Part).sansTalk = x.sansTalk
  told : y.cmp = y.talkTold x cause order
  lane : y.ple = y.laneAfter x (y.talkEchoes x order)
  dests : y.tka.dests = w.tka.dests
  mixes : y.mxe.mixes = w.mxe.mixes
  cue : y.tka.cue = w.tka.cue
  source : ∀ s, y.tka.source s = if w.talkDiffers x.tka s then (w.tka.source s).bump else w.tka.source s

theorem Part.published (x w : Part) (cause : TalkCause) (opener : Option Source) (rest : w.sansTalk = x.sansTalk) :
    Part.TalkEvent x w (w.publishAll x.tka cause opener) cause (publishOrder opener) := by
  have exact_ := Part.publishAll_exact x w cause opener
  have cmp : w.cmp = x.cmp := (congrArg Part.cmp rest :)
  have ple : w.ple = x.ple := (congrArg Part.ple rest :)
  have source := Part.publishAll_source x w cause opener
  dsimp only at exact_
  rw [cmp] at exact_
  generalize w.publishAll x.tka cause opener = y at exact_ source ⊢
  have lane : y.laneAfter w (y.talkEchoes x (publishOrder opener)) = y.laneAfter x (y.talkEchoes x (publishOrder opener)) :=
    Part.laneAfter_congr _ _ _ _ _ ple fun _ _ => rfl
  refine ⟨?_, congrArg Part.cmp exact_, (congrArg Part.ple exact_).trans lane, ?_, ?_, ?_, source⟩
  · rw [exact_, ← rest, ← cmp, ← ple]
    rfl
  · rw [exact_]; rfl
  · rw [exact_]
  · rw [exact_]; rfl

namespace Part.TalkEvent

variable {x w y : Part} {cause : TalkCause} {order : List Source}

theorem dest (h : Part.TalkEvent x w y cause order) (d : Nat) : y.dest d = w.dest d :=
  congrArg (fun l : List Dest => l.getD d Dest.powerOn) h.dests

theorem mix (h : Part.TalkEvent x w y cause order) (m : Nat) : y.mix m = w.mix m :=
  congrArg (fun l : List Mix => l.getD m Mix.powerOn) h.mixes

theorem session (h : Part.TalkEvent x w y cause order) (s : Source) : y.session s = w.session s := by
  refine (congrArg SourceRec.session (h.source s)).trans ?_
  split <;> rfl

theorem cfg (h : Part.TalkEvent x w y cause order) : y.tka.cfg = x.tka.cfg := (congrArg (fun p => p.tka.cfg) h.rest :)

theorem openCounter (h : Part.TalkEvent x w y cause order) : y.tka.openCounter = x.tka.openCounter :=
  (congrArg (fun p => p.tka.openCounter) h.rest :)

theorem chs (h : Part.TalkEvent x w y cause order) : y.chs = x.chs := (congrArg Part.chs h.rest :)

theorem free (h : Part.TalkEvent x w y cause order) : y.mxe.free = x.mxe.free := (congrArg (fun p => p.mxe.free) h.rest :)

theorem fmu (h : Part.TalkEvent x w y cause order) : y.fmu = x.fmu := (congrArg Part.fmu h.rest :)

theorem dsc (h : Part.TalkEvent x w y cause order) : y.dsc = x.dsc := (congrArg Part.dsc h.rest :)

/-- A source whose session stands, stands. -/
theorem source_same (h : Part.TalkEvent x w y cause order) (s : Source) (same : w.tka.source s = x.tka.source s) :
    y.tka.source s = x.tka.source s := by
  rw [h.source, if_neg, same]
  unfold Part.talkDiffers Part.session
  simp [same]

/-- A source whose session differs takes the next version. -/
theorem source_bump (h : Part.TalkEvent x w y cause order) (s : Source)
    (differs : (w.session s).map Session.echo ≠ (x.session s).map Session.echo) : y.tka.source s = (w.tka.source s).bump := by
  rw [h.source, if_pos]
  unfold Part.talkDiffers
  exact bne_iff_ne.mpr differs

theorem targets (h : Part.TalkEvent x w y cause order) (level : w.tka.cfg = x.tka.cfg) (d : Nat) :
    y.TargetsFollow d ↔ w.TargetsFollow d :=
  Part.targetsFollow_congr _ _ _ (by rw [h.dest]) (fun _ => h.mix d) (fun _ => h.cue) (by rw [h.cfg, level])

/-- With no session changed nothing is told. -/
theorem quiet (h : Part.TalkEvent x w y cause order) (same : ∀ s, w.session s = x.session s) :
    y.cmp = x.cmp ∧ y.ple = x.ple := by
  have none : y.talkChanged x order = [] := by
    refine List.filter_eq_nil_iff.mpr fun s _ => ?_
    rw [h.session, same]
    simp
  refine ⟨?_, ?_⟩
  · rw [h.told, Part.talkTold, none]; rfl
  · rw [h.lane, Part.talkEchoes, none]; rfl

/-- With one session changed it alone is told of. -/
theorem changed_one (h : Part.TalkEvent x w y cause order) (s : Source) (once : order.Nodup) (member : s ∈ order)
    (differs : (w.session s).map Session.echo ≠ (x.session s).map Session.echo)
    (others : ∀ t, t ≠ s → w.session t = x.session t) : y.talkChanged x order = [s] := by
  have only : y.talkChanged x order = order.filter (· == s) := by
    refine List.filter_congr fun t _ => ?_
    rw [h.session]
    by_cases e : t = s
    · subst e
      simpa using differs
    · rw [others t e]
      simp [e]
  rw [only, List.filter_beq, List.count_eq_one_of_mem once member]
  rfl

end Part.TalkEvent

theorem Part.talkChanged_self (x old : Part) (order : List Source) (s : Source) (h : x.talkChanged old order = [s]) :
    x.talkChanged old [s] = [s] := by
  have member : s ∈ x.talkChanged old order := by rw [h]; simp
  exact List.filter_eq_self.mpr fun t ht => (List.mem_singleton.mp ht) ▸ (List.mem_filter.mp member).2

/-! ### A close (R142) -/

/-- A close fades every destination of the granted set. -/
def closeMoves (z : Session) (d : Nat) : TalkMove := if z.granted.testBit d then .fade else .stay

theorem closeMoves_dest (z : Session) (d : Nat) (r : Dest) :
    (closeMoves z d).dest r = if z.granted.testBit d = true then ⟨.fading, r.holder, false⟩ else r := by
  unfold closeMoves
  split <;> rfl

theorem Part.fadeGranted_moves (s : Source) (z : Session) (x : Part) (opened : x.session s = some z) :
    destNums.foldl (Part.fadeGranted s) x = x.moves (closeMoves z) destNums := by
  refine foldl_moves _ x _ _ fun l d sub => ?_
  have once := destNums_nodup.sublist sub.sublist
  obtain ⟨before, -, apart⟩ := List.nodup_append.mp once
  have out : d ∉ l := fun h => apart d h d (by simp) rfl
  have bit := testBit_grantedAfter x (closeMoves z) s l before z.granted d
  rw [if_neg out] at bit
  unfold Part.fadeGranted
  rw [x.moves_session (closeMoves z) l before s, opened]
  show (if (grantedAfter x (closeMoves z) s l z.granted).testBit d = true then _ else _) = _
  rw [bit, closeMoves]
  split <;> rfl

/-- The tables after a close, before the version rises. -/
def Part.shut (x : Part) (s : Source) (reason : CloseReason) (z : Session) : Part :=
  (x.moves (closeMoves z) destNums).onSource s fun r => { r with session := none, reason := reason }

theorem Part.closeSession_event (s : Source) (reason : CloseReason) (cause : TalkCause) (x : Part) (z : Session)
    (opened : x.session s = some z) :
    Part.TalkEvent x (x.shut s reason z) (x.closeSession s reason cause) cause [.foh, .mon, .stg] := by
  have closes : x.closeSession s reason cause = (x.shut s reason z).publishAll x.tka cause none := by
    unfold Part.closeSession
    rw [if_pos (by rw [opened]; rfl), Part.fadeGranted_moves s z x opened]
    rfl
  rw [closes]
  exact Part.published x _ cause none ((Part.onSource_sansTalk ..).trans (Part.moves_sansTalk ..))

theorem Part.closeSession_none (s : Source) (reason : CloseReason) (cause : TalkCause) (x : Part) (none : x.session s = none) :
    x.closeSession s reason cause = x := by
  unfold Part.closeSession
  rw [none]
  exact if_neg nofun

theorem Part.shut_session (x : Part) (s : Source) (reason : CloseReason) (z : Session) (t : Source) :
    (x.shut s reason z).session t =
      if t = s then none else (x.session t).map fun o => o.holding (grantedAfter x (closeMoves z) t destNums o.granted) := by
  refine (congrArg SourceRec.session (Part.onSource_source ..)).trans ?_
  split
  · rfl
  · exact x.moves_session (closeMoves z) destNums destNums_nodup t

theorem Part.shut_dest (x : Part) (s : Source) (reason : CloseReason) (z : Session) (d : Nat) (lt : d < 17)
    (dests : x.tka.dests.length = 17) : (x.shut s reason z).dest d =
      if z.granted.testBit d = true then ⟨.fading, (x.dest d).holder, false⟩ else x.dest d := by
  have source (y : Part) (f : SourceRec → SourceRec) : (y.onSource s f).dest d = y.dest d := by cases s <;> rfl
  refine (source ..).trans ?_
  rw [x.moves_dest _ _ destNums_nodup, if_pos ⟨(mem_destNums d).mpr lt, by omega⟩, closeMoves_dest]

theorem Part.shut_targets (x : Part) (s : Source) (reason : CloseReason) (z : Session) (d : Nat) (lt : d < 17)
    (granted : z.granted.testBit d = true) (dests : x.tka.dests.length = 17) (mixes : x.mxe.mixes.length = 16) :
    (x.shut s reason z).TargetsFollow d := by
  refine (Part.onSource_targetsFollow ..).mpr ?_
  refine x.moves_targetsFollow _ _ destNums_nodup d ((mem_destNums d).mpr lt) ?_ lt dests mixes
  unfold closeMoves
  rw [if_pos granted]
  nofun

theorem Part.shut_cfg (x : Part) (s : Source) (reason : CloseReason) (z : Session) :
    (x.shut s reason z).tka.cfg = x.tka.cfg :=
  (congrArg (fun p => p.tka.cfg) ((Part.onSource_sansTalk ..).trans (Part.moves_sansTalk x (closeMoves z) destNums)) :)

/-- The record of the source that closed. -/
theorem Part.closeSession_source (s : Source) (reason : CloseReason) (cause : TalkCause) (x : Part) (z : Session)
    (opened : x.session s = some z) :
    (x.closeSession s reason cause).tka.source s = ⟨none, ((x.tka.source s).version + 1) % 65536, reason⟩ := by
  have gone := x.shut_session s reason z s
  rw [if_pos rfl] at gone
  rw [(x.closeSession_event s reason cause z opened).source_bump s (by rw [gone, opened]; nofun)]
  unfold Part.shut SourceRec.bump
  rw [Part.onSource_source, if_pos rfl, x.moves_source _ _ destNums_nodup]
  rfl

/-- A close: what becomes of the source, the destinations, their ramps and the configuration, and what is told. -/
theorem Part.closeSession_after (s : Source) (reason : CloseReason) (cause : TalkCause) (x : Part) (z : Session)
    (opened : x.session s = some z) (dests : x.tka.dests.length = 17) :
    let y := x.closeSession s reason cause
    y.tka.source s = ⟨none, ((x.tka.source s).version + 1) % 65536, reason⟩ ∧
    (∀ d, d < 17 → y.dest d = if z.granted.testBit d = true then ⟨.fading, (x.dest d).holder, false⟩ else x.dest d) ∧
    (x.mxe.mixes.length = 16 → ∀ d, d < 17 → z.granted.testBit d = true → y.TargetsFollow d) := by
  have event := x.closeSession_event s reason cause z opened
  refine ⟨x.closeSession_source s reason cause z opened, fun d lt => ?_, fun mixes d lt granted => ?_⟩
  · rw [event.dest, x.shut_dest s reason z d lt dests]
  · exact (event.targets (x.shut_cfg s reason z) d).mpr (x.shut_targets s reason z d lt granted dests mixes)

/-! ### A FREE destination is granted (R139) -/

/-- A session that waits for a destination and is eligible for it. -/
def Part.candidate (x : Part) (d : Nat) (s : Source) (z : Session) : Prop :=
  x.session s = some z ∧ z.waits d = true ∧ x.eligible z d = true

/-- One comparison of the choice: a candidate that comes before the best so far takes its place. -/
def Part.weigh (x : Part) (d : Nat) (best : Option (Source × Session)) (s : Source) : Option (Source × Session) :=
  match x.session s with
  | none => best
  | some z =>
    if z.waits d && x.eligible z d then
      match best with
      | none => some (s, z)
      | some (_, b) => if z.beats b then some (s, z) else best
    else best

theorem Part.weigh_candidate (x : Part) (d : Nat) (best : Option (Source × Session)) (s : Source) (z : Session)
    (h : x.candidate d s z) : x.weigh d best s = match best with
      | none => some (s, z)
      | some b => if z.beats b.2 then some (s, z) else best := by
  obtain ⟨opened, waits, fits⟩ := h
  unfold Part.weigh
  rw [opened]
  dsimp only
  rw [waits, fits]
  cases best <;> rfl

theorem Part.weigh_other (x : Part) (d : Nat) (best : Option (Source × Session)) (s : Source)
    (h : ∀ z, ¬ x.candidate d s z) : x.weigh d best s = best := by
  unfold Part.weigh
  split
  · rfl
  · next z opened =>
    refine if_neg fun both => h z ?_
    rw [Bool.and_eq_true] at both
    exact ⟨opened, both⟩

/-- The candidate that comes before every other by priority, then by open order, is chosen. -/
theorem Part.bestWaiter_best (x : Part) (d : Nat) (s : Source) (z : Session) (fits : x.candidate d s z)
    (first : ∀ t o, t ≠ s → x.candidate d t o →
      o.priority < z.priority ∨ (o.priority = z.priority ∧ newer16 o.order z.order = true)) :
    x.bestWaiter d = some (s, z) := by
  have wins (t : Source) (o : Session) (ne : t ≠ s) (h : x.candidate d t o) : z.beats o = true ∧ o.beats z = false := by
    unfold Session.beats
    simp only [Bool.or_eq_true, Bool.and_eq_true, decide_eq_true_eq, beq_iff_eq, Bool.or_eq_false_iff, decide_eq_false_iff_not,
      Bool.and_eq_false_iff, beq_eq_false_iff_ne]
    rcases first t o ne h with lower | ⟨same, older⟩
    · exact ⟨.inl lower, by omega, .inl (by omega)⟩
    · refine ⟨.inr ⟨same.symm, older⟩, by omega, .inr ?_⟩
      by_contra both
      rw [Bool.not_eq_false, newer16_iff] at both
      rw [newer16_iff] at older
      omega
  have walked (l : List Source) : (s ∈ l → l.foldl (x.weigh d) none = some (s, z)) ∧
      (s ∉ l → ∀ t o, l.foldl (x.weigh d) none = some (t, o) → t ≠ s ∧ x.candidate d t o) := by
    induction l using List.reverseRecOn with
    | nil => exact ⟨nofun, fun _ _ _ => nofun⟩
    | append_singleton l t ih =>
      rw [List.foldl_append, List.foldl_cons, List.foldl_nil]
      generalize l.foldl (x.weigh d) none = best at ih ⊢
      by_cases e : t = s
      · subst e
        refine ⟨fun _ => ?_, fun out => absurd (by simp) out⟩
        rw [x.weigh_candidate d best t z fits]
        by_cases seen : t ∈ l
        · rw [ih.1 seen]
          dsimp only
          split <;> rfl
        · cases best with
          | none => rfl
          | some b =>
            obtain ⟨ne, h⟩ := ih.2 seen b.1 b.2 rfl
            dsimp only
            rw [if_pos (wins _ _ ne h).1]
      · have keeps (found : best = some (s, z)) : x.weigh d best t = some (s, z) := by
          by_cases h : ∃ o, x.candidate d t o
          · obtain ⟨o, h⟩ := h
            rw [x.weigh_candidate d best t o h, found]
            dsimp only
            rw [(wins t o e h).2]
            rfl
          · rw [x.weigh_other d best t fun o c => h ⟨o, c⟩, found]
        refine ⟨fun seen => keeps (ih.1 (by simpa [Ne.symm e] using seen)), fun out u o chosen => ?_⟩
        have out : s ∉ l := fun h => out (by simp [h])
        by_cases h : ∃ o, x.candidate d t o
        · obtain ⟨o', h⟩ := h
          rw [x.weigh_candidate d best t o' h] at chosen
          cases best with
          | none => cases chosen; exact ⟨e, h⟩
          | some b =>
            dsimp only at chosen
            split at chosen
            · cases chosen; exact ⟨e, h⟩
            · exact ih.2 out u o chosen
        · rw [x.weigh_other d best t fun o c => h ⟨o, c⟩] at chosen
          exact ih.2 out u o chosen
  exact (walked sources).1 (by cases s <;> decide)

/-- With no candidate none is chosen. -/
theorem Part.bestWaiter_none (x : Part) (d : Nat) (idle : ∀ s z, ¬ x.candidate d s z) : x.bestWaiter d = none := by
  have walked (l : List Source) : l.foldl (x.weigh d) none = none := by
    induction l with
    | nil => rfl
    | cons t l ih => rw [List.foldl_cons, x.weigh_other d none t fun o => idle t o, ih]
  exact walked sources

/-! ### Grants told of -/

/-- A grant gives the session the destination. -/
theorem Part.grant_session (s t : Source) (d : Nat) (x : Part) : (x.grant s d).session t =
    if t = s then (x.session t).map fun z => z.holding (setAdd z.granted d) else x.session t := by
  refine (congrArg SourceRec.session (x.move_source d (.gain s) t)).trans ?_
  unfold TalkMove.bits
  dsimp only
  split
  · rfl
  · cases x.session t <;> rfl

/-- A granted set that gains a destination it did not have differs. -/
theorem setAdd_ne (n d : Nat) (out : n.testBit d = false) : setAdd n d ≠ n := by
  intro same
  have := congrArg (fun k => k.testBit d) same
  simp [testBit_setAdd, out] at this

/-- One destination granted, and published: who holds it, what its session has, and what is told. -/
theorem Part.TalkEvent.granted {x w₀ y : Part} {cause : TalkCause} {order : List Source} {d : Nat} {s : Source} {z : Session}
    (h : Part.TalkEvent x (w₀.grant s d) y cause order) (same : ∀ t, w₀.tka.source t = x.tka.source t)
    (opened : x.session s = some z) (out : z.granted.testBit d = false) (lt : d < w₀.tka.dests.length)
    (once : order.Nodup) (member : s ∈ order) :
    y.dest d = ⟨.held, some s, false⟩ ∧ y.session s = some { z with granted := z.granted ||| (1 <<< d) } ∧
    (y.tka.source s).version = ((x.tka.source s).version + 1) % 65536 ∧
    (∀ t, t ≠ s → y.tka.source t = x.tka.source t) ∧ y.talkChanged x order = [s] := by
  have session (t : Source) : w₀.session t = x.session t := congrArg SourceRec.session (same t)
  have mine : (w₀.grant s d).session s = some (z.holding (setAdd z.granted d)) := by
    rw [Part.grant_session, if_pos rfl, session, opened]
    rfl
  have differs : ((w₀.grant s d).session s).map Session.echo ≠ (x.session s).map Session.echo := by
    rw [mine, opened]
    intro same
    exact setAdd_ne _ _ out (congrArg SessionEcho.granted (Option.some.inj same))
  have others (t : Source) (ne : t ≠ s) : (w₀.grant s d).tka.source t = x.tka.source t := by
    refine Eq.trans (Eq.trans (Part.onSource_source ..) (if_neg ne)) ?_
    rw [Part.setDest_source, same]
  refine ⟨?_, ?_, ?_, fun t ne => h.source_same t (others t ne), ?_⟩
  · rw [h.dest]
    exact (w₀.move_dest d (.gain s) d).trans (if_pos ⟨rfl, lt⟩)
  · rw [h.session, mine]; rfl
  · rw [h.source_bump s differs]
    show inc16 ((w₀.grant s d).tka.source s).version = _
    rw [show (w₀.grant s d).tka.source s = _ from w₀.move_source d (.gain s) s, same]
    rfl
  · exact h.changed_one s once member differs fun t ne => congrArg SourceRec.session (others t ne)

/-! ### The arbiter's own steps (R139, R144) -/

/-- The end of a fade: the destination FREE, arbitrated. -/
theorem Part.takeFadeEnd_event (d : Nat) (x : Part) (due : (x.dest d).fadeDue = true) (fading : (x.dest d).state = .fading) :
    Part.TalkEvent x ((x.setDest d .free none).arbitrateFree d) (x.takeFadeEnd d) .arbiter [.foh, .mon, .stg] := by
  have taken : x.takeFadeEnd d = ((x.setDest d .free none).arbitrateFree d).publishAll x.tka .arbiter none :=
    if_pos (by rw [due, fading]; rfl)
  rw [taken]
  refine Part.published x _ .arbiter none (Eq.trans ?_ (x.setDest_sansTalk d .free none))
  unfold Part.arbitrateFree
  split
  · exact Part.move_sansTalk _ d (.gain _)
  · rfl

/-- A destination made FREE leaves sessions and eligibility. -/
theorem Part.candidate_setDest (x : Part) (d : Nat) (st : DestState) (h : Option Source) (k : Nat) (s : Source) (z : Session) :
    (x.setDest d st h).candidate k s z ↔ x.candidate k s z := by
  have session : (x.setDest d st h).session s = x.session s := congrArg SourceRec.session (x.setDest_source d st h s)
  have mask : (x.setDest d st h).maskOf k = x.maskOf k := by
    unfold Part.maskOf
    have cfg : (x.setDest d st h).tka.cfg = x.tka.cfg := (congrArg (fun p => p.tka.cfg) (x.setDest_sansTalk d st h) :)
    rw [cfg]
    unfold Part.mix
    rw [Part.setDest_mixes]
    split
    · rfl
    · split
      · rfl
      · rw [updAt_getD]
        split
        · next e => rw [e.1]; rfl
        · rfl
  have link : (x.setDest d st h).fmu = x.fmu := (congrArg Part.fmu (x.setDest_sansTalk d st h) :)
  unfold Part.candidate Part.eligible
  rw [session, mask, link]

/-- Settles O44: a fade's end frees and arbitrates, and a latched session at its limit closes. -/
theorem talkStepsTaken : Obligations.TalkStepsTaken := by
  refine ⟨fun d s lt dests due fading => ?_, fun src z s dests opened latched due => ?_⟩
  · have event := s.part.takeFadeEnd_event d due fading
    let w₀ := s.part.setDest d .free none
    have len : w₀.tka.dests.length = 17 := by
      show (s.part.setDest d .free none).tka.dests.length = 17
      rw [Part.setDest_dests, updAt_length, dests]
    have at_ (k : Nat) : w₀.dest k = if k = d then ⟨.free, none, false⟩ else s.part.dest k := by
      show (s.part.setDest d .free none).tka.dests.getD k _ = _
      rw [Part.setDest_dests, updAt_getD]
      simp [dests, lt, Part.dest]
    have source (t : Source) : w₀.tka.source t = s.part.tka.source t := s.part.setDest_source d .free none t
    have moved : ∃ m : TalkMove, w₀.arbitrateFree d = w₀.move d m := by
      unfold Part.arbitrateFree
      cases w₀.bestWaiter d with
      | none => exact ⟨.stay, rfl⟩
      | some b => exact ⟨.gain b.1, rfl⟩
    have cfg : (w₀.arbitrateFree d).tka.cfg = s.part.tka.cfg := by
      obtain ⟨m, h⟩ := moved
      rw [h]
      exact (congrArg (fun p => p.tka.cfg) ((w₀.move_sansTalk d m).trans (s.part.setDest_sansTalk d .free none)) :)
    refine ⟨_, rfl, fun k ne => ?_, fun mixes => ?_, fun idle => ?_, fun src z opened waits fits first => ?_⟩
    · obtain ⟨m, h⟩ := moved
      rw [event.dest, show (s.part.setDest d .free none).arbitrateFree d = _ from h, Part.move_dest, if_neg fun h => ne h.1, at_,
        if_neg ne]
    · refine (event.targets cfg d).mpr ?_
      obtain ⟨m, h⟩ := moved
      rw [show (s.part.setDest d .free none).arbitrateFree d = _ from h]
      by_cases stay : m = .stay
      · rw [stay]
        exact s.part.setDest_targetsFollow d .free none lt dests mixes
      · refine w₀.move_targetsFollow d m stay lt len ?_
        show (s.part.setDest d .free none).mxe.mixes.length = 16
        rw [Part.setDest_mixes]
        split
        · exact mixes
        · rw [updAt_length, mixes]
    · have nobody : w₀.bestWaiter d = none := w₀.bestWaiter_none d fun src z h => by
        obtain ⟨opened, waits, fits⟩ := (s.part.candidate_setDest d .free none d src z).mp h
        rw [idle src z opened waits] at fits
        cases fits
      have stands : (s.part.setDest d .free none).arbitrateFree d = w₀ := by
        show w₀.arbitrateFree d = w₀
        unfold Part.arbitrateFree
        rw [nobody]
      rw [stands] at event
      obtain ⟨cmp, ple⟩ := event.quiet fun t => congrArg SourceRec.session (source t)
      have free : w₀.dest d = ⟨.free, none, false⟩ := (at_ d).trans (if_pos rfl)
      show ((s.part.takeFadeEnd d).dest d).state = .free ∧ _
      rw [event.dest, free]
      exact ⟨rfl, rfl, fun src => event.source_same src (source src), cmp, ple⟩
    · have chosen : w₀.bestWaiter d = some (src, z) :=
        w₀.bestWaiter_best d src z ((s.part.candidate_setDest d .free none d src z).mpr ⟨opened, waits, fits⟩) fun t o ne h => by
          obtain ⟨opened', waits', fits'⟩ := (s.part.candidate_setDest d .free none d t o).mp h
          exact first t o ne opened' waits' fits'
      have granted : (s.part.setDest d .free none).arbitrateFree d = w₀.grant src d := by
        show w₀.arbitrateFree d = _
        unfold Part.arbitrateFree
        rw [chosen]
      rw [granted] at event
      have out : z.granted.testBit d = false := by
        unfold Session.waits at waits
        simpa using (Bool.and_eq_true_iff.mp waits).2
      obtain ⟨dest, session, version, others, changed⟩ := event.granted source opened out (by omega) (by decide)
        (by cases src <;> decide)
      have told : (s.part.takeFadeEnd d).talkTold s.part .arbiter [.foh, .mon, .stg] =
          (s.part.takeFadeEnd d).talkTold s.part .arbiter [src] := by
        unfold Part.talkTold
        rw [changed, Part.talkChanged_self _ _ _ _ changed]
      show ((s.part.takeFadeEnd d).dest d).state = .held ∧ _
      rw [dest]
      refine ⟨rfl, rfl, session, version, others, event.told.trans told, event.lane.trans ?_⟩
      unfold Part.talkEchoes
      rw [changed]
      rfl
  · have limit : s.part.takeLatchedLimit src = s.part.closeSession src .limit .limit := by
      unfold Part.takeLatchedLimit
      rw [opened]
      exact if_pos (by rw [latched, due]; rfl)
    have event := s.part.closeSession_event src .limit .limit z opened
    obtain ⟨mine, dest, targets⟩ := s.part.closeSession_after src .limit .limit z opened dests
    exact ⟨_, next_part s limit, mine, dest, event.openCounter, event.cfg, targets, event.told, event.lane⟩

end Sys2Proof.Machine
end

section
/-!
PROOFS. Updates at the STAGE end (R74, R172): a request of the host refused or carried out, and a record of the lane applied.
-/

namespace Sys2Proof.Machine

theorem Part.locked_stage (u : Update) (x : Part) (stage : x.dsc.role = .stage) : x.locked (.update u) = x.updateLocked u := by
  unfold Part.locked
  rw [stage]
  rfl

/-- An update of the STAGE host with an identifier out of range. -/
theorem exec_update_range (tag : Nat) (u : Update) (s : State) (ready : s.part.PortReady) (stage : s.part.dsc.role = .stage)
    (present : absentAt .stage (.update u) = false) (off : u.identOk .stage = false) :
    exec (requestRow ⟨tag, .update u⟩) s = .next { s with part := s.part.answer tag .range } :=
  exec_request_refused tag (.update u) .range s ready (s.part.refusal_range _ present (by rw [stage]; exact off))

/-- An update of the STAGE host that would change a locked class. -/
theorem exec_update_locked (tag : Nat) (u : Update) (s : State) (ready : s.part.PortReady) (stage : s.part.dsc.role = .stage)
    (present : absentAt .stage (.update u) = false) (fits : u.identOk .stage = true)
    (available : s.part.unavailable (.update u.clamp) = false) (locked : s.part.updateLocked u.clamp = true) :
    exec (requestRow ⟨tag, .update u⟩) s = .next { s with part := s.part.answer tag .locked } := by
  refine exec_request_refused tag (.update u) .locked s ready ?_
  unfold Part.refusal
  rw [stage, present]
  show (if (!u.identOk .stage) = true then _ else if s.part.unavailable (.update u.clamp) = true then _
    else if s.part.locked (.update u.clamp) = true then _ else _) = _
  rw [fits, available, s.part.locked_stage _ stage, locked]
  rfl

/-- An update of the STAGE host that passes its checks. -/
theorem exec_update_done (tag : Nat) (u : Update) (s : State) (ready : s.part.PortReady) (stage : s.part.dsc.role = .stage)
    (present : absentAt .stage (.update u) = false) (fits : u.identOk .stage = true)
    (available : s.part.unavailable (.update u.clamp) = false) (free : s.part.updateLocked u.clamp = false) :
    exec (requestRow ⟨tag, .update u⟩) s = .next { s with part :=
      (Part.answer tag (s.part.doUpdate .host .host u.clamp).1 (s.part.doUpdate .host .host u.clamp).2) } := by
  refine (exec_request_act tag (.update u) s ready (s.part.refusal_none _ present (by rw [stage]; exact fits) available
    ((s.part.locked_stage _ stage).trans free))).trans (next_part s ?_)
  show s.part.askUpdate tag u.clamp = _
  unfold Part.askUpdate
  rw [stage]

/-- A record of the lane that no block refuses. -/
theorem Part.applyMsg_done (u : Update) (x y : Part) (code : ReplyCode) (h : x.doUpdate .lane .lane u.clamp = (code, y))
    (full : code ≠ .full) (state : code ≠ .state) : x.applyMsg (.update u) = y := by
  show x.applyUpdate u = y
  unfold Part.applyUpdate
  rw [h]
  cases code <;> first | rfl | exact absurd rfl full | exact absurd rfl state

end Sys2Proof.Machine
end

section
/-!
PROOFS. Opening, amending and closing a session (R135 to R138, R142, R143): each requested destination is judged on the tables before the
event, and the event is published.
-/

namespace Sys2Proof.Machine

/-! ### What the moves leave -/

theorem Part.move_maskOf (x : Part) (d : Nat) (m : TalkMove) (k : Nat) : (x.move d m).maskOf k = x.maskOf k := by
  have cfg : (x.move d m).tka.cfg = x.tka.cfg := (congrArg (fun p => p.tka.cfg) (x.move_sansTalk d m) :)
  unfold Part.maskOf
  rw [cfg, Part.move_mix]
  split
  · rfl
  · split
    · next e => rw [e.1]; cases m <;> rfl
    · rfl

theorem Part.move_eligible (x : Part) (d : Nat) (m : TalkMove) (z : Session) (k : Nat) :
    (x.move d m).eligible z k = x.eligible z k := by
  have fmu : (x.move d m).fmu = x.fmu := (congrArg Part.fmu (x.move_sansTalk d m) :)
  unfold Part.eligible
  rw [Part.move_maskOf, fmu]

theorem Part.moves_eligible (x : Part) (ms : Nat → TalkMove) (l : List Nat) (z : Session) (k : Nat) :
    (x.moves ms l).eligible z k = x.eligible z k :=
  foldl_keeps (fun y : Part => y.eligible z k) _ (fun y d => y.move_eligible d (ms d) z k) l x

/-- Eligibility reads the priority and the requested set of a session. -/
theorem Part.eligible_congr (x : Part) (z z' : Session) (d : Nat) (pri : z.priority = z'.priority)
    (req : z.requested = z'.requested) : x.eligible z d = x.eligible z' d := by
  unfold Part.eligible
  rw [pri, req]

theorem Part.eligible_iff (x : Part) (z : Session) (d : Nat) :
    x.eligible z d = true ↔ z.requested.testBit d = true ∧ (x.maskOf d < z.priority ∨ z.priority = 7) ∧
      (d = 16 → x.fmu.link = .protect ∨ x.fmu.link = .exposed) := by
  have up : x.fmu.link.up = true ↔ x.fmu.link = .protect ∨ x.fmu.link = .exposed := by
    cases x.fmu.link <;> decide
  unfold Part.eligible
  simp only [Bool.and_eq_true, Bool.or_eq_true, decide_eq_true_eq, beq_iff_eq, bne_iff_ne, up]
  tauto

/-! ### A requested destination judged (Table 7-3) -/

/-- The holder's session has a lower priority. -/
def Part.outranks (x : Part) (z : Session) (d : Nat) : Bool :=
  match (x.dest d).holder with
  | some h =>
    match x.session h with
    | some o => decide (o.priority < z.priority)
    | none => false
  | none => false

/-- What an open or an amend does with one destination. -/
def Part.openMove (x : Part) (s : Source) (z : Session) (d : Nat) : TalkMove :=
  match (x.dest d).state with
  | .free => if x.eligible z d then .gain s else .stay
  | .fading => .stay
  | .held => if (x.dest d).holder = some s then .stay else if x.outranks z d && x.eligible z d then .fade else .stay

theorem Part.eligible_requested (x : Part) (z : Session) (d : Nat) (h : z.requested.testBit d = false) : x.eligible z d = false := by
  unfold Part.eligible
  rw [h]
  rfl

theorem Part.arbitrate_move (x : Part) (s : Source) (z : Session) (d : Nat) (opened : x.session s = some z) :
    x.arbitrate s d = x.move d (x.openMove s z d) := by
  unfold Part.arbitrate Part.openMove
  rw [opened]
  dsimp only
  cases req : z.requested.testBit d with
  | false =>
    rw [x.eligible_requested z d req]
    simp only [Bool.and_false, Bool.false_eq_true, if_false, ite_self, Bool.not_false, if_true]
    cases (x.dest d).state <;> rfl
  | true =>
    rw [if_neg (by decide)]
    cases (x.dest d).state with
    | free => dsimp only; split <;> rfl
    | fading => rfl
    | held =>
      dsimp only
      split
      · rfl
      · show (if (x.outranks z d && x.eligible z d) = true then x.lose d else x) =
          x.move d (if (x.outranks z d && x.eligible z d) = true then .fade else .stay)
        split <;> rfl

/-- The judgement reads the destination, the priorities of the sessions, and eligibility. -/
theorem Part.openMove_congr (x y : Part) (s : Source) (z z' : Session) (d : Nat) (dest : x.dest d = y.dest d)
    (ranks : ∀ h, h ≠ s → (x.session h).map Session.priority = (y.session h).map Session.priority)
    (pri : z.priority = z'.priority) (fits : x.eligible z d = y.eligible z' d) : x.openMove s z d = y.openMove s z' d := by
  have outranks (ne : (y.dest d).holder ≠ some s) : x.outranks z d = y.outranks z' d := by
    unfold Part.outranks
    rw [dest, pri]
    cases holder : (y.dest d).holder with
    | none => rfl
    | some h =>
      have := ranks h fun e => ne (by rw [holder, e])
      dsimp only
      cases hx : x.session h with
      | none => cases hy : y.session h with
        | none => rfl
        | some o' => rw [hx, hy] at this; cases this
      | some o => cases hy : y.session h with
        | none => rw [hx, hy] at this; cases this
        | some o' =>
          rw [hx, hy] at this
          exact congrArg (fun k => decide (k < z'.priority)) (Option.some.inj this)
  unfold Part.openMove
  rw [dest, fits]
  split
  · rfl
  · rfl
  · split
    · rfl
    · next ne => rw [outranks ne]

theorem Part.arbitrate_moves (s : Source) (z : Session) (x : Part) (opened : x.session s = some z) :
    destNums.foldl (Part.arbitrate s) x = x.moves (x.openMove s z) destNums := by
  refine foldl_moves _ x _ _ fun l d sub => ?_
  obtain ⟨before, -, apart⟩ := List.nodup_append.mp (destNums_nodup.sublist sub.sublist)
  have out : d ∉ l := fun h => apart d h d (by simp) rfl
  have mine : (x.moves (x.openMove s z) l).session s = some (z.holding (grantedAfter x (x.openMove s z) s l z.granted)) := by
    rw [x.moves_session _ l before, opened]
    rfl
  rw [Part.arbitrate_move _ s _ d mine]
  refine congrArg _ (Part.openMove_congr _ _ _ _ _ _ ?_ (fun h _ => ?_) rfl ?_)
  · rw [x.moves_dest _ l before, if_neg fun h => out h.1]
  · rw [x.moves_session _ l before]
    cases x.session h <;> rfl
  · rw [Part.moves_eligible]
    exact x.eligible_congr _ _ d rfl rfl

section
variable (x : Part) (s : Source) (z : Session) (d : Nat)

theorem Part.openMove_free (free : (x.dest d).state = .free) :
    x.openMove s z d = if x.eligible z d = true then .gain s else .stay := by
  unfold Part.openMove
  rw [free]

theorem Part.openMove_fading (fading : (x.dest d).state = .fading) : x.openMove s z d = .stay := by
  unfold Part.openMove
  rw [fading]

theorem Part.openMove_mine (held : (x.dest d).state = .held) (mine : (x.dest d).holder = some s) : x.openMove s z d = .stay := by
  unfold Part.openMove
  rw [held, mine]
  exact if_pos rfl

theorem Part.openMove_held (h : Source) (o : Session) (held : (x.dest d).state = .held) (holder : (x.dest d).holder = some h)
    (ne : h ≠ s) (opened : x.session h = some o) :
    x.openMove s z d = if o.priority < z.priority ∧ x.eligible z d = true then .fade else .stay := by
  have ranks : x.outranks z d = decide (o.priority < z.priority) := by
    unfold Part.outranks
    rw [holder]
    dsimp only
    rw [opened]
  unfold Part.openMove
  rw [held, holder, ranks]
  dsimp only
  rw [if_neg fun e => ne (Option.some.inj e)]
  simp

/-- The opener's granted set at a destination: what it was, and the FREE destinations it is eligible for. -/
theorem Part.openMove_bits (n : Nat) :
    ((x.openMove s z d).bits d (x.dest d).holder s n).testBit d =
      (n.testBit d || decide ((x.dest d).state = .free ∧ x.eligible z d = true)) := by
  cases state : (x.dest d).state with
  | free =>
    rw [x.openMove_free s z d state]
    split
    · next fits => simp [TalkMove.bits, testBit_setAdd, fits]
    · next unfit => simp [TalkMove.bits, unfit]
  | fading =>
    rw [x.openMove_fading s z d state]
    simp [TalkMove.bits]
  | held =>
    unfold Part.openMove
    rw [state]
    dsimp only
    split
    · simp [TalkMove.bits]
    · next ne =>
      split
      · simp [TalkMove.bits, ne]
      · simp [TalkMove.bits]

end

/-! ### An open and an amend -/

/-- A part with the next open order taken. -/
theorem Part.nextOrder_source (x : Part) (s : Source) : x.nextOrder.tka.source s = x.tka.source s := by cases s <;> rfl

/-- Publishing reads the sessions before the event alone. -/
theorem Part.publishAll_congr (x : Part) (before before' : Tka) (cause : TalkCause) (opener : Option Source)
    (same : ∀ s, before.source s = before'.source s) :
    x.publishAll before cause opener = x.publishAll before' cause opener := by
  unfold Part.publishAll
  refine congrArg (fun f => List.foldl f x _) (funext fun y => funext fun s => ?_)
  unfold Part.publish
  rw [same]

/-- What is told depends on the sessions and the port before the event. -/
theorem Part.talkTold_congr (y old old' : Part) (cause : TalkCause) (order : List Source) (cmp : old.cmp = old'.cmp)
    (same : ∀ s, old.session s = old'.session s) :
    y.talkTold old cause order = y.talkTold old' cause order ∧ y.talkEchoes old order = y.talkEchoes old' order := by
  have changed : y.talkChanged old order = y.talkChanged old' order := by
    unfold Part.talkChanged
    simp only [same]
  refine ⟨?_, ?_⟩
  · unfold Part.talkTold
    rw [changed, cmp]
    simp only [same]
  · unfold Part.talkEchoes
    rw [changed]

/-- The tables an open or an amend begins from: the next open order taken, and the session's new record. -/
def Part.opening (x : Part) (s : Source) (z : Session) : Part :=
  x.nextOrder.onSource s fun r => { r with session := some z }

theorem Part.opening_sansTalk (x : Part) (s : Source) (z : Session) : (x.opening s z).sansTalk = x.nextOrder.sansTalk :=
  Part.onSource_sansTalk ..

theorem Part.opening_dest (x : Part) (s : Source) (z : Session) (d : Nat) : (x.opening s z).dest d = x.dest d := by
  cases s <;> rfl

theorem Part.opening_lengths (x : Part) (s : Source) (z : Session) :
    (x.opening s z).tka.dests = x.tka.dests ∧ (x.opening s z).mxe.mixes = x.mxe.mixes := by
  cases s <;> exact ⟨rfl, rfl⟩

theorem Part.opening_source (x : Part) (s : Source) (z : Session) (t : Source) :
    (x.opening s z).tka.source t = if t = s then { x.tka.source t with session := some z } else x.tka.source t := by
  refine (Part.onSource_source ..).trans ?_
  rw [Part.nextOrder_source]

theorem Part.opening_session (x : Part) (s : Source) (z : Session) (t : Source) :
    (x.opening s z).session t = if t = s then some z else x.session t := by
  refine (congrArg SourceRec.session (x.opening_source s z t)).trans ?_
  split <;> rfl

theorem Part.opening_eligible (x : Part) (s : Source) (z o : Session) (d : Nat) :
    (x.opening s z).eligible o d = x.eligible o d := by
  cases s <;> rfl

/-- An open: the sources published are those that differ from before it. -/
theorem Part.talkOpen_event (s : Source) (pri : Nat) (latched : Bool) (req : Nat) (cause : TalkCause) (x : Part)
    (none : x.session s = none) :
    let z : Session := ⟨pri, latched, req, 0, inc16 x.tka.openCounter, 0, false⟩
    let y := x.opening s z
    Part.TalkEvent x.nextOrder (y.moves (y.openMove s z) destNums) (x.talkOpen s pri latched req cause) cause
      (publishOrder (some s)) := by
  intro z y
  have opens : x.talkOpen s pri latched req cause =
      (y.moves (y.openMove s z) destNums).publishAll x.nextOrder.tka cause (some s) := by
    have mine : y.session s = some z := by rw [x.opening_session, if_pos rfl]
    rw [Part.publishAll_congr _ x.nextOrder.tka x.tka _ _ x.nextOrder_source, ← Part.arbitrate_moves s z y mine]
    unfold Part.talkOpen
    rw [none]
    rfl
  rw [opens]
  exact Part.published x.nextOrder _ cause (some s) ((Part.moves_sansTalk ..).trans (x.opening_sansTalk s z))

/-- An amend fades what its session may no longer hold. -/
def Part.releaseMove (x : Part) (z : Session) (d : Nat) : TalkMove :=
  if z.granted.testBit d && !x.eligible z d then .fade else .stay

theorem Part.releaseOne_moves (s : Source) (z : Session) (x : Part) (opened : x.session s = some z) :
    destNums.foldl (Part.releaseOne s) x = x.moves (x.releaseMove z) destNums := by
  refine foldl_moves _ x _ _ fun l d sub => ?_
  have once := destNums_nodup.sublist sub.sublist
  obtain ⟨before, -, apart⟩ := List.nodup_append.mp once
  have out : d ∉ l := fun h => apart d h d (by simp) rfl
  have bit := testBit_grantedAfter x (x.releaseMove z) s l before z.granted d
  rw [if_neg out] at bit
  unfold Part.releaseOne
  rw [x.moves_session _ l before s, opened]
  show (if ((grantedAfter x (x.releaseMove z) s l z.granted).testBit d && !(x.moves (x.releaseMove z) l).eligible _ d) = true
    then _ else _) = _
  rw [bit, Part.moves_eligible, x.eligible_congr (z.holding (grantedAfter x (x.releaseMove z) s l z.granted)) z d rfl rfl,
    Part.releaseMove]
  split <;> rfl

/-- The tables of an amend once the session was judged on what it holds. -/
def Part.released (x : Part) (s : Source) (z : Session) : Part :=
  (x.opening s z).moves ((x.opening s z).releaseMove z) destNums

/-- The session then. -/
def Part.releasedSession (x : Part) (s : Source) (z : Session) : Session :=
  z.holding (grantedAfter (x.opening s z) ((x.opening s z).releaseMove z) s destNums z.granted)

/-- The session as an amend rewrites it. -/
def Session.amend (pri : Nat) (latched : Bool) (req order : Nat) (old : Session) : Session :=
  ⟨pri, latched, req, old.granted, order, 0, false⟩

theorem Part.talkAmend_event (s : Source) (pri : Nat) (latched : Bool) (req : Nat) (cause : TalkCause) (x : Part) (old : Session)
    (opened : x.session s = some old) :
    let z := old.amend pri latched req (inc16 x.tka.openCounter)
    let v := x.released s z
    Part.TalkEvent x.nextOrder (v.moves (v.openMove s (x.releasedSession s z)) destNums) (x.talkOpen s pri latched req cause) cause
      (publishOrder (some s)) := by
  intro z v
  have opens : x.talkOpen s pri latched req cause =
      (v.moves (v.openMove s (x.releasedSession s z)) destNums).publishAll x.nextOrder.tka cause (some s) := by
    have mine : (x.opening s z).session s = some z := by rw [x.opening_session, if_pos rfl]
    have kept : v.session s = some (x.releasedSession s z) := by
      refine ((x.opening s z).moves_session _ destNums destNums_nodup s).trans ?_
      rw [mine]
      rfl
    have began : (x.nextOrder.onSession s fun r => ({ r with
        priority := pri, latched := latched, requested := req, order := x.nextOrder.tka.openCounter, latchTimer := 0, latchDue := false } : Session)) =
        x.opening s z := by
      unfold Part.onSession Part.opening
      cases s with
      | foh =>
        have : x.tka.foh.session = some old := opened
        simp only [Part.onSource, Tka.onSource, Part.nextOrder, this]; rfl
      | mon =>
        have : x.tka.mon.session = some old := opened
        simp only [Part.onSource, Tka.onSource, Part.nextOrder, this]; rfl
      | stg =>
        have : x.tka.stg.session = some old := opened
        simp only [Part.onSource, Tka.onSource, Part.nextOrder, this]; rfl
    rw [Part.publishAll_congr _ x.nextOrder.tka x.tka _ _ x.nextOrder_source, ← Part.arbitrate_moves s _ v kept]
    show Part.talkOpen _ _ _ _ _ _ = (destNums.foldl (Part.arbitrate s) ((x.opening s z).moves _ destNums)).publishAll _ _ _
    rw [← Part.releaseOne_moves s z _ mine, ← began]
    unfold Part.talkOpen
    rw [if_pos (by rw [opened]; rfl)]
    rfl
  rw [opens]
  exact Part.published x.nextOrder _ cause (some s)
    ((Part.moves_sansTalk ..).trans ((Part.moves_sansTalk ..).trans (x.opening_sansTalk s z)))

/-- The priority a request names, clamped. -/
theorem openTalk_clamp (n pri mode set : Nat) :
    (Update.openTalk n pri mode set).clamp = .openTalk n (clampNat 1 7 pri) (clampFlag mode) set := rfl

theorem flagOf_clampFlag (n : Nat) : flagOf (clampFlag n) = decide (n ≠ 0) := by
  unfold clampFlag
  split
  · next e => subst e; rfl
  · next ne => simp [flagOf, ne]

theorem Part.openRefused_eq (x : Part) (s : Source) (op : x.dsc.opState = .operate)
    (up : s = .foh → x.fmu.link = .protect ∨ x.fmu.link = .exposed) : x.openRefused s = false := by
  unfold Part.openRefused LinkState.up
  rw [op]
  cases s with
  | foh => rcases up rfl with h | h <;> rw [h] <;> rfl
  | mon => rfl
  | stg => rfl

/-- The sets a request may name. -/
theorem setOk_iff (set : Nat) : setOk set = true ↔ set < 131072 := by
  unfold setOk
  simp

theorem sourceOk_stage (n : Nat) : sourceOk .stage n = decide (n = 1 ∨ n = 2) := by
  rcases n with _ | _ | _ | n <;> simp [sourceOk, sourceOf]

theorem Part.doUpdate_openTalk (cc : ChangeCause) (tc : TalkCause) (n pri mode set : Nat) (src : Source) (x : Part)
    (source : sourceOf n = some src) : x.doUpdate cc tc (.openTalk n pri mode set) =
      if x.openRefused src = true then (.state, x) else (.ok, x.talkOpen src pri (flagOf mode) set tc) := by
  show (match sourceOf n with | some _ => _ | none => _ : ReplyCode × Part) = _
  rw [source]

theorem Part.doUpdate_closeTalk (cc : ChangeCause) (tc : TalkCause) (n : Nat) (src : Source) (x : Part)
    (source : sourceOf n = some src) : x.doUpdate cc tc (.closeTalk n) =
      if (x.session src).isSome = true then (.ok, x.closeSession src .close tc) else (.already, x) := by
  show (match sourceOf n with | some _ => _ | none => _ : ReplyCode × Part) = _
  rw [source]

/-- OPEN_TALK of a source the STAGE host may name, carried out. -/
theorem exec_openTalk (tag n pri mode set : Nat) (src : Source) (s : State) (ready : s.part.PortReady)
    (stage : s.part.dsc.role = .stage) (names : n = 1 ∧ src = .mon ∨ n = 2 ∧ src = .stg) (fits : set < 131072) :
    (s.part.dsc.opState ≠ .operate → exec (.openTalk tag n pri mode set) s = .next { s with part := s.part.answer tag .state }) ∧
    (s.part.dsc.opState = .operate → exec (.openTalk tag n pri mode set) s = .next { s with part :=
      ((s.part.talkOpen src (clampNat 1 7 pri) (decide (mode ≠ 0)) set .host).answer tag .ok) }) := by
  have source : sourceOf n = some src := by rcases names with ⟨rfl, rfl⟩ | ⟨rfl, rfl⟩ <;> rfl
  have other : src ≠ .foh := by rcases names with ⟨-, rfl⟩ | ⟨-, rfl⟩ <;> decide
  have ident : (Update.openTalk n pri mode set).identOk .stage = true := by
    show (sourceOk .stage n && setOk set) = true
    rw [sourceOk_stage, (setOk_iff set).mpr fits]
    rcases names with ⟨rfl, -⟩ | ⟨rfl, -⟩ <;> rfl
  have unavailable : s.part.unavailable (.update (Update.openTalk n pri mode set).clamp) = s.part.openRefused src := by
    show (s.part.dsc.role == .stage && s.part.talkUnavailable n) = _
    unfold Part.talkUnavailable
    rw [stage, source]
    rfl
  refine ⟨fun op => ?_, fun op => ?_⟩
  · refine exec_request_refused tag (.update (.openTalk n pri mode set)) .state s ready ?_
    have refused : s.part.openRefused src = true := by
      unfold Part.openRefused
      rw [bne_iff_ne.mpr op]
      rfl
    unfold Part.refusal
    rw [stage]
    show (if (!(Update.openTalk n pri mode set).identOk .stage) = true then _ else
      if s.part.unavailable (.update (Update.openTalk n pri mode set).clamp) = true then _ else _) = _
    rw [ident, unavailable, refused]
    rfl
  · have open_ := s.part.openRefused_eq src op fun e => absurd e other
    refine (exec_update_done tag (.openTalk n pri mode set) s ready stage rfl ident (unavailable.trans open_) rfl).trans
      (next_part s ?_)
    have done : s.part.doUpdate .host .host (.openTalk n (clampNat 1 7 pri) (clampFlag mode) set) =
        (.ok, s.part.talkOpen src (clampNat 1 7 pri) (decide (mode ≠ 0)) set .host) := by
      rw [Part.doUpdate_openTalk _ _ _ _ _ _ src _ source, if_neg (by rw [open_]; decide), flagOf_clampFlag]
    rw [openTalk_clamp, done]

/-- An OPEN_TALK record of FOH, applied. -/
theorem Part.applyMsg_openTalk (pri mode set : Nat) (x : Part) (op : x.dsc.opState = .operate)
    (up : x.fmu.link = .protect ∨ x.fmu.link = .exposed) :
    x.applyMsg (.update (.openTalk 0 pri mode set)) = x.talkOpen .foh (clampNat 1 7 pri) (decide (mode ≠ 0)) set .lane := by
  refine Part.applyMsg_done _ _ _ .ok ?_ (by decide) (by decide)
  rw [openTalk_clamp, Part.doUpdate_openTalk _ _ _ _ _ _ .foh _ rfl, if_neg (by rw [x.openRefused_eq .foh op fun _ => up]; decide), flagOf_clampFlag]

/-- What an open makes of one destination. -/
theorem Part.openMove_dest (x : Part) (s : Source) (z : Session) (d : Nat) :
    ((x.dest d).state = .free → (x.eligible z d = true → (x.openMove s z d).dest (x.dest d) = ⟨.held, some s, false⟩) ∧
      (x.eligible z d = false → (x.openMove s z d).dest (x.dest d) = x.dest d)) ∧
    ((x.dest d).state = .fading → (x.openMove s z d).dest (x.dest d) = x.dest d) ∧
    (∀ h o, (x.dest d).state = .held → (x.dest d).holder = some h → h ≠ s → x.session h = some o →
      (x.openMove s z d).dest (x.dest d) =
        if o.priority < z.priority ∧ x.eligible z d = true then ⟨.fading, some h, false⟩ else x.dest d) := by
  refine ⟨fun free => ⟨fun fits => ?_, fun unfit => ?_⟩, fun fading => ?_, fun h o held holder ne opened => ?_⟩
  · rw [x.openMove_free s z d free, if_pos fits]; rfl
  · rw [x.openMove_free s z d free, if_neg (by simp [unfit])]; rfl
  · rw [x.openMove_fading s z d fading]; rfl
  · rw [x.openMove_held s z d h o held holder ne opened]
    split
    · rw [← holder]; rfl
    · rfl

/-- CLOSE_TALK of a source the STAGE host may name. -/
theorem exec_closeTalk (tag n : Nat) (src : Source) (s : State) (ready : s.part.PortReady) (stage : s.part.dsc.role = .stage)
    (names : n = 1 ∧ src = .mon ∨ n = 2 ∧ src = .stg) :
    exec (.closeTalk tag n) s = .next { s with part := if (s.part.session src).isSome = true
      then (s.part.closeSession src .close .host).answer tag .ok else s.part.answer tag .already } := by
  have source : sourceOf n = some src := by rcases names with ⟨rfl, rfl⟩ | ⟨rfl, rfl⟩ <;> rfl
  have ident : (Update.closeTalk n).identOk .stage = true := by
    show sourceOk .stage n = true
    rw [sourceOk_stage]
    rcases names with ⟨rfl, -⟩ | ⟨rfl, -⟩ <;> rfl
  refine (exec_update_done tag (.closeTalk n) s ready stage rfl ident rfl rfl).trans (next_part s ?_)
  have done : s.part.doUpdate .host .host (.closeTalk n) = if (s.part.session src).isSome = true
      then (.ok, s.part.closeSession src .close .host) else (.already, s.part) :=
    Part.doUpdate_closeTalk _ _ n src _ source
  rw [show (Update.closeTalk n).clamp = .closeTalk n from rfl, done]
  split <;> rfl

/-- A session closed by its host or by the lane. -/
theorem Part.applyMsg_closeTalk (x : Part) : x.applyMsg (.update (.closeTalk 0)) = x.closeSession .foh .close .lane := by
  cases session : x.session .foh with
  | none =>
    rw [x.closeSession_none _ _ _ session]
    refine Part.applyMsg_done _ _ _ .already ?_ (by decide) (by decide)
    refine (Part.doUpdate_closeTalk _ _ 0 .foh x rfl).trans ?_
    rw [session]
    rfl
  | some z =>
    refine Part.applyMsg_done _ _ _ .ok ?_ (by decide) (by decide)
    refine (Part.doUpdate_closeTalk _ _ 0 .foh x rfl).trans ?_
    rw [session]
    rfl

/-- What an event that began with the next open order tells. -/
theorem Part.TalkEvent.told_ordered {x w y : Part} {cause : TalkCause} {order : List Source}
    (h : Part.TalkEvent x.nextOrder w y cause order) :
    y.cmp = y.talkTold x cause order ∧ y.ple = y.laneAfter x (y.talkEchoes x order) := by
  obtain ⟨told, echoes⟩ := Part.talkTold_congr y x.nextOrder x cause order rfl fun s => congrArg SourceRec.session (x.nextOrder_source s)
  refine ⟨h.told.trans told, h.lane.trans ?_⟩
  rw [echoes]
  exact Part.laneAfter_congr _ _ _ _ _ rfl fun _ _ => rfl

/-- A destination that stays keeps its targets. -/
theorem Part.moves_targetsFollow_stay (x : Part) (ms : Nat → TalkMove) (l : List Nat) (k : Nat) (stay : ms k = .stay) :
    (x.moves ms l).TargetsFollow k ↔ x.TargetsFollow k := by
  induction l using List.reverseRecOn with
  | nil => exact Iff.rfl
  | append_singleton l d ih =>
    rw [Part.moves_concat]
    by_cases e : k = d
    · rw [← e, stay]
      exact ih
    · exact (Part.move_targetsFollow_other _ d k _ e).trans ih

/-- A version that rises exactly when what the echo carries of the session differs. -/
theorem Part.TalkEvent.version {x w y : Part} {cause : TalkCause} {order : List Source} (h : Part.TalkEvent x w y cause order)
    (s : Source) (old new : Session) (before : x.session s = some old) (after : w.session s = some new)
    (same : (w.tka.source s).version = (x.tka.source s).version) :
    (new.echo = old.echo → (y.tka.source s).version = (x.tka.source s).version) ∧
    (new.echo ≠ old.echo → (y.tka.source s).version = ((x.tka.source s).version + 1) % 65536) := by
  have differs : w.talkDiffers x.tka s = (new.echo != old.echo) := by
    show ((w.session s).map Session.echo != (x.session s).map Session.echo) = _
    rw [before, after]
    rfl
  rw [h.source, differs]
  refine ⟨fun e => ?_, fun ne => ?_⟩
  · rw [if_neg (by simp [e]), same]
  · rw [if_pos (by simpa using ne)]
    show inc16 (w.tka.source s).version = _
    rw [same]
    rfl

/-! ### An open, as a whole -/

/-- A destination that a session with priority `p` and requested set `set` asks for and is eligible for (R134). -/
@[reducible] def Part.wants (x : Part) (p set d : Nat) : Prop :=
  set.testBit d = true ∧ (x.maskOf d < p ∨ p = 7) ∧ (d = 16 → x.fmu.link = .protect ∨ x.fmu.link = .exposed)

theorem Part.eligible_wants (x : Part) (z : Session) (d : Nat) : x.eligible z d = true ↔ x.wants z.priority z.requested d :=
  x.eligible_iff z d

/-- What an open leaves: the session, who holds each destination, the ramps, and what is told (R136). -/
def Part.AfterOpen (old : Part) (src : Source) (p mode set : Nat) (x : Part) (order : List Source) (cause : TalkCause) : Prop :=
  ∃ z : Session, x.session src = some z ∧ z.priority = p ∧ z.latched = decide (mode ≠ 0) ∧ z.requested = set ∧
    z.order = (old.tka.openCounter + 1) % 65536 ∧ x.tka.openCounter = z.order ∧ z.latchTimer = 0 ∧
    (x.tka.source src).version = ((old.tka.source src).version + 1) % 65536 ∧
    (∀ d, d < 17 → (z.granted.testBit d = true ↔ (old.dest d).state = .free ∧ old.wants p set d)) ∧
    (∀ d, d < 17 → (old.dest d).state = .free →
      (old.wants p set d → (x.dest d).state = .held ∧ (x.dest d).holder = some src) ∧
      (¬ old.wants p set d → x.dest d = old.dest d)) ∧
    (∀ d, d < 17 → (old.dest d).state = .fading → x.dest d = old.dest d) ∧
    (∀ d h o, d < 17 → (old.dest d).state = .held → (old.dest d).holder = some h → h ≠ src → old.session h = some o →
      x.dest d = if o.priority < p ∧ old.wants p set d then ⟨.fading, some h, false⟩ else old.dest d) ∧
    (old.mxe.mixes.length = 16 → ∀ d, d < 17 → x.dest d ≠ old.dest d → x.TargetsFollow d) ∧
    x.cmp = x.talkTold old cause order ∧ x.ple = x.laneAfter old (x.talkEchoes old order)

theorem Part.talkOpen_after (x : Part) (src : Source) (p mode set : Nat) (cause : TalkCause) (dests : x.tka.dests.length = 17)
    (absent : x.session src = none) :
    x.AfterOpen src p mode set (x.talkOpen src p (decide (mode ≠ 0)) set cause) (publishOrder (some src)) cause := by
  have event := x.talkOpen_event src p (decide (mode ≠ 0)) set cause absent
  let z : Session := ⟨p, decide (mode ≠ 0), set, 0, inc16 x.tka.openCounter, 0, false⟩
  let y := x.opening src z
  let ms := y.openMove src z
  have event : Part.TalkEvent x.nextOrder (y.moves ms destNums) _ cause _ := event
  generalize x.talkOpen src p (decide (mode ≠ 0)) set cause = after at event ⊢
  have may (d : Nat) : y.eligible z d = true ↔ x.wants p set d := by
    rw [show y.eligible z d = x.eligible z d from x.opening_eligible src z z d]
    exact x.eligible_wants z d
  have mine : y.session src = some z := (x.opening_session src z src).trans (if_pos rfl)
  have len : y.tka.dests.length = 17 := by rw [(x.opening_lengths src z).1, dests]
  have same (d : Nat) : y.dest d = x.dest d := x.opening_dest src z d
  have dest (d : Nat) (lt : d < 17) : after.dest d = (ms d).dest (x.dest d) := by
    rw [event.dest, y.moves_dest _ _ destNums_nodup, if_pos ⟨(mem_destNums d).mpr lt, by omega⟩, same]
  have session : (y.moves ms destNums).session src = some (z.holding (grantedAfter y ms src destNums 0)) := by
    rw [y.moves_session _ _ destNums_nodup, mine]
    rfl
  have version := event.source_bump src (by
    rw [session, show x.nextOrder.session src = none from (congrArg SourceRec.session (x.nextOrder_source src)).trans absent]
    nofun)
  rw [y.moves_source _ _ destNums_nodup] at version
  have mask : (y.moves ms destNums).tka.cfg = x.tka.cfg :=
    (congrArg (fun p => p.tka.cfg) ((y.moves_sansTalk ms destNums).trans (x.opening_sansTalk src z)) :)
  obtain ⟨told, lane⟩ := event.told_ordered
  refine ⟨z.holding (grantedAfter y ms src destNums 0), (event.session src).trans session, rfl, rfl, rfl, rfl, event.openCounter,
    rfl, ?_, fun d lt => ?_, fun d lt free => ?_, fun d lt fading => ?_, fun d h o lt held holder ne opened => ?_,
    fun mixes d lt differs => ?_, told, lane⟩
  · rw [version]
    show inc16 (y.tka.source src).version = _
    rw [show y.tka.source src = _ from x.opening_source src z src, if_pos rfl]
    rfl
  · show (grantedAfter y ms src destNums 0).testBit d = true ↔ _
    rw [testBit_grantedAfter y ms src destNums destNums_nodup 0 d, if_pos ((mem_destNums d).mpr lt), y.openMove_bits src z d 0,
      Nat.zero_testBit, Bool.false_or, decide_eq_true_eq, may, same]
  · have moved := (y.openMove_dest src z d).1 (by rw [same]; exact free)
    refine ⟨fun w => ?_, fun w => ?_⟩
    · rw [dest d lt, ← same, moved.1 ((may d).mpr w)]
      exact ⟨rfl, rfl⟩
    · rw [dest d lt, ← same]
      exact moved.2 (by rw [← Bool.not_eq_true, may]; exact w)
  · rw [dest d lt, ← same]
    exact (y.openMove_dest src z d).2.1 (by rw [same]; exact fading)
  · have moved := (y.openMove_dest src z d).2.2 h o (by rw [same]; exact held) (by rw [same]; exact holder) ne
      ((x.opening_session src z h).trans ((if_neg ne).trans opened))
    rw [dest d lt, ← same]
    refine moved.trans ?_
    simp only [may]
    rfl
  · rw [event.dest, ← same] at differs
    refine (event.targets mask d).mpr ?_
    exact y.moves_targetsFollow_of_ne ms destNums destNums_nodup d differs lt len (by rw [(x.opening_lengths src z).2, mixes])

/-! ### An amend, as a whole -/

/-- A source holds a destination. -/
@[reducible] def Part.holds (x : Part) (s : Source) (d : Nat) : Prop :=
  (x.dest d).state = .held ∧ (x.dest d).holder = some s

/-- In agreeing tables a session's granted set is what its source holds. -/
theorem Part.TalkInv.granted_iff {x : Part} (inv : x.TalkInv) {s : Source} {z : Session} (opened : x.session s = some z) (d : Nat) :
    z.granted.testBit d = true ↔ x.holds s d := by
  obtain ⟨-, -, -, held, granted, -, -⟩ := inv
  refine ⟨fun bit => ?_, fun m => ?_⟩
  · obtain ⟨-, state, holder, -⟩ := granted s z d opened bit
    exact ⟨state, holder⟩
  · obtain ⟨o, ho, bit⟩ := held d s m.1 m.2
    rw [opened] at ho
    cases ho
    exact bit

section
variable {x : Part} {s : Source} {old z : Session}

/-- An amend fades what the source holds and may no longer hold. -/
theorem Part.releaseMove_eq (inv : x.TalkInv) (opened : x.session s = some old) (same : z.granted = old.granted) (d : Nat) :
    (x.opening s z).releaseMove z d =
      if x.holds s d ∧ ¬ x.wants z.priority z.requested d then .fade else .stay := by
  unfold Part.releaseMove
  have both : (z.granted.testBit d && !x.eligible z d) = true ↔ x.holds s d ∧ ¬ x.wants z.priority z.requested d := by
    rw [Bool.and_eq_true, Bool.not_eq_true', ← Bool.not_eq_true, x.eligible_wants, same]
    exact and_congr_left' (inv.granted_iff opened d)
  rw [x.opening_eligible]
  simp only [both]

theorem Part.released_lengths (inv : x.TalkInv) :
    (x.released s z).tka.dests.length = 17 ∧ (x.released s z).mxe.mixes.length = 16 := by
  obtain ⟨dests, mixes, -⟩ := inv
  obtain ⟨sameDests, sameMixes⟩ := x.opening_lengths s z
  obtain ⟨keptDests, keptMixes⟩ := (x.opening s z).moves_lengths ((x.opening s z).releaseMove z) destNums
  exact ⟨by rw [Part.released, keptDests, sameDests, dests], by rw [Part.released, keptMixes, sameMixes, mixes]⟩

theorem Part.released_dest (inv : x.TalkInv) (opened : x.session s = some old) (same : z.granted = old.granted) (d : Nat)
    (lt : d < 17) : (x.released s z).dest d =
      if x.holds s d ∧ ¬ x.wants z.priority z.requested d then ⟨.fading, some s, false⟩ else x.dest d := by
  refine ((x.opening s z).moves_dest _ destNums destNums_nodup d).trans ?_
  rw [if_pos ⟨(mem_destNums d).mpr lt, by rw [(x.opening_lengths s z).1, inv.1]; exact lt⟩, Part.releaseMove_eq inv opened same d,
    x.opening_dest]
  split
  · next h => rw [← h.1.2]; rfl
  · rfl

theorem Part.released_session (h : Source) : (x.released s z).session h =
    (if h = s then some z else x.session h).map fun o =>
      o.holding (grantedAfter (x.opening s z) ((x.opening s z).releaseMove z) h destNums o.granted) := by
  refine ((x.opening s z).moves_session _ destNums destNums_nodup h).trans ?_
  rw [x.opening_session]

theorem Part.released_mine : (x.released s z).session s = some (x.releasedSession s z) := by
  rw [Part.released_session, if_pos rfl]
  rfl

/-- Another source's session keeps its priority. -/
theorem Part.released_other (h : Source) (o : Session) (ne : h ≠ s) (ho : x.session h = some o) :
    ∃ o', (x.released s z).session h = some o' ∧ o'.priority = o.priority := by
  rw [Part.released_session, if_neg ne, ho]
  exact ⟨_, rfl, rfl⟩

theorem Part.released_eligible (d : Nat) :
    (x.released s z).eligible (x.releasedSession s z) d = true ↔ x.wants z.priority z.requested d := by
  rw [Part.released, Part.moves_eligible, x.opening_eligible, x.eligible_wants]
  rfl

/-- What the session still holds. -/
theorem Part.released_granted (inv : x.TalkInv) (opened : x.session s = some old) (same : z.granted = old.granted) (d : Nat)
    (lt : d < 17) :
    (x.releasedSession s z).granted.testBit d = true ↔ x.holds s d ∧ x.wants z.priority z.requested d := by
  show (grantedAfter (x.opening s z) ((x.opening s z).releaseMove z) s destNums z.granted).testBit d = true ↔ _
  rw [testBit_grantedAfter _ _ _ _ destNums_nodup, if_pos ((mem_destNums d).mpr lt), Part.releaseMove_eq inv opened same d,
    x.opening_dest, same]
  split
  · next h => simp [TalkMove.bits, h.1.2, testBit_setDel, h.2]
  · next h =>
    show old.granted.testBit d = true ↔ _
    rw [inv.granted_iff opened]
    tauto

theorem Part.released_targets (inv : x.TalkInv) (d : Nat) (lt : d < 17) (differs : (x.released s z).dest d ≠ x.dest d) :
    (x.released s z).TargetsFollow d := by
  rw [← x.opening_dest s z] at differs
  exact (x.opening s z).moves_targetsFollow_of_ne _ destNums destNums_nodup d differs lt
    (by rw [(x.opening_lengths s z).1, inv.1]) (by rw [(x.opening_lengths s z).2, inv.2.1])

/-- The mix of a destination that is kept stands. -/
theorem Part.released_mix (inv : x.TalkInv) (opened : x.session s = some old) (same : z.granted = old.granted) (d : Nat)
    (keeps : x.wants z.priority z.requested d) : (x.released s z).mix d = x.mix d := by
  refine ((x.opening s z).moves_mix _ destNums destNums_nodup d).trans ?_
  have stay : (x.opening s z).releaseMove z d = .stay :=
    (Part.releaseMove_eq inv opened same d).trans (if_neg fun h => h.2 keeps)
  have mix : (x.opening s z).mix d = x.mix d := by
    unfold Part.mix
    rw [(x.opening_lengths s z).2]
  rw [stay]
  exact (ite_self _).trans mix

theorem Part.released_version : ((x.released s z).tka.source s).version = (x.tka.source s).version := by
  rw [Part.released, Part.moves_source _ _ _ destNums_nodup]
  show ((x.opening s z).tka.source s).version = _
  rw [x.opening_source, if_pos rfl]

/-- What an amend makes of each destination: what the source holds stands or fades, what is FREE is taken, what another holds fades
by priority. -/
theorem Part.amend_dest (inv : x.TalkInv) (opened : x.session s = some old) (same : z.granted = old.granted) (d : Nat)
    (lt : d < 17) :
    let now := ((x.released s z).openMove s (x.releasedSession s z) d).dest ((x.released s z).dest d)
    let wants := x.wants z.priority z.requested d
    (x.holds s d → wants → (x.released s z).openMove s (x.releasedSession s z) d = .stay ∧ now = x.dest d) ∧
    (x.holds s d → ¬ wants → now = ⟨.fading, some s, false⟩) ∧
    ((x.dest d).state = .free → wants → now = ⟨.held, some s, false⟩) ∧
    ((x.dest d).state = .free → ¬ wants → now = x.dest d) ∧
    ((x.dest d).state = .fading → now = x.dest d) ∧
    (∀ h o, (x.dest d).state = .held → (x.dest d).holder = some h → h ≠ s → x.session h = some o →
      (o.priority < z.priority → wants → now = ⟨.fading, some h, false⟩) ∧
      (z.priority ≤ o.priority ∨ ¬ wants → now = x.dest d)) := by
  intro now wants
  have kept := Part.released_dest inv opened same d lt
  have may : (x.released s z).eligible (x.releasedSession s z) d = true ↔ wants := Part.released_eligible d
  have stands (h : ¬ (x.holds s d ∧ ¬ wants)) : (x.released s z).dest d = x.dest d := kept.trans (if_neg h)
  have moved := (x.released s z).openMove_dest s (x.releasedSession s z) d
  refine ⟨fun m w => ?_, fun m w => ?_, fun free w => ?_, fun free w => ?_, fun fading => ?_, fun h o held holder ne ho => ?_⟩
  · have stands := stands fun h => h.2 w
    have stay := (x.released s z).openMove_mine s (x.releasedSession s z) d (by rw [stands]; exact m.1) (by rw [stands]; exact m.2)
    refine ⟨stay, ?_⟩
    show ((x.released s z).openMove s (x.releasedSession s z) d).dest _ = _
    rw [stay, stands]
    rfl
  · have faded := kept.trans (if_pos ⟨m, w⟩)
    show ((x.released s z).openMove s (x.releasedSession s z) d).dest _ = _
    rw [(x.released s z).openMove_fading s _ d (by rw [faded]), faded]
    rfl
  · have stands := stands fun h => by rw [h.1.1] at free; cases free
    exact (moved.1 (by rw [stands]; exact free)).1 (may.mpr w)
  · have stands := stands fun h => by rw [h.1.1] at free; cases free
    exact ((moved.1 (by rw [stands]; exact free)).2 (by rw [← Bool.not_eq_true, may]; exact w)).trans stands
  · have stands := stands fun h => by rw [h.1.1] at fading; cases fading
    exact (moved.2.1 (by rw [stands]; exact fading)).trans stands
  · have stands := stands fun c => ne (Option.some.inj (holder.symm.trans c.1.2))
    obtain ⟨o', ho', pri⟩ := Part.released_other (z := z) h o ne ho
    have moved := moved.2.2 h o' (by rw [stands]; exact held) (by rw [stands]; exact holder) ne ho'
    refine ⟨fun lower w => moved.trans (if_pos ⟨by rw [pri]; exact lower, may.mpr w⟩),
      fun not => (moved.trans (if_neg fun c => ?_)).trans stands⟩
    have lower : o.priority < z.priority := by rw [← pri]; exact c.1
    exact not.elim (fun high => by omega) fun unwanted => unwanted (may.mp c.2)

/-- What the session holds after an amend: of what it held and what was FREE, what it wants. -/
theorem Part.amend_granted (inv : x.TalkInv) (opened : x.session s = some old) (same : z.granted = old.granted) (d : Nat)
    (lt : d < 17) :
    ((x.releasedSession s z).granted.testBit d = true ∨
      ((x.released s z).dest d).state = .free ∧ (x.released s z).eligible (x.releasedSession s z) d = true) ↔
    (x.holds s d ∨ (x.dest d).state = .free) ∧ x.wants z.priority z.requested d := by
  rw [Part.released_granted inv opened same d lt, Part.released_eligible, Part.released_dest inv opened same d lt]
  split
  · next h => simp [h.2]
  · tauto

end

/-- What an amend leaves (R137). -/
def Part.AfterAmend (old : Part) (was : Session) (src : Source) (p mode set : Nat) (x : Part) (order : List Source)
    (cause : TalkCause) : Prop :=
  ∃ z : Session, x.session src = some z ∧ z.priority = p ∧ z.latched = decide (mode ≠ 0) ∧ z.requested = set ∧
    z.order = (old.tka.openCounter + 1) % 65536 ∧ x.tka.openCounter = z.order ∧ z.latchTimer = 0 ∧
    (z.echo = was.echo → (x.tka.source src).version = (old.tka.source src).version) ∧
    (z.echo ≠ was.echo → (x.tka.source src).version = ((old.tka.source src).version + 1) % 65536) ∧
    x.cmp = x.talkTold old cause order ∧ x.ple = x.laneAfter old (x.talkEchoes old order) ∧
    (∀ d, d < 17 → x.dest d ≠ old.dest d → x.TargetsFollow d) ∧
    ∀ d, d < 17 →
      (z.granted.testBit d = true ↔ (old.holds src d ∨ (old.dest d).state = .free) ∧ old.wants p set d) ∧
      (old.holds src d → old.wants p set d → x.dest d = old.dest d ∧ (d < 16 → x.mix d = old.mix d)) ∧
      (old.holds src d → ¬ old.wants p set d → x.dest d = ⟨.fading, some src, false⟩) ∧
      ((old.dest d).state = .free → old.wants p set d → x.dest d = ⟨.held, some src, false⟩) ∧
      ((old.dest d).state = .free → ¬ old.wants p set d → x.dest d = old.dest d) ∧
      ((old.dest d).state = .fading → x.dest d = old.dest d) ∧
      (∀ h o, (old.dest d).state = .held → (old.dest d).holder = some h → h ≠ src → old.session h = some o →
        (o.priority < p → old.wants p set d → x.dest d = ⟨.fading, some h, false⟩) ∧
        (p ≤ o.priority ∨ ¬ old.wants p set d → x.dest d = old.dest d))

theorem Part.talkAmend_after (x : Part) (src : Source) (p mode set : Nat) (cause : TalkCause) (old : Session) (inv : x.TalkInv)
    (opened : x.session src = some old) :
    x.AfterAmend old src p mode set (x.talkOpen src p (decide (mode ≠ 0)) set cause) (publishOrder (some src)) cause := by
  have event := x.talkAmend_event src p (decide (mode ≠ 0)) set cause old opened
  let z := old.amend p (decide (mode ≠ 0)) set (inc16 x.tka.openCounter)
  have same : z.granted = old.granted := rfl
  let v := x.released src z
  let z₁ := x.releasedSession src z
  let ms := v.openMove src z₁
  have event : Part.TalkEvent x.nextOrder (v.moves ms destNums) _ cause _ := event
  generalize x.talkOpen src p (decide (mode ≠ 0)) set cause = after at event ⊢
  obtain ⟨vLen, vMix⟩ := Part.released_lengths (s := src) (z := z) inv
  have dest (d : Nat) (lt : d < 17) : after.dest d = (ms d).dest (v.dest d) := by
    rw [event.dest, v.moves_dest _ _ destNums_nodup, if_pos ⟨(mem_destNums d).mpr lt, by rw [vLen]; exact lt⟩]
  have final : (v.moves ms destNums).session src = some (z₁.holding (grantedAfter v ms src destNums z₁.granted)) := by
    rw [v.moves_session _ _ destNums_nodup, show v.session src = some z₁ from Part.released_mine]
    rfl
  have before : x.nextOrder.session src = some old := (congrArg SourceRec.session (x.nextOrder_source src)).trans opened
  have version := event.version src old _ before final (by
    rw [v.moves_source _ _ destNums_nodup, x.nextOrder_source]
    exact Part.released_version)
  rw [x.nextOrder_source] at version
  have cfg : (v.moves ms destNums).tka.cfg = x.tka.cfg :=
    (congrArg (fun p => p.tka.cfg) ((v.moves_sansTalk ms destNums).trans
      (((x.opening src z).moves_sansTalk ((x.opening src z).releaseMove z) destNums).trans (x.opening_sansTalk src z))) :)
  obtain ⟨told, lane⟩ := event.told_ordered
  refine ⟨z₁.holding (grantedAfter v ms src destNums z₁.granted), (event.session src).trans final, rfl, rfl, rfl, rfl,
    event.openCounter, rfl, version.1, version.2, told, lane, fun d lt differs => ?_, fun d lt => ?_⟩
  · refine (event.targets cfg d).mpr ?_
    by_cases stay : ms d = .stay
    · refine (v.moves_targetsFollow_stay ms destNums d stay).mpr (Part.released_targets inv d lt fun kept => differs ?_)
      rw [dest d lt, stay]
      exact kept
    · exact v.moves_targetsFollow ms destNums destNums_nodup d ((mem_destNums d).mpr lt) stay lt vLen vMix
  · obtain ⟨keeps, fades, takes, leaves, stands, others⟩ := Part.amend_dest inv opened same d lt
    rw [dest d lt]
    refine ⟨?_, fun m w => ⟨(keeps m w).2, fun _ => ?_⟩, fades, takes, leaves, stands, others⟩
    · show (grantedAfter v ms src destNums z₁.granted).testBit d = true ↔ _
      rw [testBit_grantedAfter v ms src destNums destNums_nodup, if_pos ((mem_destNums d).mpr lt), v.openMove_bits src z₁ d,
        Bool.or_eq_true, decide_eq_true_eq]
      exact Part.amend_granted inv opened same d lt
    · rw [event.mix, v.moves_mix _ _ destNums_nodup, show ms d = .stay from (keeps m w).1]
      exact (ite_self _).trans (Part.released_mix inv opened same d w)

/-- Settles O52: an open and an amend judge each destination on the tables before them, and a close fades what was granted. -/
theorem talkOpenedAndClosedAtStage : Obligations.TalkOpenedAndClosedAtStage := by
  refine ⟨?_, ?_, ?_⟩
  · intro tag n pri mode set src s stage dests p up wants after
    have opens (absent : s.part.session src = none) (cause : TalkCause) :
        after (s.part.talkOpen src p (decide (mode ≠ 0)) set cause) (publishOrder (some src)) cause :=
      s.part.talkOpen_after src p mode set cause dests absent
    refine ⟨fun ready off => ?_, fun ready names fits => ⟨fun op => ?_, fun op absent => ?_⟩, fun foh fits op linked absent => ?_⟩
    · refine exec_update_range tag (.openTalk n pri mode set) s ready stage rfl ?_
      show (sourceOk .stage n && setOk set) = false
      rw [sourceOk_stage]
      by_cases fits : set < 131072
      · rw [decide_eq_false (by omega)]; rfl
      · rw [show setOk set = false from by rw [← Bool.not_eq_true, setOk_iff]; exact fits, Bool.and_false]
    · exact (exec_openTalk tag n pri mode set src s ready stage names fits).1 op
    · refine ⟨_, (exec_openTalk tag n pri mode set src s ready stage names fits).2 op, ?_⟩
      have done := opens absent .host
      rcases names with ⟨-, rfl⟩ | ⟨-, rfl⟩ <;> exact done
    · subst foh
      rw [s.part.applyMsg_openTalk pri mode set op linked]
      exact opens absent .lane
  · intro tag n pri mode set src old s stage inv fits op opened p up wants mine after
    have amends (cause : TalkCause) :
        after (s.part.talkOpen src p (decide (mode ≠ 0)) set cause) (publishOrder (some src)) cause :=
      s.part.talkAmend_after src p mode set cause old inv opened
    refine ⟨fun ready names => ?_, fun foh linked => ?_⟩
    · refine ⟨_, (exec_openTalk tag n pri mode set src s ready stage names fits).2 op, ?_⟩
      have done := amends .host
      rcases names with ⟨-, rfl⟩ | ⟨-, rfl⟩ <;> exact done
    · subst foh
      rw [s.part.applyMsg_openTalk pri mode set op linked]
      exact amends .lane
  · intro tag n src s stage dests after
    have closes (z : Session) (cause : TalkCause) (opened : s.part.session src = some z) :
        after z (s.part.closeSession src .close cause) cause := by
      have event := s.part.closeSession_event src .close cause z opened
      obtain ⟨mine, dest, targets⟩ := s.part.closeSession_after src .close cause z opened dests
      exact ⟨mine, dest, targets, event.cfg, event.openCounter, event.chs, event.told, event.lane⟩
    refine ⟨fun ready off => ?_, fun ready names => ⟨fun absent => ?_, fun z opened => ?_⟩, fun foh => ⟨fun absent => ?_, fun z opened => ?_⟩⟩
    · refine exec_update_range tag (.closeTalk n) s ready stage rfl ?_
      show sourceOk .stage n = false
      rw [sourceOk_stage]
      exact decide_eq_false (by omega)
    · refine (exec_closeTalk tag n src s ready stage names).trans (next_part s ?_)
      rw [absent]
      rfl
    · refine ⟨_, (exec_closeTalk tag n src s ready stage names).trans (next_part s ?_), closes z .host opened⟩
      rw [opened]
      rfl
    · rw [Part.applyMsg_closeTalk, Part.closeSession_none _ _ _ _ absent]
    · subst foh
      rw [Part.applyMsg_closeTalk]
      exact closes z .lane opened

end Sys2Proof.Machine
end

section
/-!
PROOFS. The link's hold on talk (R5, R67, R79 to R81, R148): a session closed alone in agreeing tables, LINK_RESET, and the restart of
the far end.
-/

namespace Sys2Proof.Machine

/-! ### A close in agreeing tables -/

/-- The tables agree on who holds what, whoever is eligible. -/
structure Part.TalkAgree (x : Part) : Prop where
  dests : x.tka.dests.length = 17
  mixes : x.mxe.mixes.length = 16
  free : ∀ d, (x.dest d).state = .free ↔ (x.dest d).holder = none
  opened : ∀ d s, x.holds s d → ∃ z, x.session s = some z
  granted : ∀ s z, x.session s = some z → ∀ d, z.granted.testBit d = true ↔ x.holds s d

theorem Part.TalkInv.agree {x : Part} (inv : x.TalkInv) : x.TalkAgree := by
  have ⟨dests, mixes, free, held, _⟩ := inv
  refine ⟨dests, mixes, free, fun d s holds => ?_, fun s z opened d => inv.granted_iff opened d⟩
  obtain ⟨z, opened, -⟩ := held d s holds.1 holds.2
  exact ⟨z, opened⟩

theorem Part.TalkAgree.congr {x y : Part} (agree : x.TalkAgree) (tka : y.tka = x.tka) (mixes : y.mxe.mixes = x.mxe.mixes) :
    y.TalkAgree := by
  have dest (d : Nat) : y.dest d = x.dest d := congrArg (fun t : Tka => t.dests.getD d Dest.powerOn) tka
  have session (s : Source) : y.session s = x.session s := congrArg (fun t : Tka => (t.source s).session) tka
  obtain ⟨h1, h2, h3, h4, h5⟩ := agree
  refine ⟨by rw [tka]; exact h1, by rw [mixes]; exact h2, fun d => by rw [dest]; exact h3 d, fun d s => ?_, fun s z => ?_⟩
  · unfold Part.holds
    rw [dest, session]
    exact h4 d s
  · unfold Part.holds
    simp only [dest, session]
    exact h5 s z

/-- Moves that touch no set of a source leave it. -/
theorem grantedAfter_same (x : Part) (ms : Nat → TalkMove) (t : Source) (l : List Nat) (n : Nat)
    (apart : ∀ d ∈ l, ∀ k, (ms d).bits d (x.dest d).holder t k = k) : grantedAfter x ms t l n = n := by
  induction l using List.reverseRecOn with
  | nil => rfl
  | append_singleton l d ih =>
    rw [grantedAfter_concat, ih fun e he => apart e (by simp [he])]
    exact apart d (by simp) n

/-- A close in agreeing tables touches no other source. -/
theorem Part.shut_other (x : Part) (s : Source) (reason : CloseReason) (z : Session) (agree : x.TalkAgree)
    (opened : x.session s = some z) (t : Source) (ne : t ≠ s) : (x.shut s reason z).tka.source t = x.tka.source t := by
  refine (Part.onSource_source ..).trans ((if_neg ne).trans ?_)
  rw [x.moves_source _ _ destNums_nodup]
  have same (n : Nat) : grantedAfter x (closeMoves z) t destNums n = n := by
    refine grantedAfter_same x _ t _ n fun d _ k => ?_
    unfold closeMoves
    split
    · next bit =>
      unfold TalkMove.bits
      dsimp only
      rw [if_neg]
      rw [((agree.granted s z opened d).mp bit).2]
      exact fun e => ne (Option.some.inj e).symm
    · rfl
  simp only [same]
  have session : (x.session t).map (fun z => z.holding z.granted) = x.session t := by
    cases x.session t <;> rfl
  rw [session]
  rfl

/-- A close in agreeing tables: the source alone is told of, its destinations fade, every other record stands. -/
theorem Part.closeSession_alone (x : Part) (s : Source) (reason : CloseReason) (cause : TalkCause) (z : Session) (agree : x.TalkAgree)
    (opened : x.session s = some z) :
    let y := x.closeSession s reason cause
    (∀ t, t ≠ s → y.tka.source t = x.tka.source t) ∧
    y.talkChanged x [.foh, .mon, .stg] = [s] ∧
    (∀ d, d < 17 → y.dest d = if z.granted.testBit d = true then ⟨.fading, some s, false⟩ else x.dest d) ∧
    (∀ m, m < 16 → y.mix m = if z.granted.testBit m = true then Mix.handDest .fading (x.mix m) else x.mix m) ∧
    (∀ d, d < 17 → y.dest d ≠ x.dest d → y.TargetsFollow d) := by
  have event := x.closeSession_event s reason cause z opened
  have ⟨dests, mixes, _, _, _⟩ := agree
  have dest (d : Nat) (lt : d < 17) : (x.closeSession s reason cause).dest d =
      if z.granted.testBit d = true then ⟨.fading, some s, false⟩ else x.dest d := by
    rw [event.dest, x.shut_dest s reason z d lt dests]
    by_cases bit : z.granted.testBit d = true
    · rw [if_pos bit, if_pos bit, ((agree.granted s z opened d).mp bit).2]
    · rw [if_neg bit, if_neg bit]
  refine ⟨fun t ne => event.source_same t (x.shut_other s reason z agree opened t ne), ?_, dest, fun m lt => ?_, fun d lt differs => ?_⟩
  · refine event.changed_one s (by decide) (by cases s <;> decide) ?_ fun t ne =>
      congrArg SourceRec.session (x.shut_other s reason z agree opened t ne)
    rw [x.shut_session, if_pos rfl, opened]
    nofun
  · have source (y : Part) (f : SourceRec → SourceRec) : (y.onSource s f).mix m = y.mix m := by cases s <;> rfl
    rw [event.mix]
    refine (source ..).trans ?_
    rw [x.moves_mix _ _ destNums_nodup, if_pos ⟨(mem_destNums m).mpr (by omega), by omega, by omega⟩]
    unfold closeMoves
    split <;> rfl
  · refine (event.targets (x.shut_cfg s reason z) d).mpr (x.shut_targets s reason z d lt ?_ dests mixes)
    by_contra bit
    rw [dest d lt, if_neg bit] at differs
    exact differs rfl

/-- The TALK_STATE of a close. -/
theorem talkNotice_closed (s : Source) (z : Session) (v : Nat) (reason : CloseReason) (cause : TalkCause) :
    talkNotice s (some z.echo) ⟨v, none, reason⟩ cause = ⟨s, .closed, none, some reason, 0, z.granted, v, cause⟩ := by
  have none_gained : setMinus 0 z.granted = 0 := by unfold setMinus; simp
  have all_lost : setMinus z.granted 0 = z.granted := by unfold setMinus; simp
  unfold talkNotice
  show (⟨s, .closed, none, some reason, setMinus 0 z.granted, setMinus z.granted 0, v, cause⟩ : TalkNotice) = _
  rw [none_gained, all_lost]

/-- What a close tells in agreeing tables. -/
theorem Part.closeSession_told (x : Part) (s : Source) (reason : CloseReason) (cause : TalkCause) (z : Session) (agree : x.TalkAgree)
    (opened : x.session s = some z) :
    (x.closeSession s reason cause).cmp = x.cmp.notify (.talkState
      ⟨s, .closed, none, some reason, 0, z.granted, ((x.tka.source s).version + 1) % 65536, cause⟩) ∧
    (x.closeSession s reason cause).ple = (x.closeSession s reason cause).laneAfter x [.talk (sourceNum s)] := by
  have event := x.closeSession_event s reason cause z opened
  obtain ⟨-, changed, -⟩ := x.closeSession_alone s reason cause z agree opened
  refine ⟨?_, ?_⟩
  · rw [event.told]
    unfold Part.talkTold
    rw [changed, List.foldl_cons, List.foldl_nil, opened, x.closeSession_source s reason cause z opened]
    exact congrArg (fun n => x.cmp.notify (.talkState n)) (talkNotice_closed s z _ reason cause)
  · exact event.lane.trans (by rw [Part.talkEchoes, changed]; rfl)

/-! ### LINK_RESET (R5, R67) -/

/-- An echo into an empty lane at rest is the one record of the queue. -/
theorem Part.laneAfter_empty (x old : Part) (t : Target) (msg : LaneMsg) (rest : old.ple.dump = .idle) (queue : old.ple.queue = [])
    (marks : old.ple.marks = []) (built : x.buildEcho t = some msg) :
    x.laneAfter old [t] = { old.ple with queue := [⟨msg, none⟩] } := by
  have same : ({ x with ple := old.ple } : Part).buildEcho t = some msg :=
    (congrArg Prod.fst (x.reports_withPle old.ple t)).trans built
  have enters : admitTo msg [] = some [⟨msg, none⟩] := by
    have empty : clearEdits msg [] = [] := by
      unfold clearEdits
      split <;> rfl
    unfold admitTo
    rw [empty]
    rfl
  rw [Part.laneAfter_one t x old { x with ple := old.ple } rfl (Part.reports_withPle ..).symm]
  unfold Part.echo
  have passed : ({ x with ple := old.ple } : Part).dumpPassed t = true := by
    unfold Part.dumpPassed
    rw [show ({ x with ple := old.ple } : Part).ple.dump = .idle from rest]
  rw [passed, same]
  show (if (!true) = true then _ else if old.ple.marks.any _ = true then _ else match admitTo msg old.ple.queue with
    | some q => _ | none => _ : Part).ple = _
  rw [marks, queue, enters]
  rfl

/-- The DESK mirror made INVALID: every entry unknown, and a notice of the change. -/
theorem Part.mirrorTo_eq (st : MirrorState) (x : Part) : x.mirrorTo st = { x with
    mirror := { Mirror.powerOn with state := st }
    cmp := if x.mirror.state = st then x.cmp else x.cmp.notify (.mirrorState st x.mirror.state) } := by
  unfold Part.mirrorTo Part.notify
  dsimp only
  by_cases same : x.mirror.state = st
  · rw [if_pos same.symm, if_pos same]
  · rw [if_neg fun e => same e.symm, if_neg same]

/-- The tables of talk read the same. -/
theorem Part.TalkInv.congr {x y : Part} (inv : x.TalkInv) (tka : y.tka = x.tka) (mxe : y.mxe = x.mxe) (fmu : y.fmu = x.fmu)
    (role : y.dsc.role = x.dsc.role) : y.TalkInv := by
  rw [Part.talkInv_iff] at inv ⊢
  have view : y.talkView = x.talkView := by
    unfold Part.talkView Part.session
    rw [tka, mxe, fmu, role]
  rw [view]
  exact inv

theorem Part.refusal_linkReset (x : Part) : x.refusal .linkReset = none :=
  x.refusal_none .linkReset rfl rfl rfl rfl

/-- Settles O28: the lane is emptied, and the mirror or the FOH session goes with it. -/
theorem linkResetHeld : Obligations.LinkResetHeld := by
  intro tag s ready inv
  have acted := exec_request_act tag .linkReset s ready s.part.refusal_linkReset
  refine ⟨fun up => acted.trans (next_part s (if_pos up)), ?_⟩
  intro down reset
  have asked : s.part.act tag .linkReset = s.part.linkReset tag := if_neg (by rw [down]; decide)
  refine ⟨s.part.linkReset tag, acted.trans (next_part s asked), ?_⟩
  let z : Part := { s.part with
    dsc := { s.part.dsc with restartFlag := true, heldLink := some tag }
    ple := { s.part.ple.flush with dump := .idle } }
  cases role : s.part.dsc.role with
  | desk =>
    have done : s.part.linkReset tag = (z.mirrorTo .invalid).notify reset := by
      show Part.notify reset (match s.part.dsc.role with
        | .desk => z.mirrorTo .invalid
        | .stage => z.closeSession .foh .link .link) = _
      rw [role]
    rw [done, Part.mirrorTo_eq]
    have replies : ((if z.mirror.state = .invalid then z.cmp else z.cmp.notify (.mirrorState .invalid z.mirror.state)).notify
        reset).replies = s.part.cmp.replies := by
      refine (Cmp.notify_replies _ _).1.trans ?_
      split
      · rfl
      · exact (Cmp.notify_replies _ _).1
    exact ⟨rfl, rfl, replies, rfl, rfl, rfl, rfl, rfl, rfl, rfl, rfl, rfl, fun _ => ⟨rfl, rfl, rfl, rfl, rfl⟩, nofun⟩
  | stage =>
    have done : s.part.linkReset tag = (z.closeSession .foh .link .link).notify reset := by
      show Part.notify reset (match s.part.dsc.role with
        | .desk => z.mirrorTo .invalid
        | .stage => z.closeSession .foh .link .link) = _
      rw [role]
    have invZ : z.TalkInv := inv.congr rfl rfl rfl rfl
    rw [done]
    cases opened : s.part.session .foh with
    | none =>
      rw [z.closeSession_none .foh .link .link opened]
      exact ⟨rfl, rfl, (Cmp.notify_replies _ _).1, rfl, rfl, rfl, rfl, rfl, rfl, rfl, rfl, rfl, nofun, fun _ =>
        ⟨rfl, rfl, rfl, rfl, rfl, rfl, fun _ => ⟨rfl, rfl, rfl, rfl⟩, nofun⟩⟩
    | some o =>
      have event := z.closeSession_event .foh .link .link o opened
      have foh := z.closeSession_source .foh .link .link o opened
      obtain ⟨others, -, dest, mix, -⟩ := z.closeSession_alone .foh .link .link o invZ.agree opened
      obtain ⟨told, lane⟩ := z.closeSession_told .foh .link .link o invZ.agree opened
      have built : (z.closeSession .foh .link .link).buildEcho (.talk (sourceNum .foh)) =
          some (.echoTalk .foh ⟨(s.part.tka.foh.version + 1) % 65536, none, .link⟩) := by
        show some (LaneMsg.echoTalk .foh ((z.closeSession .foh .link .link).tka.source .foh).echo) = _
        rw [foh]
        rfl
      rw [Part.laneAfter_empty _ z _ _ rfl rfl rfl built] at lane
      generalize z.closeSession .foh .link .link = y at event foh others dest mix told lane ⊢
      have rest := event.rest
      refine ⟨event.dsc, ?_, ?_, (congrArg Part.pa rest :), (congrArg Part.pb rest :), (congrArg Part.pair rest :), event.fmu,
        (congrArg Part.scu rest :), event.chs, (congrArg Part.mtu rest :), (congrArg Part.api rest :), (congrArg Part.bus rest :),
        nofun, fun _ => ⟨(congrArg Part.mirror rest :), others .mon nofun, others .stg nofun, event.cfg, event.openCounter,
          event.free, nofun, fun w hw => ?_⟩⟩
      · show y.ple = { s.part.ple with
          queue := y.ple.queue, marks := [], nextSeq := 0, expSeq := 0, cursor := none, resendTimer := 0, goBackDue := false
          asm := .idle, dump := .idle }
        rw [lane]
        rfl
      · refine (Cmp.notify_replies _ _).1.trans ?_
        rw [told]
        exact (Cmp.notify_replies _ _).1
      · cases hw
        exact ⟨foh, congrArg Ple.queue lane, congrArg (Cmp.notify reset) told, dest, mix⟩

end Sys2Proof.Machine
end

section
/-!
PROOFS. The restart handshake (R78 to R81): what a restart of the far end empties, the head of the dump that follows at STAGE, and
what the acknowledgement lowers.
-/

namespace Sys2Proof.Machine

/-! ### New records at the tail (R69) -/

/-- A house-bound record clears no edits. -/
theorem clearEdits_echo (msg : LaneMsg) (q : List LaneRec) (house : ∀ u, msg ≠ .update u) : clearEdits msg q = q := by
  unfold clearEdits
  split
  · exact absurd rfl (house _)
  · rfl

/-- A record of a target that no unsent record has joins the tail while there is room. -/
theorem admitTo_new (msg : LaneMsg) (q : List LaneRec) (edits : clearEdits msg q = q)
    (fresh : ∀ r ∈ q, r.seq = none → r.msg.target ≠ msg.target) :
    admitTo msg q = if q.length < 32 then some (q ++ [⟨msg, none⟩]) else none := by
  have absent : findFrom (LaneRec.unsentOf msg.target) 0 q = none := by
    refine findFrom_none _ 0 q fun r hr => ?_
    unfold LaneRec.unsentOf
    cases seq : r.seq with
    | some n => rfl
    | none => simpa using fresh r hr seq
  unfold admitTo
  rw [edits]
  dsimp only
  rw [absent]

/-- Such a record offered. -/
theorem Ple.offer_new (msg : LaneMsg) (l : Ple) (house : ∀ u, msg ≠ .update u)
    (fresh : ∀ r ∈ l.queue, r.seq = none → r.msg.target ≠ msg.target) (room : l.queue.length < 32) :
    l.offer msg = { l with queue := l.queue ++ [⟨msg, none⟩] } := by
  unfold Ple.offer
  rw [admitTo_new msg l.queue (clearEdits_echo msg _ house) fresh, if_pos room]

/-! ### The head of a dump (R80 to R82) -/

/-- DUMP_BEGIN and the first channels, as a dump begins to send them. -/
def Part.dumpHead (x : Part) (k : Nat) : List LaneRec :=
  ⟨.dumpBegin, none⟩ :: (List.range k).map fun n => ⟨.echoChannel n (x.channel n).echo, none⟩

theorem Part.dumpHead_succ (x : Part) (k : Nat) :
    x.dumpHead (k + 1) = x.dumpHead k ++ [⟨.echoChannel k (x.channel k).echo, none⟩] := by
  unfold Part.dumpHead
  rw [List.range_succ, List.map_append]
  rfl

theorem Part.dumpHead_length (x : Part) (k : Nat) : (x.dumpHead k).length = k + 1 := by
  simp [Part.dumpHead]

/-- The pointer goes from channel to channel until the queue is full. -/
theorem Part.dumpFill_channels (n k : Nat) (x : Part) (l : Ple) (sum : n + k = 31) :
    Part.dumpFill n { x with ple := { l with queue := x.dumpHead k, dump := .channel k } } =
      { x with ple := { l with queue := x.dumpHead 31, dump := .channel 31 } } := by
  induction n generalizing k with
  | zero =>
    have full : k = 31 := by omega
    subst full
    rfl
  | succ n ih =>
    have room : (x.dumpHead k).length < 32 := by rw [x.dumpHead_length]; omega
    have fresh : ∀ r ∈ x.dumpHead k, r.seq = none → r.msg.target ≠ .channel k := by
      intro r hr _
      unfold Part.dumpHead at hr
      rcases List.mem_cons.mp hr with rfl | hr
      · nofun
      · obtain ⟨i, hi, rfl⟩ := List.mem_map.mp hr
        have := List.mem_range.mp hi
        intro e
        cases e
        omega
    have offered := Ple.offer_new (.echoChannel k (x.channel k).echo) { l with queue := x.dumpHead k, dump := .channel k } nofun
      fresh room
    unfold Part.dumpFill
    dsimp only
    rw [if_pos room]
    show Part.dumpFill n { x with ple :=
      { Ple.offer (.echoChannel k (x.channel k).echo) { l with queue := x.dumpHead k, dump := .channel k } with
        dump := if k < 63 then .channel (k + 1) else .mix 0 } } = _
    rw [offered, if_pos (by omega), ← x.dumpHead_succ]
    exact ih (k + 1) (by omega)

/-- A dump begins with DUMP_BEGIN and 31 channels. -/
theorem Part.dumpStart_exact (x : Part) : x.dumpStart = { x with ple := { x.ple with
    queue := x.dumpHead 31, marks := [], cursor := none, goBackDue := false, dump := .channel 31 } } := by
  show Part.dumpFill (31 + 1) { x with ple :=
    { x.ple with queue := [], marks := [], cursor := none, goBackDue := false, dump := .begin } } = _
  unfold Part.dumpFill
  refine (if_pos (show ([] : List LaneRec).length < 32 from by decide)).trans ?_
  exact Part.dumpFill_channels 31 0 x { x.ple with marks := [], cursor := none, goBackDue := false } rfl

/-! ### What echoes leave of the lane -/

/-- The lane but for its queue and its marks. -/
def Ple.sansRecords (l : Ple) : Ple := { l with queue := [], marks := [] }

theorem Part.echo_sansRecords (t : Target) (x : Part) : (x.echo t).ple.sansRecords = x.ple.sansRecords := by
  unfold Part.echo
  repeat' split
  all_goals rfl

theorem Part.laneAfter_sansRecords (ts : List Target) (x old : Part) :
    (x.laneAfter old ts).sansRecords = old.ple.sansRecords :=
  foldl_keeps (fun y : Part => y.ple.sansRecords) _ (fun _ _ => Part.echo_sansRecords ..) ts { x with ple := old.ple }

/-- A close leaves everything but talk, the mixes' ramps, the notices and the queue. -/
theorem Part.closeSession_rest (s : Source) (reason : CloseReason) (cause : TalkCause) (x : Part) :
    ({ x.closeSession s reason cause with cmp := x.cmp, ple := x.ple } : Part).sansTalk = x.sansTalk ∧
    (x.closeSession s reason cause).ple.sansRecords = x.ple.sansRecords := by
  cases opened : x.session s with
  | none =>
    rw [x.closeSession_none s reason cause opened]
    exact ⟨rfl, rfl⟩
  | some z =>
    have event := x.closeSession_event s reason cause z opened
    refine ⟨event.rest, ?_⟩
    rw [event.lane]
    exact Part.laneAfter_sansRecords ..

/-! ### A restart of the far end (R79, R80) -/

/-- The part as a restart of the far end finds the lane: emptied, the acknowledgement raised, the episode begun. -/
def Part.restarted (x : Part) : Part :=
  { x with ple := { x.ple.flush with ackRaised := true, episode := true } }

theorem Part.farRestart_eq (x : Part) (calm : x.ple.episode = false) :
    x.farRestart = Part.notify (.laneReset .farRestart x.ple.queue.length) (match x.dsc.role with
      | .desk => x.restarted.mirrorTo .invalid
      | .stage => (x.restarted.closeSession .foh .link .link).dumpStart) := by
  unfold Part.farRestart
  rw [calm]
  rfl

/-- A restart at DESK: the mirror INVALID. -/
theorem Part.farRestart_desk (x : Part) (calm : x.ple.episode = false) (desk : x.dsc.role = .desk) :
    x.farRestart = { x.restarted with
      mirror := { Mirror.powerOn with state := .invalid }
      cmp := (if x.mirror.state = .invalid then x.cmp else x.cmp.notify (.mirrorState .invalid x.mirror.state)).notify
        (.laneReset .farRestart x.ple.queue.length) } := by
  rw [x.farRestart_eq calm, desk]
  dsimp only
  rw [Part.mirrorTo_eq]
  rfl

/-- A restart at STAGE: the FOH session closed, the dump begun. -/
theorem Part.farRestart_stage (x : Part) (calm : x.ple.episode = false) (stage : x.dsc.role = .stage) :
    x.farRestart = { x.restarted.closeSession .foh .link .link with
      ple := { x.restarted.ple with
        queue := x.dumpHead 31, marks := [], cursor := none, goBackDue := false, dump := .channel 31 }
      cmp := (x.restarted.closeSession .foh .link .link).cmp.notify (.laneReset .farRestart x.ple.queue.length) } := by
  obtain ⟨rest, lane⟩ := x.restarted.closeSession_rest .foh .link .link
  rw [x.farRestart_eq calm, stage]
  dsimp only
  rw [Part.dumpStart_exact]
  generalize x.restarted.closeSession .foh .link .link = y at rest lane ⊢
  have chs : y.chs = x.chs := (congrArg Part.chs rest :)
  have head : y.dumpHead 31 = x.dumpHead 31 := by
    unfold Part.dumpHead Part.channel
    rw [chs]
  have ple : { y.ple with queue := x.dumpHead 31, marks := [], cursor := none, goBackDue := false, dump := .channel 31 } =
      { x.restarted.ple with
        queue := x.dumpHead 31, marks := [], cursor := none, goBackDue := false, dump := .channel 31 } :=
    congrArg (fun l : Ple => { l with queue := x.dumpHead 31, marks := [], cursor := none, goBackDue := false, dump := .channel 31 })
      lane
  rw [head, ple]
  rfl

/-! ### The acknowledgement (R81) -/

/-- What an acknowledgement lowers and answers. -/
def Part.ackedPart (x : Part) : Part :=
  { x with
    dsc := { x.dsc with restartFlag := false, heldLink := none }
    cmp := { x.cmp with replies := x.cmp.replies ++ heldReplies x.dsc.heldLink .ok }
    ple := x.ple.setTail }

theorem Part.restartAcked_eq (x : Part) :
    x.restartAcked = match x.dsc.role with
      | .desk => x.ackedPart
      | .stage => { x.ackedPart with ple := { x.ple.setTail with
          queue := x.dumpHead 31, marks := [], cursor := none, goBackDue := false, dump := .channel 31 } } := by
  have lowered : (({ x with dsc := { x.dsc with restartFlag := false } } : Part).answerHeldLink .ok).onPle Ple.setTail =
      x.ackedPart := by
    rw [Part.answerHeldLink_eq]
    rfl
  show (match x.dsc.role with
    | .desk => (({ x with dsc := { x.dsc with restartFlag := false } } : Part).answerHeldLink .ok).onPle Ple.setTail
    | .stage => ((({ x with dsc := { x.dsc with restartFlag := false } } : Part).answerHeldLink .ok).onPle Ple.setTail).dumpStart) = _
  rw [lowered, Part.dumpStart_exact]
  cases x.dsc.role <;> rfl

/-! ### A frame in service -/

/-- A frame of the far role on an IN_SERVICE path: its flags first, then its arrival. -/
theorem Part.goodFrame_serving (p : Path) (f : Frame) (x : Part) (serving : (x.path p).state = .inService) (far : f.role ≠ x.dsc.role) :
    x.goodFrame p f =
      let y := (x.onPath p fun c => { c with silenceTimer := 0 }).serviceFlags f
      if f.idle = true then y else (y.arrive p f).2 := by
  rw [x.goodFrame_used p f (by rw [PathCtl.usable_eq_decide]; simp [serving])]
  unfold Part.usableFrame Part.offerFull
  dsimp only
  rw [if_neg far, if_pos serving]

/-- The lane as the far end's restart flag leaves it where no restart begins. -/
def Ple.heard (restart : Bool) (l : Ple) : Ple :=
  if restart = true then { l with ackRaised := true }
  else if l.episode = true then { l with episode := false, ackRaised := false, quietTail := 16, tailDue := false }
  else l

theorem Part.farFlag_heard (restart : Bool) (x : Part) (known : restart = false ∨ x.ple.episode = true) :
    x.farFlag true restart = { x with ple := x.ple.heard restart } := by
  have heard (l : Ple) (h : x.ple.heard restart = l) : { x with ple := l } = { x with ple := x.ple.heard restart } := by rw [h]
  unfold Part.farFlag Part.farRestart
  cases restart with
  | true =>
    have episode : x.ple.episode = true := known.resolve_left nofun
    rw [if_pos rfl]
    exact (if_pos episode).trans (heard _ (if_pos rfl))
  | false =>
    rw [if_neg nofun]
    by_cases episode : x.ple.episode = true
    · exact (if_pos episode).trans (heard _ ((if_neg nofun).trans (if_pos episode)))
    · exact (if_neg episode).trans (heard _ ((if_neg nofun).trans (if_neg episode)))

/-- A restart that begins: the parts it keeps. -/
theorem Part.farRestart_keeps (x : Part) (calm : x.ple.episode = false) :
    x.farRestart.dsc = x.dsc ∧ (∀ k, x.farRestart.path k = x.path k) ∧ x.farRestart.fmu = x.fmu ∧ x.farRestart.chs = x.chs ∧
    x.farRestart.scu = x.scu ∧ x.farRestart.pair = x.pair ∧ x.farRestart.cmp.replies = x.cmp.replies := by
  cases role : x.dsc.role with
  | desk =>
    rw [x.farRestart_desk calm role]
    refine ⟨rfl, fun k => rfl, rfl, rfl, rfl, rfl, (Cmp.notify_replies _ _).1.trans ?_⟩
    split
    · rfl
    · exact (Cmp.notify_replies _ _).1
  | stage =>
    have rest := (x.restarted.closeSession_rest .foh .link .link).1
    have port := (congrArg Cmp.replies (port_of_sans (Part.closeSession_sans .foh .link .link x.restarted)) :
      (x.restarted.closeSession .foh .link .link).port.replies = x.restarted.port.replies)
    rw [x.farRestart_stage calm role]
    generalize x.restarted.closeSession .foh .link .link = y at rest port ⊢
    have pa : y.pa = x.pa := (congrArg Part.pa rest :)
    have pb : y.pb = x.pb := (congrArg Part.pb rest :)
    refine ⟨(congrArg Part.dsc rest :), fun k => ?_, (congrArg Part.fmu rest :), (congrArg Part.chs rest :),
      (congrArg Part.scu rest :), (congrArg Part.pair rest :), (Cmp.notify_replies _ _).1.trans port⟩
    cases k
    · exact pa
    · exact pb

/-- The lane after a restart began. -/
theorem Part.farRestart_ple (x : Part) (calm : x.ple.episode = false) :
    x.farRestart.ple = match x.dsc.role with
      | .desk => x.restarted.ple
      | .stage => { x.restarted.ple with
          queue := x.dumpHead 31, marks := [], cursor := none, goBackDue := false, dump := .channel 31 } := by
  cases role : x.dsc.role with
  | desk => rw [x.farRestart_desk calm role]
  | stage => rw [x.farRestart_stage calm role]

/-- A restart at STAGE leaves talk as the close of the FOH session does. -/
theorem Part.farRestart_talk (x : Part) (calm : x.ple.episode = false) (stage : x.dsc.role = .stage) :
    x.farRestart.session .foh = none ∧ (x.session .foh = none → x.farRestart.tka = x.tka) ∧
    (x.TalkInv →
      (∀ z, x.session .foh = some z → x.farRestart.tka.foh = ⟨none, (x.tka.foh.version + 1) % 65536, .link⟩ ∧
        ∀ d, d < 17 → x.farRestart.dest d = if z.granted.testBit d = true then ⟨.fading, some .foh, false⟩ else x.dest d) ∧
      (∀ src, src ≠ .foh → x.farRestart.tka.source src = x.tka.source src) ∧
      (∀ d, d < 17 → x.farRestart.dest d ≠ x.dest d → x.farRestart.TargetsFollow d) ∧
      x.farRestart.cmp = (x.farRestart.talkTold x .link [.foh]).notify (.laneReset .farRestart x.ple.queue.length)) := by
  rw [x.farRestart_stage calm stage]
  cases opened : x.session .foh with
  | none =>
    rw [x.restarted.closeSession_none .foh .link .link opened]
    refine ⟨opened, fun _ => rfl, fun _ => ⟨nofun, fun _ _ => rfl, fun d _ differs => absurd rfl differs, ?_⟩⟩
    have quiet : Part.talkChanged { x.restarted with
        ple := { x.restarted.ple with
          queue := x.dumpHead 31, marks := [], cursor := none, goBackDue := false, dump := .channel 31 }
        cmp := x.restarted.cmp.notify (.laneReset .farRestart x.ple.queue.length) } x [.foh] = [] :=
      List.filter_eq_nil_iff.mpr fun s _ => by simp [Part.session, Part.restarted]
    unfold Part.talkTold
    rw [quiet]
    rfl
  | some z =>
    have event := x.restarted.closeSession_event .foh .link .link z opened
    have mine := x.restarted.closeSession_source .foh .link .link z opened
    have gone : (x.restarted.closeSession .foh .link .link).session .foh = none := congrArg SourceRec.session mine
    refine ⟨gone, nofun, fun inv => ?_⟩
    have invR : x.restarted.TalkInv := inv.congr rfl rfl rfl rfl
    obtain ⟨others, changed, dest, -, targets⟩ := x.restarted.closeSession_alone .foh .link .link z invR.agree opened
    have told := event.told
    refine ⟨fun w hw => ?_, others, targets, ?_⟩
    · cases hw
      exact ⟨mine, dest⟩
    · have same : (x.restarted.closeSession .foh .link .link).talkTold x.restarted .link [.foh, .mon, .stg] =
          (x.restarted.closeSession .foh .link .link).talkTold x .link [.foh] := by
        have self := Part.talkChanged_self _ _ _ _ changed
        unfold Part.talkTold
        rw [changed]
        exact congrArg (fun l : List Source => l.foldl _ _) self.symm
      exact congrArg (Cmp.notify _) (told.trans same)

end Sys2Proof.Machine
end

section
/-!
PROOFS. A report of the paths taken whole (R55 to R58, R62): its notices, the values of the FMU, and what the clock, the arbiter, the lane
and the meters make of a link lost and a link returned (R13, R71, R78, R148, R157).
-/

namespace Sys2Proof.Machine

/-! ### The notices of a report -/

/-- Notices queued one after another. -/
def Cmp.notifyAll (ns : List Notice) (c : Cmp) : Cmp := ns.foldl (fun c n => c.notify n) c

theorem Cmp.notifyAll_append (ns ms : List Notice) (c : Cmp) : c.notifyAll (ns ++ ms) = (c.notifyAll ns).notifyAll ms :=
  List.foldl_append ..

/-- The PATH_STATE of a path, if it changed. -/
theorem Part.notifyPath_toList (p : Path) (old x : Part) :
    Part.notifyPath p x old = { x with cmp := x.cmp.notifyAll (pathNotice p (old.path p) (x.path p)).toList } := by
  unfold Part.notifyPath
  split
  · next n h => rw [h]; rfl
  · next h => rw [h]; rfl

/-- The LINK_STATE of a report, if the link state or the reference changed. -/
def Part.linkNotices (x : Part) (new : Option Path) : List Notice :=
  if (x.fmuAfter new).link ≠ x.fmu.link ∨ (x.fmuAfter new).ref ≠ x.fmu.ref then
    [Notice.linkState (x.fmuAfter new).link x.fmu.link (x.fmuAfter new).ref x.pa.usable x.pb.usable]
  else []

/-- The notices of the paths and of the link, in order, that a report from `old` gives with the paths of `x` and the FMU's new
values. -/
def Part.reportNotices (old x : Part) (new : Option Path) : List Notice :=
  (pathNotice .a old.pa x.pa).toList ++ (pathNotice .b old.pb x.pb).toList ++ x.linkNotices new

/-- The part once the FMU took the report and the notices were queued. -/
def Part.reported (old x : Part) (new : Option Path) : Part :=
  { x with fmu := x.fmuAfter new, cmp := x.cmp.notifyAll (Part.reportNotices old x new) }

/-- The FMU's part of a report: its values and the notice, then the clock, then the blocks that read the link. -/
theorem Part.fmuReport_eq (new : Option Path) (x : Part) :
    x.fmuReport new =
      let y : Part := { x with fmu := x.fmuAfter new, cmp := x.cmp.notifyAll (x.linkNotices new) }
      if (x.fmuAfter new).link ≠ x.fmu.link then y.clockFollow.linkChanged x.fmu.link else y.clockFollow := by
  have told : (if (x.fmuAfter new).link ≠ x.fmu.link ∨ (x.fmuAfter new).ref ≠ x.fmu.ref then
      Part.notify (.linkState (x.fmuAfter new).link x.fmu.link (x.fmuAfter new).ref x.pa.usable x.pb.usable)
        { x with fmu := x.fmuAfter new }
      else { x with fmu := x.fmuAfter new }) =
      { x with fmu := x.fmuAfter new, cmp := x.cmp.notifyAll (x.linkNotices new) } := by
    unfold Part.linkNotices
    split <;> rfl
  exact congrArg (fun z : Part => if (x.fmuAfter new).link ≠ x.fmu.link then z.clockFollow.linkChanged x.fmu.link else z.clockFollow)
    told

/-- A report: anchoring, the FMU's values and the notices, then the clock, then the blocks that read the link. -/
theorem Part.report_eq (old x : Part) :
    x.report old =
      let y := (Part.reported old x.anchoring.1 x.anchoring.2).clockFollow
      if (x.anchoring.1.fmuAfter x.anchoring.2).link ≠ x.anchoring.1.fmu.link then y.linkChanged x.anchoring.1.fmu.link else y := by
  unfold Part.report
  dsimp only
  rw [Part.notifyPath_toList, Part.notifyPath_toList, Part.fmuReport_eq]
  unfold Part.reported Part.reportNotices
  rw [Cmp.notifyAll_append, Cmp.notifyAll_append]
  rfl

/-! ### The clock and the link's readers by role -/

theorem Part.clockFollow_desk (x : Part) (desk : x.dsc.role = .desk) : x.clockFollow = x := by
  unfold Part.clockFollow
  rw [desk]
  exact if_neg fun h => by cases h.1

theorem Part.clockFollow_stage (x : Part) (stage : x.dsc.role = .stage) : x.clockFollow = { x with
    scu := { x.scu with lock := followRef x.fmu.ref x.scu.lock }
    cmp := if followRef x.fmu.ref x.scu.lock = x.scu.lock then x.cmp
      else x.cmp.notify (.clockState ⟨.stage, none, followRef x.fmu.ref x.scu.lock, x.fmu.ref⟩) } := by
  unfold Part.clockFollow
  by_cases same : followRef x.fmu.ref x.scu.lock = x.scu.lock
  · rw [if_neg fun h => h.2 same, if_pos same, same]
  · rw [if_pos ⟨stage, same⟩, if_neg same]
    unfold Part.notifyClock Part.clockInfo Part.notify
    dsimp only
    rw [stage]

theorem Part.linkChanged_desk (old : LinkState) (x : Part) (desk : x.dsc.role = .desk) :
    x.linkChanged old = (x.laneLink old).meterLink := by
  unfold Part.linkChanged
  rw [desk]

theorem Part.laneLink_lane (old : LinkState) (x : Part) : ∃ l, x.laneLink old = { x with ple := l } := by
  unfold Part.laneLink Part.endEpisode
  (repeat' split) <;> exact ⟨_, rfl⟩

theorem Part.linkChanged_stage (old : LinkState) (x : Part) (stage : x.dsc.role = .stage) :
    x.linkChanged old = (x.talkLink old).laneLink old := by
  have role : (x.talkLink old).dsc.role = .stage := by
    have dsc : (x.talkLink old).dsc = x.dsc := (congrArg Part.dsc (x.talkLink_sans old) :)
    rw [dsc, stage]
  have ended : x.linkChanged old = ((x.talkLink old).laneLink old).meterLink := by
    unfold Part.linkChanged
    rw [stage]
  obtain ⟨l, lane⟩ := (x.talkLink old).laneLink_lane old
  rw [ended, lane]
  unfold Part.meterLink
  exact if_neg fun h => by
    have desk : (x.talkLink old).dsc.role = .desk := h.1
    rw [role] at desk
    cases desk

/-! ### Anchoring -/

theorem Part.anchoring_idle (x : Part) (h : x.anyUsable = true ∨ (x.pa.atAlign = false ∧ x.pb.atAlign = false)) :
    x.anchoring = (x, none) := by
  unfold Part.anchoring
  rcases h with used | ⟨a, b⟩
  · rw [if_pos used]
  · rw [a, b]
    split <;> rfl

theorem Part.anchoring_at (x : Part) (p : Path) (idle : x.anyUsable = false) (align : (x.path p).atAlign = true)
    (other : (x.path (otherPath p)).atAlign = false) : x.anchoring = (x.onPath p PathCtl.serve, some p) := by
  unfold Part.anchoring
  rw [if_neg (by simp [idle])]
  cases p with
  | a => exact if_pos align
  | b =>
    have other : x.pa.atAlign = false := other
    rw [if_neg (by simp [other])]
    exact if_pos align

/-! ### The reference (R55) -/

theorem chooseRef_facts (a b : PathCtl) (pair : PairCfg) (cur : Option Path) :
    let st : Path → PathCtl := fun p => match p with
      | .a => a
      | .b => b
    let r := chooseRef a b pair cur
    (r = none ↔ a.usable = false ∧ b.usable = false) ∧
    (∀ p, r = some p → (st p).usable = true) ∧
    (∀ p, cur = some p → pair.revertive = false → (st p).state = .inService → r = some p) ∧
    ((pair.revertive = true ∨ ∀ p, cur = some p → (st p).state ≠ .inService) →
      ((st pair.preferred).state = .inService → r = some pair.preferred) ∧
      ((st pair.preferred).state ≠ .inService → (st (otherPath pair.preferred)).state = .inService →
        r = some (otherPath pair.preferred)) ∧
      (a.state ≠ .inService → b.state ≠ .inService → ∀ p, cur = some p → (st p).usable = true → r = some p)) := by
  have sa := a.usable_of_inService
  have sb := b.usable_of_inService
  simp only [beq_iff_eq] at sa sb
  unfold chooseRef
  cases hp : pair.preferred <;> rcases cur with _ | (_ | _) <;> dsimp only [otherPath] <;> grind

/-! ### Echoes leave what is in flight -/

theorem admitTo_inFlight (msg : LaneMsg) (q q' : List LaneRec) (house : ∀ u, msg ≠ .update u) (h : admitTo msg q = some q') :
    q'.filter (fun r => r.seq.isSome) = q.filter fun r => r.seq.isSome := by
  unfold admitTo at h
  rw [clearEdits_echo msg q house] at h
  dsimp only at h
  cases found : findFrom (LaneRec.unsentOf msg.target) 0 q with
  | some i =>
    rw [found] at h
    obtain ⟨a, r, b, rfl, place, -, unsent⟩ := findFrom_eq_some _ _ _ _ found
    have e := Option.some.inj h
    rw [← e, place, Nat.zero_add, updAt_append]
    have idle : r.seq.isSome = false := by
      unfold LaneRec.unsentOf at unsent
      cases r with
      | mk m seq => cases seq <;> simp at unsent ⊢
    simp [List.filter_append, idle]
  | none =>
    rw [found] at h
    dsimp only at h
    split at h
    · rw [← Option.some.inj h]
      simp [List.filter_append]
    · cases h

theorem buildEcho_house (x : Part) (t : Target) (msg : LaneMsg) (h : x.buildEcho t = some msg) : ∀ u, msg ≠ .update u := by
  unfold Part.buildEcho at h
  (repeat' split at h) <;> cases h <;> nofun

theorem Part.echo_inFlight (t : Target) (x : Part) : (x.echo t).ple.inFlight = x.ple.inFlight := by
  unfold Part.echo
  split
  · rfl
  · split
    · rfl
    · split
      · rfl
      · next msg built =>
        split
        · next q entered => exact congrArg List.length (admitTo_inFlight msg _ q (buildEcho_house x t msg built) entered)
        · rfl

theorem Part.laneAfter_inFlight (ts : List Target) (x old : Part) : (x.laneAfter old ts).inFlight = old.ple.inFlight :=
  foldl_keeps (fun y : Part => y.ple.inFlight) _ (fun _ _ => Part.echo_inFlight ..) ts { x with ple := old.ple }

/-! ### A loss and a grant told of -/

/-- One destination lost by its holder, and published. -/
theorem Part.TalkEvent.lost {x w₀ y : Part} {cause : TalkCause} {order : List Source} {d : Nat} {s : Source} {z : Session}
    (h : Part.TalkEvent x (w₀.lose d) y cause order) (same : ∀ t, w₀.tka.source t = x.tka.source t)
    (holder : (w₀.dest d).holder = some s) (opened : x.session s = some z) (lt : d < w₀.tka.dests.length) :
    y.dest d = ⟨.fading, some s, false⟩ ∧ y.session s = some (z.holding (setDel z.granted d)) ∧
    (∀ t, t ≠ s → y.tka.source t = x.tka.source t) ∧
    (z.granted.testBit d = true → (y.tka.source s).version = ((x.tka.source s).version + 1) % 65536 ∧
      (order.Nodup → s ∈ order → y.talkChanged x order = [s])) := by
  have mine : (w₀.lose d).session s = some (z.holding (setDel z.granted d)) := by
    refine (congrArg SourceRec.session (w₀.move_source d .fade s)).trans ?_
    show (w₀.session s).map _ = _
    rw [show w₀.session s = some z from (congrArg SourceRec.session (same s)).trans opened, holder]
    exact congrArg (fun n => some (z.holding n)) (if_pos rfl)
  have others (t : Source) (ne : t ≠ s) : (w₀.lose d).tka.source t = x.tka.source t := by
    rw [Part.lose_exact, holder]
    refine Eq.trans (Eq.trans (Part.onSource_source ..) (if_neg ne)) ?_
    rw [Part.setDest_source, same]
  refine ⟨?_, (h.session s).trans mine, fun t ne => h.source_same t (others t ne), fun bit => ?_⟩
  · rw [h.dest]
    refine (w₀.move_dest d .fade d).trans ((if_pos ⟨rfl, lt⟩).trans ?_)
    rw [← holder]
    rfl
  · have differs : ((w₀.lose d).session s).map Session.echo ≠ (x.session s).map Session.echo := by
      rw [mine, opened]
      intro e
      have sets : setDel z.granted d = z.granted := congrArg SessionEcho.granted (Option.some.inj e)
      have := congrArg (fun n => n.testBit d) sets
      simp [testBit_setDel, bit] at this
    refine ⟨?_, fun once member => h.changed_one s once member differs fun t ne => congrArg SourceRec.session (others t ne)⟩
    rw [h.source_bump s differs]
    show inc16 ((w₀.lose d).tka.source s).version = _
    rw [show (w₀.lose d).tka.source s = _ from w₀.move_source d .fade s, same]
    rfl

theorem setMinus_self (n : Nat) : setMinus n n = 0 := by
  unfold setMinus
  simp

theorem testBit_setMinus (a b k : Nat) : (setMinus a b).testBit k = (a.testBit k && !b.testBit k) := by
  unfold setMinus
  rw [Nat.testBit_xor, Nat.testBit_and]
  cases a.testBit k <;> cases b.testBit k <;> rfl

/-- A set loses one destination: what is lost is that destination. -/
theorem setMinus_setDel (n d : Nat) (bit : n.testBit d = true) : setMinus n (setDel n d) = 1 <<< d := by
  refine Nat.eq_of_testBit_eq fun k => ?_
  rw [testBit_setMinus, testBit_setDel, Nat.one_shiftLeft, Nat.testBit_two_pow]
  by_cases e : d = k
  · subst e; simp [bit]
  · cases n.testBit k <;> simp [e]

theorem setDel_setMinus (n d : Nat) : setMinus (setDel n d) n = 0 := by
  refine Nat.eq_of_testBit_eq fun k => ?_
  rw [testBit_setMinus, testBit_setDel, Nat.zero_testBit]
  cases n.testBit k <;> simp

theorem setMinus_setAdd (n d : Nat) (out : n.testBit d = false) : setMinus (setAdd n d) n = 1 <<< d := by
  refine Nat.eq_of_testBit_eq fun k => ?_
  rw [testBit_setMinus, testBit_setAdd, Nat.one_shiftLeft, Nat.testBit_two_pow]
  by_cases e : d = k
  · subst e; simp [out]
  · cases n.testBit k <;> simp [e]

theorem setAdd_setMinus (n d : Nat) : setMinus n (setAdd n d) = 0 := by
  refine Nat.eq_of_testBit_eq fun k => ?_
  rw [testBit_setMinus, testBit_setAdd, Nat.zero_testBit]
  cases n.testBit k <;> simp

/-- The TALK_STATE of a session that loses a destination it requests. -/
theorem talkNotice_lost (s : Source) (z : Session) (d v : Nat) (reason : CloseReason) (cause : TalkCause)
    (bit : z.granted.testBit d = true) (wanted : z.requested.testBit d = true) :
    talkNotice s (some z.echo) ⟨v, some (z.holding (setDel z.granted d)).echo, reason⟩ cause =
      ⟨s, .preempted, some (z.holding (setDel z.granted d)).echo, none, 0, 1 <<< d, v, cause⟩ := by
  have lost : setMinus z.granted (setDel z.granted d) = 1 <<< d := setMinus_setDel _ _ bit
  have gained : setMinus (setDel z.granted d) z.granted = 0 := setDel_setMinus _ _
  have taken : (1 <<< d) &&& z.requested ≠ 0 := by
    intro e
    have := congrArg (fun n => n.testBit d) e
    simp [Nat.testBit_and, Nat.one_shiftLeft, wanted] at this
  unfold talkNotice
  show (⟨s, talkEvent (some (z.holding (setDel z.granted d)).echo) (setMinus z.granted (setDel z.granted d)),
    some (z.holding (setDel z.granted d)).echo, none, setMinus (setDel z.granted d) z.granted,
    setMinus z.granted (setDel z.granted d), v, cause⟩ : TalkNotice) = _
  rw [lost, gained]
  refine congrArg (fun e => (⟨s, e, some (z.holding (setDel z.granted d)).echo, none, 0, 1 <<< d, v, cause⟩ : TalkNotice)) ?_
  exact if_pos taken

/-- The TALK_STATE of a session that gains a destination. -/
theorem talkNotice_gained (s : Source) (z : Session) (d v : Nat) (reason : CloseReason) (cause : TalkCause)
    (out : z.granted.testBit d = false) :
    talkNotice s (some z.echo) ⟨v, some (z.holding (setAdd z.granted d)).echo, reason⟩ cause =
      ⟨s, .granted, some (z.holding (setAdd z.granted d)).echo, none, 1 <<< d, 0, v, cause⟩ := by
  have lost : setMinus z.granted (setAdd z.granted d) = 0 := setAdd_setMinus _ _
  have gained : setMinus (setAdd z.granted d) z.granted = 1 <<< d := setMinus_setAdd _ _ out
  have holds : setAdd z.granted d ≠ 0 := by
    intro e
    have := congrArg (fun n => n.testBit d) e
    simp [testBit_setAdd] at this
  unfold talkNotice
  show (⟨s, talkEvent (some (z.holding (setAdd z.granted d)).echo) (setMinus z.granted (setAdd z.granted d)),
    some (z.holding (setAdd z.granted d)).echo, none, setMinus (setAdd z.granted d) z.granted,
    setMinus z.granted (setAdd z.granted d), v, cause⟩ : TalkNotice) = _
  rw [lost, gained]
  refine congrArg (fun e => (⟨s, e, some (z.holding (setAdd z.granted d)).echo, none, 1 <<< d, 0, v, cause⟩ : TalkNotice)) ?_
  show (if (0 &&& _) ≠ 0 then _ else if setAdd z.granted d ≠ 0 then _ else _) = _
  rw [if_neg (by simp), if_pos holds]

end Sys2Proof.Machine
end

section
/-!
PROOFS. The lane's queue from outside: acks and the go-back (R70, R71, R80), a record the STAGE refuses (R74, R113, R135), and the
DESK's requests for stage-owned state with their admission (R69, R182).
-/

namespace Sys2Proof.Machine

/-! ### Acks, the go-back and the quiet tail -/

/-- An ack that names no record in the queue. -/
theorem Ple.takeAck_unnamed (ack : Nat) (l : Ple) (unnamed : ∀ r ∈ l.queue, r.seq ≠ some ack) : l.takeAck false ack = l := by
  have absent : findFrom (fun r : LaneRec => r.seq == some ack) 0 l.queue = none :=
    findFrom_none _ 0 _ fun r hr => by simpa using unnamed r hr
  unfold Ple.takeAck
  rw [absent]
  rfl

/-- An ack that names a record in the queue. -/
theorem Ple.takeAck_named (ack : Nat) (l : Ple) (older rest : List LaneRec) (r : LaneRec) (queue : l.queue = older ++ r :: rest)
    (named : r.seq = some ack) (unnamed : ∀ o ∈ older, o.seq ≠ some ack) :
    l.takeAck false ack = { l with
      queue := rest, cursor := cursorAcked (older.length + 1) rest l.cursor, resendTimer := 0, goBackDue := false } := by
  have found : findFrom (fun r : LaneRec => r.seq == some ack) 0 l.queue = some older.length := by
    have at_r := findFrom_append (fun r : LaneRec => r.seq == some ack) 0 older r rest
      (fun o ho => by simpa using unnamed o ho) (by simp [named])
    rw [queue, at_r, Nat.zero_add]
  have kept : l.queue.drop (older.length + 1) = rest := by rw [queue]; simp
  unfold Ple.takeAck
  rw [found]
  dsimp only
  rw [kept]
  rfl

/-- Settles O39: an ack by the place of the record it names, the go-back and the end of the quiet tail by their definitions. -/
theorem acksAndGoBack : Obligations.AcksAndGoBack := by
  refine ⟨fun s due => next_part s ?_, fun s due some_sent => next_part s ?_, fun l ack => ⟨rfl, l.takeAck_unnamed ack, ?_⟩⟩
  · show ({ s.part with ple := s.part.ple.takeTailEnd } : Part) = _
    rw [show s.part.ple.takeTailEnd = _ from if_pos due]
  · show ({ s.part with ple := s.part.ple.takeGoBack } : Part) = _
    rw [show s.part.ple.takeGoBack = _ from if_pos (by simp [due, some_sent]), satInc_eq]
  · intro older rest r queue named unnamed
    rw [l.takeAck_named ack older rest r queue named unnamed]
    refine ⟨rfl, rfl, rfl, fun i pos cursor past => ?_, fun i pos cursor within => ?_, fun cursor => ?_⟩ <;>
      show cursorAcked _ _ l.cursor = _ <;> rw [cursor]
    · exact if_pos past
    · refine (if_neg (by omega)).trans ?_
      cases rest <;> rfl
    · rfl

/-! ### An update the STAGE refuses -/

/-- An update that its block refuses produces a REFUSED record. -/
theorem Part.applyMsg_update_refused (u : Update) (why : RefuseReason) (code : ReplyCode) (x : Part)
    (names : (code, why) = (.full, .full) ∨ (code, why) = (.state, .state))
    (refused : x.doUpdate .lane .lane u.clamp = (code, x)) : x.applyMsg (.update u) = x.refuse u why := by
  show x.applyUpdate u = _
  unfold Part.applyUpdate
  rw [refused]
  rcases names with e | e <;> cases e <;> rfl

/-- OPEN_TALK for FOH outside OPERATE or with the link down (R135). -/
theorem Part.doUpdate_openTalk_refused (cc : ChangeCause) (tc : TalkCause) (pri md set : Nat) (x : Part)
    (h : x.dsc.opState ≠ .operate ∨ (x.fmu.link ≠ .protect ∧ x.fmu.link ≠ .exposed)) :
    x.doUpdate cc tc (.openTalk 0 pri md set) = (.state, x) := by
  have refused : x.openRefused .foh = true := by
    unfold Part.openRefused LinkState.up
    rcases h with op | ⟨one, two⟩
    · simp [op]
    · cases link : x.fmu.link <;> simp_all
  exact if_pos refused

/-- PUT_CONTRIB of a new reference with no free entry or a full list (R113). -/
theorem Part.doUpdate_putContrib_full (cc : ChangeCause) (tc : TalkCause) (m b i code : Nat) (r : SrcRef) (x : Part)
    (ref : refOf b i = some r) (full : x.mxe.free = 0 ∨ 48 ≤ (x.mix m).contribs.length) (new : (x.mix m).find r = none) :
    x.doUpdate cc tc (.putContrib m b i code) = (.full, x) := by
  have outcome : x.putOutcome m r code = .full := by
    unfold Part.putOutcome
    rw [new]
    exact if_pos full
  unfold Part.doUpdate
  dsimp only
  rw [ref]
  show x.applyPut m r code cc = _
  unfold Part.applyPut
  rw [outcome]

/-- Settles O37: each of the two updates is refused by its block, and the refusal joins the queue or the marks. -/
theorem refusedUpdateReported : Obligations.RefusedUpdateReported := by
  intro u id why x refusal marks unsent
  have produced : x.applyMsg (.update u) = x.refuse u why ∧ id = refusedId u := by
    rcases refusal with ⟨pri, md, set, rfl, rfl, rfl, h⟩ | ⟨m, b, i, r, code, ref, rfl, rfl, rfl, full, new⟩
    · exact ⟨Part.applyMsg_update_refused _ _ _ x (.inr rfl) (x.doUpdate_openTalk_refused _ _ _ _ _ h), rfl⟩
    · exact ⟨Part.applyMsg_update_refused _ _ _ x (.inl rfl) (x.doUpdate_putContrib_full _ _ m b i _ r ref full new), rfl⟩
  obtain ⟨applied, rfl⟩ := produced
  rw [applied, x.refuse_eq u why marks unsent]
  exact ⟨fun room => if_pos room, fun full => if_neg (by omega)⟩

/-! ### Admission to the transmit queue -/

theorem overlay_eq (new old : Option Nat) : overlay new old = new.or old := by
  cases new <;> rfl

theorem mergeMsg_whole (old new : LaneMsg) (h : old.kind ≠ new.kind ∨ new.kind ∉ [0x01, 0x02, 0x08, 0x09, 0x16]) :
    mergeMsg old new = new := by
  unfold mergeMsg
  split
  case h_6 => rfl
  all_goals simp [LaneMsg.kind, Update.kind] at h

/-- A record that finds no unsent record of its target. -/
theorem admitTo_fresh (msg : LaneMsg) (q : List LaneRec)
    (fresh : ∀ r ∈ clearEdits msg q, r.seq = none → r.msg.target ≠ msg.target) :
    admitTo msg q = if (clearEdits msg q).length < 32 then some (clearEdits msg q ++ [⟨msg, none⟩]) else none := by
  have absent : findFrom (LaneRec.unsentOf msg.target) 0 (clearEdits msg q) = none :=
    findFrom_none _ 0 _ fun r hr => by
      unfold LaneRec.unsentOf
      cases seq : r.seq with
      | none => simpa using fresh r hr seq
      | some n => rfl
  unfold admitTo
  dsimp only
  rw [absent]

/-- A record that takes the place of the oldest unsent record of its target. -/
theorem admitTo_replaces (msg : LaneMsg) (q before after : List LaneRec) (r : LaneRec) (cut : clearEdits msg q = before ++ r :: after)
    (unsent : r.seq = none) (target : r.msg.target = msg.target)
    (oldest : ∀ b ∈ before, b.seq = none → b.msg.target ≠ msg.target) :
    admitTo msg q = some (before ++ ⟨mergeMsg r.msg msg, none⟩ :: after) := by
  have found : findFrom (LaneRec.unsentOf msg.target) 0 (clearEdits msg q) = some before.length := by
    have at_r := findFrom_append (LaneRec.unsentOf msg.target) 0 before r after
      (fun b hb => by
        unfold LaneRec.unsentOf
        cases seq : b.seq with
        | none => simpa using oldest b hb seq
        | some n => rfl)
      (by simp [LaneRec.unsentOf, unsent, target])
    rw [cut, at_r, Nat.zero_add]
  unfold admitTo
  dsimp only
  rw [found, cut]
  exact congrArg some (updAt_append ..)

/-! ### The DESK's requests for stage-owned state -/

theorem Update.noField_clamp (u : Update) : u.clamp.noField = u.noField := by
  cases u <;> simp [Update.clamp, Update.noField, ChanSet.clamp, MixSet.clamp, TalkCfgSet.clamp, LockSet.clamp, ChanSet.opts, MixSet.opts,
    TalkCfgSet.opts, LockSet.opts]

/-- At DESK an update is checked for its identifiers alone. -/
theorem Part.refusal_update_desk (u : Update) (x : Part) (desk : x.dsc.role = .desk) :
    x.refusal (.update u) = if u.identOk .desk then none else some .range := by
  have available : x.unavailable (Request.update u).clamp = false := by
    cases u <;> simp [Request.clamp, Update.clamp, Part.unavailable, desk]
  rw [Part.refusal_eq _ x available (by simp [Part.locked, Request.clamp, desk]), desk]
  rfl

/-- A DESK request for stage-owned state that passes its checks. -/
theorem exec_update_forward (tag : Nat) (u : Update) (s : State) (ready : s.part.PortReady) (desk : s.part.dsc.role = .desk)
    (fits : u.identOk .desk = true) :
    exec (requestRow ⟨tag, .update u⟩) s = .next { s with part := s.part.forward tag u.clamp } := by
  refine (exec_request_act tag (.update u) s ready ((Part.refusal_update_desk u s.part desk).trans (if_pos fits))).trans
    (next_part s ?_)
  show s.part.askUpdate tag u.clamp = _
  unfold Part.askUpdate
  rw [desk]

/-- The DESK's answer to one of the nine requests. -/
theorem exec_update_desk (tag : Nat) (u : Update) (s : State) (ready : s.part.PortReady) (desk : s.part.dsc.role = .desk) :
    (u.identOk .desk = false → exec (requestRow ⟨tag, .update u⟩) s = .next { s with part := s.part.answer tag .range }) ∧
    (u.identOk .desk = true → u.noField = true →
      exec (requestRow ⟨tag, .update u⟩) s = .next { s with part := s.part.answer tag .already }) ∧
    (u.identOk .desk = true → u.noField = false →
      (∀ q, admitTo (.update u.clamp) s.part.ple.queue = some q →
        exec (requestRow ⟨tag, .update u⟩) s =
          .next { s with part := ({ s.part with ple := { s.part.ple with queue := q } } : Part).answer tag .accepted }) ∧
      (admitTo (.update u.clamp) s.part.ple.queue = none →
        exec (requestRow ⟨tag, .update u⟩) s = .next { s with part := s.part.answer tag .full })) := by
  refine ⟨fun off => ?_, fun fits empty => ?_, fun fits fields => ⟨fun q admitted => ?_, fun full => ?_⟩⟩
  · exact exec_request_refused tag (.update u) .range s ready
      ((Part.refusal_update_desk u s.part desk).trans (if_neg (by simp [off])))
  · refine (exec_update_forward tag u s ready desk fits).trans (next_part s ?_)
    exact if_pos ((Update.noField_clamp u).trans empty)
  · refine (exec_update_forward tag u s ready desk fits).trans (next_part s ?_)
    refine (if_neg (by rw [Update.noField_clamp, fields]; nofun)).trans ?_
    rw [admitted]
    rfl
  · refine (exec_update_forward tag u s ready desk fits).trans (next_part s ?_)
    refine (if_neg (by rw [Update.noField_clamp, fields]; nofun)).trans ?_
    rw [full]

/-- Settles O48: the nine requests are one request row each, admission by the first unsent record of the target. -/
theorem updatesForwarded : Obligations.UpdatesForwarded := by
  refine ⟨fun tag u s ready desk => ?_, fun msg queue => ⟨fun fresh => ?_, fun before r after cut unsent target oldest => ?_⟩,
    fun ch k o new => ?_, fun m k o new => ?_, fun o new => ?_, fun o new => ?_, fun id why k id' why' k' => rfl, mergeMsg_whole⟩
  · have answered := exec_update_desk tag u s ready desk
    cases u <;> exact answered
  · exact admitTo_fresh msg queue fresh
  · exact admitTo_replaces msg queue before after r cut unsent target oldest
  all_goals simp [mergeMsg, overlay_eq]

end Sys2Proof.Machine
end

section
/-!
PROOFS. The mixes' own steps (chapter 6): a new version with its echo and notice (R109), freed contributions and the offset phases (R115,
R121, R122), and the three edits of a mix's list (R113, R114).
-/

namespace Sys2Proof.Machine

/-! ### A new version -/

/-- A change of the lane and of the port leaves what every target reports. -/
theorem Part.reports_told (x : Part) (l : Ple) (c : Cmp) (t : Target) :
    ({ x with ple := l, cmp := c } : Part).reports t = x.reports t := by
  cases t <;> rfl

/-- A mix with its version one higher. -/
def Mix.bump (z : Mix) : Mix := { z with version := inc16 z.version }

/-- A new version of a mix, with its echo and its notice (R109). -/
theorem Part.mixVersion_exact (m : Nat) (cause : ChangeCause) (x : Part) :
    x.mixVersion m cause = { x.onMix m Mix.bump with
      ple := (x.onMix m Mix.bump).laneAfter x [.mix m]
      cmp := x.cmp.notify (.mixChanged m ((x.onMix m Mix.bump).mix m).echo cause) } := by
  rw [Part.laneAfter_one (.mix m) (x.onMix m Mix.bump) x (x.onMix m Mix.bump) rfl rfl]
  unfold Part.mixVersion
  rw [Part.echo_lane]
  rfl

/-- The echoes and notices of the contributions changed, in order (R109). -/
theorem Part.contribNotices_exact (m : Nat) (rs : List SrcRef) (cause : ChangeCause) (x : Part) :
    rs.foldl (Part.contribNotice m cause) x = { x with
      ple := x.laneAfter x (rs.map (refTarget m))
      cmp := rs.foldl (fun c q => c.notify (.contribChanged m q ((x.mix m).contribEcho q) cause)) x.cmp } := by
  induction rs using List.reverseRecOn with
  | nil => rfl
  | append_singleton rs r ih =>
    rw [List.foldl_append, List.foldl_cons, List.foldl_nil, ih, List.map_append, List.foldl_append]
    generalize rs.foldl (fun c q => c.notify (.contribChanged m q ((x.mix m).contribEcho q) cause)) x.cmp = told
    rw [show (List.map (refTarget m) [r]) = [refTarget m r] from rfl,
      Part.laneAfter_concat (rs.map (refTarget m)) (refTarget m r) x x
        { x with ple := x.laneAfter x (rs.map (refTarget m)), cmp := told } rfl rfl]
    unfold Part.contribNotice
    rw [Part.echo_lane]
    rfl

/-- A new version of a mix whose contributions change, with an echo and a notice for each (R109). -/
theorem Part.contribVersion_exact (m : Nat) (rs : List SrcRef) (cause : ChangeCause) (x : Part) :
    x.contribVersion m rs cause = { x.onMix m Mix.bump with
      ple := (x.onMix m Mix.bump).laneAfter x (rs.map (refTarget m))
      cmp := rs.foldl (fun c q =>
        c.notify (.contribChanged m q (((x.onMix m Mix.bump).mix m).contribEcho q) cause)) x.cmp } :=
  (x.onMix m Mix.bump).contribNotices_exact m rs cause

/-- A mix changed and told of. -/
theorem Part.mixVersion_changed (m : Nat) (f : Mix → Mix) (cause : ChangeCause) (x : Part) (inside : m < x.mxe.mixes.length) :
    let y := (x.onMix m f).mixVersion m cause
    y.mix m = (f (x.mix m)).bump ∧ (∀ k, k ≠ m → y.mix k = x.mix k) ∧ y.mxe.free = x.mxe.free ∧ y.tka = x.tka ∧ y.chs = x.chs ∧
    y.cmp = x.cmp.notify (.mixChanged m (y.mix m).echo cause) ∧ y.ple = y.laneAfter x [.mix m] := by
  intro y
  have whole : y = _ := (x.onMix m f).mixVersion_exact m cause
  have mixes (k : Nat) : y.mix k = ((x.onMix m f).onMix m Mix.bump).mix k := by rw [whole]; rfl
  have inside' : m < (x.onMix m f).mxe.mixes.length := by simpa [Part.onMix] using inside
  have own : y.mix m = (f (x.mix m)).bump := by
    rw [mixes, Part.mix_onMix, if_pos ⟨rfl, inside'⟩, Part.mix_onMix, if_pos ⟨rfl, inside⟩]
  refine ⟨own, fun k other => ?_, (congrArg (fun p => p.mxe.free) whole :), (congrArg Part.tka whole :),
    (congrArg Part.chs whole :), ?_, ?_⟩
  · rw [mixes, Part.mix_onMix, if_neg fun h => other h.1, Part.mix_onMix, if_neg fun h => other h.1]
  · rw [mixes]
    exact congrArg Part.cmp whole
  · refine (congrArg Part.ple whole).trans (Part.laneAfter_congr _ _ _ _ _ rfl fun t ht => ?_)
    obtain rfl : t = .mix m := by simpa using ht
    show (some (LaneMsg.echoMix m _), none) = (some (LaneMsg.echoMix m (y.mix m).echo), none)
    rw [mixes]

/-! ### A freed contribution -/

theorem Mix.find_split (z : Mix) (before after : List Contrib) (c : Contrib) (cut : z.contribs = before ++ c :: after)
    (first : ∀ b ∈ before, b.ref ≠ c.ref) : z.find c.ref = some c ∧ z.indexOf c.ref = some before.length := by
  constructor
  · unfold Mix.find
    rw [cut, List.find?_append, List.find?_eq_none.mpr fun b hb => by simpa using first b hb]
    simp
  · unfold Mix.indexOf
    rw [cut, findFrom_append _ 0 before c after (fun b hb => by simpa using first b hb) (by simp), Nat.zero_add]

/-- A due freeing, written out. -/
theorem Part.takeFreed_due (m : Nat) (c : Contrib) (before after : List Contrib) (x : Part) (inside : m < x.mxe.mixes.length)
    (cut : (x.mix m).contribs = before ++ c :: after) (first : ∀ b ∈ before, b.ref ≠ c.ref) (retiring : c.live = false)
    (due : c.freeDue = true) :
    x.takeFreed m c.ref = { x with
      mxe := ⟨x.mxe.mixes.set m { x.mix m with contribs := before ++ after }, x.mxe.free + 1⟩
      ple := { x.ple with dump := x.ple.dump.removed m before.length } } := by
  obtain ⟨found, place⟩ := (x.mix m).find_split before after c cut first
  have closed : (before ++ c :: after).eraseIdx before.length = before ++ after := by
    rw [List.eraseIdx_append_of_length_le (Nat.le_refl _), Nat.sub_self]
    rfl
  unfold Part.takeFreed
  rw [found, place]
  dsimp only
  rw [if_pos (by simp [due, retiring])]
  unfold Part.onMix
  dsimp only
  rw [updAt_eq_set m _ Mix.powerOn _ inside]
  show ({ x with mxe := ⟨x.mxe.mixes.set m { x.mix m with contribs := (x.mix m).contribs.eraseIdx before.length }, _⟩, ple := _ } : Part) = _
  rw [cut, closed]

/-! ### The offset phases -/

theorem Mix.inputsSilent_of (z : Mix) (h : ∀ c ∈ z.contribs, c.ref.bank = .input → c.ramp.cur = 0) : z.inputsSilent = true := by
  unfold Mix.inputsSilent
  rw [List.all_eq_true]
  intro c mem
  cases bank : c.ref.bank
  · simp [h c mem bank]
  · simp

theorem Mix.inputsSettled_of (z : Mix)
    (h : ∀ c ∈ z.contribs, c.ref.bank = .input → c.live = true → c.ramp.count = 0 ∧ c.ramp.cur = c.ramp.target) :
    z.inputsSettled = true := by
  unfold Mix.inputsSettled
  rw [List.all_eq_true]
  intro c mem
  cases bank : c.ref.bank
  · cases live : c.live
    · simp
    · simp [h c mem bank live]
  · simp

/-- Outside LEAVING every contribution's target is K of its code while it is LIVE, and 0 otherwise (R112). -/
theorem contribTarget_arriving (c : Contrib) : contribTarget .arriving c = if c.live then faderK c.code else 0 := by
  unfold contribTarget
  cases c.live <;> simp

/-- Settles O43: the freed entry is cut out of the list; each phase end changes its mix and tells of it. -/
theorem mixStepsTaken : Obligations.MixStepsTaken := by
  refine ⟨fun m c before after s inside cut first retiring due => next_part s ?_,
    fun m s inside => ⟨fun due leaving silent => ?_, fun due arriving settled => ?_⟩⟩
  · refine (s.part.takeFreed_due m c before after inside cut first retiring due).trans ?_
    rfl
  · refine ⟨_, next_part s (if_pos ⟨due, leaving, Mix.inputsSilent_of _ silent⟩), ?_⟩
    obtain ⟨own, others, free, tka, chs, cmp, ple⟩ := s.part.mixVersion_changed m
      (fun k => Mix.evalContribs { k with offset := k.pendingOffset, phase := .arriving, leavingDue := false }) .offset inside
    refine ⟨congrArg Mix.echo own, (congrArg Mix.contribs own).trans ?_, others, free, tka, chs, cmp, ple⟩
    show (s.part.mix m).contribs.map _ = _
    exact List.map_congr_left fun c _ => by rw [contribTarget_arriving]
  · refine ⟨_, next_part s (if_pos ⟨due, arriving, Mix.inputsSettled_of _ settled⟩), ?_⟩
    obtain ⟨own, others, free, tka, chs, cmp, ple⟩ := s.part.mixVersion_changed m
      (fun k => { k with phase := .steady, pendingOffset := k.offset, arrivingDue := false }) .offset inside
    exact ⟨(congrArg Mix.echo own :), (congrArg Mix.contribs own :), others, free, tka, chs, cmp, ple⟩

/-! ### The edits of a mix's list -/

/-- An edit of a mix's list (R113, R114). -/
def editsList : Update → Bool
  | .putContrib _ _ _ _ => true
  | .dropContrib _ _ _ => true
  | .clearMix _ => true
  | _ => false

/-- What R172 checks of an edit beside its identifiers: the lock, if the list would change. -/
theorem editsList_checks (u : Update) (x : Part) (edit : editsList u = true) :
    absentAt .stage (.update u) = false ∧ x.unavailable (.update u.clamp) = false ∧
    x.updateLocked u.clamp = (x.chs.locks.mix && x.editChanges u.clamp) := by
  cases u <;> first | exact ⟨rfl, rfl, rfl⟩ | cases edit

/-- An edit of the STAGE host that changes nothing. -/
theorem exec_edit_stands (tag : Nat) (u : Update) (code : ReplyCode) (s : State) (stage : s.part.dsc.role = .stage)
    (edit : editsList u = true) (fits : u.identOk .stage = true) (same : s.part.editChanges u.clamp = false)
    (done : s.part.doUpdate .host .host u.clamp = (code, s.part)) (ready : s.part.PortReady) :
    exec (requestRow ⟨tag, .update u⟩) s = .next { s with part := s.part.answer tag code } := by
  obtain ⟨present, available, lock⟩ := editsList_checks u s.part edit
  have carried := exec_update_done tag u s ready stage present fits available (by rw [lock, same, Bool.and_false])
  rw [done] at carried
  exact carried

/-- An edit that changes the list, from the host and from the lane. -/
theorem exec_edit_done (tag : Nat) (u : Update) (s : State) (y : ChangeCause → Part) (P : Part → ChangeCause → Prop)
    (stage : s.part.dsc.role = .stage) (edit : editsList u = true) (fits : u.identOk .stage = true)
    (changes : s.part.editChanges u.clamp = true) (done : ∀ cc tc, s.part.doUpdate cc tc u.clamp = (.ok, y cc))
    (holds : ∀ cc, P (y cc) cc) :
    (s.part.chs.locks.mix = true → s.part.PortReady →
      exec (requestRow ⟨tag, .update u⟩) s = .next { s with part := s.part.answer tag .locked }) ∧
    (s.part.chs.locks.mix = false → s.part.PortReady →
      ∃ x : Part, exec (requestRow ⟨tag, .update u⟩) s = .next { s with part := x.answer tag .ok } ∧ P x .host) ∧
    P (s.part.applyMsg (.update u)) .lane := by
  obtain ⟨present, available, lock⟩ := editsList_checks u s.part edit
  refine ⟨fun locked ready => ?_, fun free ready => ⟨y .host, ?_, holds .host⟩, ?_⟩
  · exact exec_update_locked tag u s ready stage present fits available (by rw [lock, locked, changes]; rfl)
  · have carried := exec_update_done tag u s ready stage present fits available (by rw [lock, free, Bool.false_and])
    rw [done] at carried
    exact carried
  · rw [Part.applyMsg_done u s.part (y .lane) .ok (done .lane .lane) nofun nofun]
    exact holds .lane

/-- A mix's list changed, with the free entries, and told of (R109). -/
theorem Part.contribVersion_changed (m : Nat) (f : Mix → Mix) (free : Nat) (rs : List SrcRef) (list : List Contrib)
    (cause : ChangeCause) (x : Part) (inside : m < x.mxe.mixes.length) (lists : f (x.mix m) = { x.mix m with contribs := list }) :
    let y := Part.contribVersion m rs cause { x with mxe := { x.mxe with mixes := updAt m f x.mxe.mixes, free := free } }
    y.mix m = { x.mix m with contribs := list, version := ((x.mix m).version + 1) % 65536 } ∧ y.mxe.free = free ∧
    (∀ j, j ≠ m → y.mix j = x.mix j) ∧ y.tka = x.tka ∧ y.chs = x.chs ∧
    y.cmp = rs.foldl (fun c q => c.notify (.contribChanged m q ((y.mix m).contribEcho q) cause)) x.cmp ∧
    y.ple = y.laneAfter x (rs.map (refTarget m)) := by
  intro y
  let w : Part := { x with mxe := { x.mxe with mixes := updAt m f x.mxe.mixes, free := free } }
  have whole : y = _ := w.contribVersion_exact m rs cause
  have mixes (k : Nat) : y.mix k = (w.onMix m Mix.bump).mix k := by rw [whole]; rfl
  have written (k : Nat) : w.mix k = (x.onMix m f).mix k := rfl
  have inside' : m < w.mxe.mixes.length := (Nat.lt_of_lt_of_eq inside (updAt_length m f x.mxe.mixes).symm)
  have own : y.mix m = { x.mix m with contribs := list, version := ((x.mix m).version + 1) % 65536 } := by
    rw [mixes, Part.mix_onMix, if_pos ⟨rfl, inside'⟩, written, Part.mix_onMix, if_pos ⟨rfl, inside⟩, lists]
    rfl
  refine ⟨own, (congrArg (fun p => p.mxe.free) whole :), fun j other => ?_, (congrArg Part.tka whole :),
    (congrArg Part.chs whole :), ?_, ?_⟩
  · rw [mixes, Part.mix_onMix, if_neg fun h => other h.1, written, Part.mix_onMix, if_neg fun h => other h.1]
  · rw [mixes]
    exact (congrArg Part.cmp whole :)
  · have reports (t : Target) : (w.onMix m Mix.bump).reports t = y.reports t := by
      rw [whole]
      exact (Part.reports_told ..).symm
    exact (congrArg Part.ple whole).trans (Part.laneAfter_congr _ _ _ _ _ rfl fun t _ => reports t)

/-- The target of a LIVE contribution (R112). -/
theorem contribTarget_live (phase : Phase) (c : Contrib) (live : c.live = true) :
    contribTarget phase c = if c.ref.bank = .input ∧ phase = .leaving then 0 else faderK c.code := by
  unfold contribTarget
  rw [if_neg (by simp [live])]

theorem Part.doUpdate_putContrib (cc : ChangeCause) (tc : TalkCause) (m b i code : Nat) (r : SrcRef) (x : Part)
    (named : refOf b i = some r) :
    x.doUpdate cc tc (.putContrib m b i code) = x.applyPut m r code cc ∧
    x.editChanges (.putContrib m b i code) = (x.putOutcome m r code == .ok) := by
  unfold Part.doUpdate Part.editChanges
  dsimp only
  rw [named]
  exact ⟨rfl, rfl⟩

theorem Part.doUpdate_dropContrib (cc : ChangeCause) (tc : TalkCause) (m b i : Nat) (r : SrcRef) (x : Part)
    (named : refOf b i = some r) :
    x.doUpdate cc tc (.dropContrib m b i) = x.applyDrop m r cc ∧ x.editChanges (.dropContrib m b i) = x.hasLive m r := by
  unfold Part.doUpdate Part.editChanges
  dsimp only
  rw [named]
  exact ⟨rfl, rfl⟩

/-- PUT_CONTRIB of a new reference with a free entry and room in the mix. -/
theorem Part.applyPut_new (m : Nat) (r : SrcRef) (code : Nat) (cause : ChangeCause) (x : Part) (new : (x.mix m).find r = none)
    (free : 0 < x.mxe.free) (room : (x.mix m).contribs.length < 48) :
    x.putOutcome m r code = .ok ∧ x.applyPut m r code cause = (.ok, Part.contribVersion m [r] cause { x with mxe := { x.mxe with
      mixes := updAt m (fun k => { k with contribs := k.contribs ++ [newContrib k.phase r code] }) x.mxe.mixes
      free := x.mxe.free - 1 } }) := by
  have outcome : x.putOutcome m r code = .ok := by
    unfold Part.putOutcome
    rw [new]
    exact if_neg (by omega)
  refine ⟨outcome, ?_⟩
  unfold Part.applyPut
  rw [outcome, new]
  rfl

/-- PUT_CONTRIB of a reference the mix holds. -/
theorem Part.applyPut_held (m : Nat) (r : SrcRef) (code : Nat) (cause : ChangeCause) (c : Contrib) (x : Part)
    (held : (x.mix m).find r = some c) (differs : c.live = false ∨ c.code ≠ code) :
    x.putOutcome m r code = .ok ∧ x.applyPut m r code cause = (.ok, Part.contribVersion m [r] cause { x with mxe := { x.mxe with
      mixes := updAt m (fun k => k.onRef r (Contrib.put k.phase code)) x.mxe.mixes, free := x.mxe.free } }) := by
  have outcome : x.putOutcome m r code = .ok := by
    unfold Part.putOutcome
    rw [held]
    exact if_neg fun h => by rcases differs with d | d <;> simp_all
  refine ⟨outcome, ?_⟩
  unfold Part.applyPut
  rw [outcome, held]
  rfl

/-- PUT_CONTRIB of a LIVE contribution with its code. -/
theorem Part.applyPut_same (m : Nat) (r : SrcRef) (code : Nat) (cause : ChangeCause) (c : Contrib) (x : Part)
    (held : (x.mix m).find r = some c) (live : c.live = true) (same : c.code = code) :
    x.putOutcome m r code = .already ∧ x.applyPut m r code cause = (.already, x) := by
  have outcome : x.putOutcome m r code = .already := by
    unfold Part.putOutcome
    rw [held]
    exact if_pos ⟨live, same⟩
  refine ⟨outcome, ?_⟩
  unfold Part.applyPut
  rw [outcome]

theorem Mix.find_eq_none (z : Mix) (r : SrcRef) (absent : ∀ c ∈ z.contribs, c.ref ≠ r) : z.find r = none :=
  List.find?_eq_none.mpr fun c mem => by simpa using absent c mem

theorem Part.hasLive_iff (x : Part) (m : Nat) (r : SrcRef) : x.hasLive m r = true ↔ ∃ c, (x.mix m).find r = some c ∧ c.live = true := by
  unfold Part.hasLive
  cases (x.mix m).find r <;> simp

theorem Part.hasLive_false (x : Part) (m : Nat) (r : SrcRef) (idle : ∀ c, (x.mix m).find r = some c → c.live = false) :
    x.hasLive m r = false := by
  rw [Bool.eq_false_iff]
  intro h
  obtain ⟨c, held, live⟩ := (x.hasLive_iff m r).mp h
  rw [idle c held] at live
  cases live

/-- The references of the LIVE contributions are none where no contribution is LIVE. -/
theorem Mix.liveRefs_eq_nil (z : Mix) : z.liveRefs = [] ↔ ∀ c ∈ z.contribs, c.live = false := by
  unfold Mix.liveRefs
  simp

/-- CLEAR_MIX of a mix with a LIVE contribution. -/
theorem Part.applyClear_live (m : Nat) (cause : ChangeCause) (x : Part) (live : (x.mix m).liveRefs ≠ []) :
    x.applyClear m cause = (.ok, Part.contribVersion m (x.mix m).liveRefs cause { x with mxe := { x.mxe with
      mixes := updAt m (fun k => { k with contribs := k.contribs.map fun c => if c.live then c.retire else c }) x.mxe.mixes
      free := x.mxe.free } }) := by
  unfold Part.applyClear
  split
  · next h => exact absurd h live
  · rfl

/-- Settles O51: each edit by what its mix holds of the reference; the host's edits heed the lock, the lane's do not. -/
theorem contributionsEditedAtStage : Obligations.ContributionsEditedAtStage := by
  intro tag m b i code r s stage m_le sixteen ref z k level after put drop clear putRecord dropRecord clearRecord answered stands edited
  have inside : m < s.part.mxe.mixes.length := by omega
  have named : refOf b i = some r := by
    unfold refOf
    rcases ref with ⟨hb, hi, rfl⟩ | ⟨hb, hi, rfl⟩
    · rw [if_pos ⟨hb, hi⟩]
    · rw [if_neg (by omega), if_pos ⟨hb, hi⟩]
  have mixFits : decide (m ≤ 15) = true := decide_eq_true m_le
  have fitsPut : (Update.putContrib m b i code).identOk .stage = true := by simp [Update.identOk, m_le, named]
  have fitsDrop : (Update.dropContrib m b i).identOk .stage = true := by simp [Update.identOk, m_le, named]
  have putDone (cc : ChangeCause) (tc : TalkCause) := s.part.doUpdate_putContrib cc tc m b i k r named
  have dropDone (cc : ChangeCause) (tc : TalkCause) := s.part.doUpdate_dropContrib cc tc m b i r named
  refine ⟨fun new full ready => ?_, fun new free room => ?_, fun c held live same => ⟨fun ready => ?_, ?_⟩, fun c held differs => ?_,
    fun idle => ⟨fun ready => ?_, ?_⟩, fun c held live => ?_, fun idle => ⟨fun ready => ?_, ?_⟩, fun ⟨c, mem, live⟩ => ?_⟩
  · have absent := z.find_eq_none r new
    have outcome : s.part.putOutcome m r k = .full := by
      unfold Part.putOutcome
      rw [absent]
      exact if_pos full
    exact exec_edit_stands tag (.putContrib m b i code) .full s stage rfl fitsPut
      ((putDone .host .host).2.trans (by rw [outcome]; rfl))
      (s.part.doUpdate_putContrib_full .host .host m b i k r named full absent) ready
  · have put (cc : ChangeCause) := s.part.applyPut_new m r k cc (z.find_eq_none r new) free room
    refine exec_edit_done tag (.putContrib m b i code) s _ (fun x cc => after x _ _ _ cc) stage rfl fitsPut
      ((putDone .host .host).2.trans (by rw [(put .host).1]; rfl)) (fun cc tc => (putDone cc tc).1.trans (put cc).2) fun cc => ?_
    refine s.part.contribVersion_changed m _ _ _ _ cc inside ?_
    show { z with contribs := z.contribs ++ [newContrib z.phase r k] } = _
    have target := contribTarget_live z.phase ⟨r, k, Ramp.rest 0, true, false⟩ rfl
    unfold newContrib
    dsimp only
    rw [target]
    rfl
  · have put := s.part.applyPut_same m r k .host c held live same
    exact exec_edit_stands tag (.putContrib m b i code) .already s stage rfl fitsPut
      ((putDone .host .host).2.trans (by rw [put.1]; rfl)) ((putDone .host .host).1.trans put.2) ready
  · exact Part.applyMsg_done (.putContrib m b i code) s.part s.part .already
      ((putDone .lane .lane).1.trans (s.part.applyPut_same m r k .lane c held live same).2) nofun nofun
  · have put (cc : ChangeCause) := s.part.applyPut_held m r k cc c held differs
    refine exec_edit_done tag (.putContrib m b i code) s _ (fun x cc => after x _ _ _ cc) stage rfl fitsPut
      ((putDone .host .host).2.trans (by rw [(put .host).1]; rfl)) (fun cc tc => (putDone cc tc).1.trans (put cc).2) fun cc => ?_
    refine s.part.contribVersion_changed m _ _ _ _ cc inside ?_
    show { z with contribs := z.contribs.map fun c : Contrib => if c.ref = r then Contrib.put z.phase k c else c } = _
    refine congrArg (fun l => { z with contribs := l }) (List.map_congr_left fun c _ => ?_)
    by_cases own : c.ref = r
    · rw [if_pos own, if_pos own]
      unfold Contrib.put
      dsimp only
      rw [contribTarget_live _ _ rfl]
      dsimp only
      rw [own]
    · rw [if_neg own, if_neg own]
  · have none_live := s.part.hasLive_false m r idle
    exact exec_edit_stands tag (.dropContrib m b i) .already s stage rfl fitsDrop ((dropDone .host .host).2.trans none_live)
      ((dropDone .host .host).1.trans (if_neg (by rw [none_live]; nofun))) ready
  · have none_live := s.part.hasLive_false m r idle
    exact Part.applyMsg_done (.dropContrib m b i) s.part s.part .already
      ((dropDone .lane .lane).1.trans (if_neg (by rw [none_live]; nofun))) nofun nofun
  · have live := (s.part.hasLive_iff m r).mpr ⟨c, held, live⟩
    refine exec_edit_done tag (.dropContrib m b i) s _ (fun x cc => after x _ _ _ cc) stage rfl fitsDrop
      ((dropDone .host .host).2.trans live) (fun cc tc => (dropDone cc tc).1.trans (if_pos live)) fun cc => ?_
    exact s.part.contribVersion_changed m (fun k => k.onRef r Contrib.retire) s.part.mxe.free _ _ cc inside rfl
  · exact exec_edit_stands tag (.clearMix m) .already s stage rfl mixFits (by
        show (!(s.part.mix m).liveRefs.isEmpty) = false
        rw [z.liveRefs_eq_nil.mpr idle]
        rfl)
      (by show s.part.applyClear m .host = _; unfold Part.applyClear; rw [z.liveRefs_eq_nil.mpr idle]) ready
  · exact Part.applyMsg_done (.clearMix m) s.part s.part .already
      (by show s.part.applyClear m .lane = _; unfold Part.applyClear; rw [z.liveRefs_eq_nil.mpr idle]) nofun nofun
  · have some_live : (s.part.mix m).liveRefs ≠ [] := fun h => by
      rw [(z.liveRefs_eq_nil).mp h c mem] at live
      cases live
    refine exec_edit_done tag (.clearMix m) s _ (fun x cc => after x _ _ _ cc) stage rfl mixFits
      (by show (!(s.part.mix m).liveRefs.isEmpty) = true; simpa using some_live)
      (fun cc tc => s.part.applyClear_live m cc some_live) fun cc => ?_
    exact s.part.contribVersion_changed m _ s.part.mxe.free _ _ cc inside rfl

end Sys2Proof.Machine
end

section
/-!
PROOFS. SET_CHANNEL at the STAGE end (R88, R91 to R96, R100, R103, R104): the fields written, the phantom request applied, and what is
told.
-/

namespace Sys2Proof.Machine

/-! ### The fields but the phantom request -/

theorem Part.onChannel_self (n : Nat) (f : Channel → Channel) (x : Part) (h : f (x.channel n) = x.channel n) :
    x.onChannel n f = x :=
  congrArg (fun l => { x with chs := { x.chs with channels := l } }) (updAt_self n f Channel.powerOn _ h)

theorem Part.onChannel_onChannel (n : Nat) (f g : Channel → Channel) (x : Part) :
    (x.onChannel n f).onChannel n g = x.onChannel n (g ∘ f) :=
  congrArg (fun l => { x with chs := { x.chs with channels := l } }) (updAt_updAt n g f _)

/-- The gain target, pad, polarity and mute as SET_CHANNEL gives them. -/
def Channel.fields (f : ChanSet) (c : Channel) : Channel :=
  { c with
    gainTarget := f.gain.getD c.gainTarget
    pad := (f.pad.map flagOf).getD c.pad
    inverted := (f.polarity.map flagOf).getD c.inverted
    mute := (f.mute.map flagOf).getD c.mute }

/-- The fields written, with the conditioning target evaluated at the mute (R88, R91). -/
def Channel.write (op : OpState) (f : ChanSet) (c : Channel) : Channel :=
  { c.fields f with ramp := if f.mute.isSome then c.ramp.retarget (condTarget op (c.fields f)) else c.ramp }

/-- The part once the fields but the phantom request are written (R88). -/
def Part.writeFields (n : Nat) (f : ChanSet) (x : Part) : Part :=
  (((x.writeGain n f.gain).writePad n f.pad).writePolarity n f.polarity).writeMute n f.mute

theorem Part.writeGain_eq (n : Nat) (v : Option Nat) (x : Part) :
    x.writeGain n v = x.onChannel n fun c => { c with gainTarget := v.getD c.gainTarget } := by
  cases v with
  | none => exact (x.onChannel_self n _ rfl).symm
  | some g => rfl

theorem Part.writePolarity_eq (n : Nat) (v : Option Nat) (x : Part) :
    x.writePolarity n v = x.onChannel n fun c => { c with inverted := (v.map flagOf).getD c.inverted } := by
  cases v with
  | none => exact (x.onChannel_self n _ rfl).symm
  | some p => rfl

/-- The pad written: a change hands the API a record. -/
theorem Part.writePad_eq (n : Nat) (v : Option Nat) (x : Part) (inside : n < x.chs.channels.length) :
    x.writePad n v = { x.onChannel n fun c => { c with pad := (v.map flagOf).getD c.pad } with
      api := if (v.map flagOf).getD (x.channel n).pad ≠ (x.channel n).pad
        then { x.api with queue := (queuePreamp
          ⟨n, (x.channel n).gain, (v.map flagOf).getD (x.channel n).pad, (x.channel n).phantom.supply⟩ x.api.queue) }
        else x.api } := by
  cases v with
  | none =>
    rw [x.onChannel_self n _ rfl]
    exact congrArg (fun a => { x with api := a }) (if_neg (not_not_intro rfl)).symm
  | some p =>
    unfold Part.writePad
    dsimp only
    by_cases same : flagOf p = (x.channel n).pad
    · rw [if_pos same, x.onChannel_self n _ (by rw [Option.map_some, Option.getD_some, same])]
      exact congrArg (fun a => { x with api := a }) (if_neg (not_not_intro same)).symm
    · have now : (x.onChannel n fun c => { c with pad := flagOf p }).channel n = { x.channel n with pad := flagOf p } := by
        rw [Part.channel_onChannel, if_pos ⟨rfl, inside⟩]
      rw [if_neg same]
      unfold Part.preamp Part.preampRecord
      rw [now]
      exact congrArg (fun a => { x.onChannel n fun c => { c with pad := flagOf p } with api := a }) (if_pos same).symm

theorem Part.writeMute_eq (n : Nat) (v : Option Nat) (x : Part) :
    x.writeMute n v = x.onChannel n fun c =>
      let d := { c with mute := (v.map flagOf).getD c.mute }
      { d with ramp := if v.isSome then c.ramp.retarget (condTarget x.dsc.opState d) else c.ramp } := by
  cases v with
  | none => exact (x.onChannel_self n _ rfl).symm
  | some p => exact x.onChannel_onChannel n (fun c => { c with mute := flagOf p }) _

/-- The fields but the phantom request, written out. -/
theorem Part.writeFields_eq (n : Nat) (f : ChanSet) (x : Part) (inside : n < x.chs.channels.length) :
    x.writeFields n f = { x.onChannel n (Channel.write x.dsc.opState f) with
      api := if ((x.channel n).fields f).pad ≠ (x.channel n).pad
        then { x.api with queue := (queuePreamp
          ⟨n, (x.channel n).gain, ((x.channel n).fields f).pad, (x.channel n).phantom.supply⟩ x.api.queue) }
        else x.api } := by
  have gained : (x.onChannel n fun c => { c with gainTarget := f.gain.getD c.gainTarget }).channel n =
      { x.channel n with gainTarget := f.gain.getD (x.channel n).gainTarget } := by
    rw [Part.channel_onChannel, if_pos ⟨rfl, inside⟩]
  unfold Part.writeFields
  rw [Part.writeGain_eq, Part.writePad_eq _ _ _ (by simpa [Part.onChannel] using inside), gained, Part.writePolarity_eq,
    Part.writeMute_eq]
  unfold Part.onChannel
  dsimp only
  rw [updAt_updAt, updAt_updAt, updAt_updAt]
  rfl

/-! ### The phantom request -/

/-- The phantom state and timer that a changed request gives in OPERATE, if it moves the channel (R95, R96, Table 5-4). -/
def Part.phantomMove (x : Part) (n : Nat) (on : Bool) : Option (Phantom × Nat) :=
  if (x.channel n).request = on ∨ x.dsc.opState ≠ .operate then none
  else match on, (x.channel n).phantom with
    | true, .off => if x.rising < 6 then some (.rising, 12000) else some (.queued, 0)
    | false, .queued => some (.off, 0)
    | false, .rising => some (.falling, 24000)
    | false, .on => some (.falling, 24000)
    | _, _ => none

/-- A channel with its request written, moved. -/
def Channel.ask (op : OpState) (on : Bool) (move : Option (Phantom × Nat)) (c : Channel) : Channel :=
  match move with
  | some (st, timer) => Channel.enter op st timer { c with request := on }
  | none => { c with request := on }

/-- The phantom queue as a request leaves it, before a freed place is taken. -/
def phantomQueueAsked (n : Nat) (move : Option (Phantom × Nat)) (queue : List Nat) : List Nat :=
  match move with
  | some (.queued, _) => queue ++ [n]
  | some (.off, _) => queue.filter fun k => k != n
  | _ => queue

/-- The part with a channel's request written and its move made, before a freed place is taken. -/
def Part.asked (x : Part) (n : Nat) (on : Bool) : Part :=
  { x with
    chs := { x.chs with
      channels := updAt n (Channel.ask x.dsc.opState on (x.phantomMove n on)) x.chs.channels
      phantomQueue := phantomQueueAsked n (x.phantomMove n on) x.chs.phantomQueue }
    api := match x.phantomMove n on with
      | some (st, _) =>
        if (x.channel n).phantom.supply != st.supply
        then { x.api with queue := queuePreamp ⟨n, (x.channel n).gain, (x.channel n).pad, st.supply⟩ x.api.queue }
        else x.api
      | none => x.api }

/-- A request frees a RISING place. -/
def Part.freesPlace (x : Part) (n : Nat) (on : Bool) : Bool :=
  (x.phantomMove n on).isSome && !on && (x.channel n).phantom == .rising

theorem Part.freesPlace_iff (x : Part) (n : Nat) (on : Bool) :
    x.freesPlace n on = true ↔ x.phantomMove n on ≠ none ∧ on = false ∧ (x.channel n).phantom = .rising := by
  unfold Part.freesPlace
  simp [Option.isSome_iff_ne_none, and_assoc]

/-- With no move a request is written alone. -/
theorem Part.asked_still (x : Part) (n : Nat) (on : Bool) (still : x.phantomMove n on = none) :
    x.asked n on = x.onChannel n fun c => { c with request := on } := by
  unfold Part.asked
  rw [still]
  rfl

/-- A state entered by a request, in the terms of `asked`. -/
theorem Part.setPhantom_request (n : Nat) (on : Bool) (st : Phantom) (timer : Nat) (queue : List Nat) (x : Part)
    (inside : n < x.chs.channels.length) :
    Part.setPhantom n st timer { x.onChannel n fun c => { c with request := on } with
      chs := { (x.onChannel n fun c => { c with request := on }).chs with phantomQueue := queue } } = { x with
        chs := { x.chs with
          channels := updAt n (Channel.ask x.dsc.opState on (some (st, timer))) x.chs.channels, phantomQueue := queue }
        api := if (x.channel n).phantom.supply != st.supply
          then { x.api with queue := queuePreamp ⟨n, (x.channel n).gain, (x.channel n).pad, st.supply⟩ x.api.queue }
          else x.api } := by
  have asked : (x.onChannel n fun c => { c with request := on }).channel n = { x.channel n with request := on } := by
    rw [Part.channel_onChannel, if_pos ⟨rfl, inside⟩]
  have held : ({ x.onChannel n fun c => { c with request := on } with
      chs := { (x.onChannel n fun c => { c with request := on }).chs with phantomQueue := queue } } : Part).channel n =
      { x.channel n with request := on } := asked
  rw [Part.setPhantom_exact _ _ _ _ (by simpa [Part.onChannel] using inside), held]
  unfold Part.onChannel
  dsimp only
  rw [updAt_updAt]
  rfl

/-- A request written on a channel it is off of. -/
theorem Part.phantomMove_of (x : Part) (n : Nat) (on : Bool) (differs : (x.channel n).request ≠ on) (op : x.dsc.opState = .operate) :
    x.phantomMove n on = match (generalizing := false) on, (x.channel n).phantom with
      | true, .off => if x.rising < 6 then some (.rising, 12000) else some (.queued, 0)
      | false, .queued => some (.off, 0)
      | false, .rising => some (.falling, 24000)
      | false, .on => some (.falling, 24000)
      | _, _ => none :=
  if_neg (not_or.mpr ⟨differs, not_not_intro op⟩)

/-- The request off in OPERATE, by the channel's state (R96, Table 5-4). -/
theorem Part.phantomOff_eq (n : Nat) (x : Part) (inside : n < x.chs.channels.length) (differs : (x.channel n).request ≠ false)
    (op : x.dsc.opState = .operate) :
    x.phantomOff n = if x.freesPlace n false then (x.asked n false).promote else x.asked n false := by
  have move := x.phantomMove_of n false differs op
  have entered (st : Phantom) (timer : Nat) (queue : List Nat) := x.setPhantom_request n false st timer queue inside
  unfold Part.phantomOff
  dsimp only
  cases state : (x.channel n).phantom <;> rw [state] at move
  case rising =>
    rw [if_pos ((x.freesPlace_iff n false).mpr ⟨by rw [move]; nofun, rfl, state⟩)]
    have falls := entered .falling 24000 x.chs.phantomQueue
    unfold Part.asked
    rw [move]
    exact congrArg Part.promote falls
  all_goals rw [if_neg fun h => by have rises := ((x.freesPlace_iff n false).mp h).2.2; rw [state] at rises; cases rises]
  case off | falling => exact (x.asked_still n false move).symm
  case queued =>
    have leaves := entered .off 0 (x.chs.phantomQueue.filter fun k => k != n)
    unfold Part.asked
    rw [move]
    exact leaves
  case on =>
    have falls := entered .falling 24000 x.chs.phantomQueue
    unfold Part.asked
    rw [move]
    exact falls

/-- The request on in OPERATE, by the channel's state (R95). -/
theorem Part.phantomOn_eq (n : Nat) (x : Part) (inside : n < x.chs.channels.length) (differs : (x.channel n).request ≠ true)
    (op : x.dsc.opState = .operate) : x.phantomOn n = x.asked n true := by
  have move := x.phantomMove_of n true differs op
  unfold Part.phantomOn
  cases state : (x.channel n).phantom <;> rw [state] at move
  case off =>
    dsimp only at move ⊢
    have rising : (x.onChannel n fun c => { c with request := true }).rising = x.rising :=
      Part.rising_of_view (x.onChannel_phantom n _ fun _ => rfl)
    unfold Part.offerPhantom
    rw [rising]
    by_cases few : x.rising < 6
    · rw [if_pos few] at move ⊢
      have rises := x.setPhantom_request n true .rising 12000 x.chs.phantomQueue inside
      unfold Part.asked
      rw [move]
      exact rises
    · rw [if_neg few] at move ⊢
      have waits := x.setPhantom_request n true .queued 0 x.chs.phantomQueue inside
      unfold Part.asked
      rw [move]
      have waits : Part.setPhantom n .queued 0 (x.onChannel n fun c => { c with request := true }) = _ := waits
      rw [waits]
      rfl
  all_goals exact (x.asked_still n true move).symm

/-- A phantom request applied (R95, R96, R100). -/
theorem Part.applyPhantom_eq (n : Nat) (on : Bool) (x : Part) (inside : n < x.chs.channels.length) :
    x.applyPhantom n on = if x.freesPlace n on then (x.asked n on).promote else x.asked n on := by
  have stays (still : x.phantomMove n on = none) :
      (if x.freesPlace n on then (x.asked n on).promote else x.asked n on) = x.onChannel n fun c => { c with request := on } := by
    rw [if_neg fun h => ((x.freesPlace_iff n on).mp h).1 still, x.asked_still n on still]
  unfold Part.applyPhantom
  by_cases same : (x.channel n).request = on
  · rw [if_pos same, stays (if_pos (.inl same))]
    exact (x.onChannel_self n _ (by rw [← same])).symm
  · rw [if_neg same]
    by_cases op : x.dsc.opState = .operate
    · rw [if_pos op]
      cases on with
      | true =>
        rw [if_pos rfl, if_neg fun h => by cases ((x.freesPlace_iff n true).mp h).2.1]
        exact x.phantomOn_eq n inside same op
      | false => exact x.phantomOff_eq n inside same op
    · rw [if_neg op, stays (if_pos (.inr op))]

/-! ### Fields and request together -/

/-- Of two records of one channel the later stands. -/
theorem queuePreamp_queuePreamp (r₁ r₂ : PreampRecord) (q : List PreampRecord) (same : r₁.channel = r₂.channel) :
    queuePreamp r₂ (queuePreamp r₁ q) = queuePreamp r₂ q := by
  unfold queuePreamp
  rw [same]
  by_cases waits : q.any (fun e => e.channel == r₂.channel) = true
  · rw [if_pos waits, if_pos waits]
    have still : (q.map fun e => if e.channel = r₂.channel then r₁ else e).any (fun e => e.channel == r₂.channel) = true := by
      rw [List.any_eq_true] at waits ⊢
      obtain ⟨e, mem, own⟩ := waits
      exact ⟨r₁, List.mem_map.mpr ⟨e, mem, if_pos (by simpa using own)⟩, by simpa using same⟩
    rw [if_pos still, List.map_map]
    refine List.map_congr_left fun e _ => ?_
    show (if (if e.channel = r₂.channel then r₁ else e).channel = r₂.channel then r₂ else if e.channel = r₂.channel then r₁ else e) = _
    by_cases own : e.channel = r₂.channel
    · rw [if_pos own, if_pos own, if_pos same]
    · rw [if_neg own, if_neg own]
  · rw [if_neg waits, if_neg waits, if_pos (by simp [same]), List.map_append]
    have others : q.map (fun e => if e.channel = r₂.channel then r₂ else e) = q := by
      refine (List.map_congr_left fun e mem => if_neg fun own => waits ?_).trans (List.map_id q)
      exact List.any_eq_true.mpr ⟨e, mem, by simpa using own⟩
    rw [others]
    simp [same]

/-- A record handed to the API (R17). -/
def Api.hand (r : PreampRecord) (a : Api) : Api := { a with queue := queuePreamp r a.queue }

/-- Two records of one channel handed over, the first of them the same as the second where the second is not. -/
theorem Api.hand_hand (a : Api) (p q : Prop) [Decidable p] [Decidable q] (r₁ r₂ : PreampRecord) (same : r₁.channel = r₂.channel)
    (still : ¬ q → r₁ = r₂) :
    (if q then (if p then a.hand r₁ else a).hand r₂ else if p then a.hand r₁ else a) = if p ∨ q then a.hand r₂ else a := by
  have later : (a.hand r₁).hand r₂ = a.hand r₂ := congrArg (fun l => { a with queue := l }) (queuePreamp_queuePreamp r₁ r₂ a.queue same)
  by_cases hp : p <;> by_cases hq : q <;> simp only [hp, hq, if_true, if_false, or_self, or_true, or_false]
  · exact later
  · rw [still hq]

/-- A channel as SET_CHANNEL leaves it, but for its version. -/
def Channel.set (op : OpState) (f : ChanSet) (on : Bool) (move : Option (Phantom × Nat)) (c : Channel) : Channel :=
  (c.write op f).ask op on move

theorem Channel.set_fields (op : OpState) (f : ChanSet) (on : Bool) (move : Option (Phantom × Nat)) (c : Channel) :
    (c.set op f on move).gainTarget = f.gain.getD c.gainTarget ∧ (c.set op f on move).pad = (f.pad.map flagOf).getD c.pad ∧
    (c.set op f on move).inverted = (f.polarity.map flagOf).getD c.inverted ∧
    (c.set op f on move).mute = (f.mute.map flagOf).getD c.mute ∧ (c.set op f on move).request = on ∧
    (c.set op f on move).version = c.version ∧ (c.set op f on move).gain = c.gain ∧
    (c.set op f on move).walkTimer = c.walkTimer ∧
    ((c.set op f on move).phantom, (c.set op f on move).phantomTimer) = move.getD (c.phantom, c.phantomTimer) := by
  cases move <;> exact ⟨rfl, rfl, rfl, rfl, rfl, rfl, rfl, rfl, rfl⟩

/-- The conditioning target where the mute is written or the state moves (R91). -/
theorem Channel.set_target (op : OpState) (f : ChanSet) (on : Bool) (move : Option (Phantom × Nat)) (c : Channel)
    (h : f.mute.isSome = true ∨ move ≠ none) :
    (c.set op f on move).ramp.target = condTarget op (c.set op f on move) := by
  cases move with
  | none =>
    have written : f.mute.isSome = true := h.resolve_right (not_not_intro rfl)
    show (if f.mute.isSome then c.ramp.retarget (condTarget op (c.fields f)) else c.ramp).target = condTarget op (c.fields f)
    rw [if_pos written, Ramp.retarget_target]
  | some m => exact Ramp.retarget_target ..

/-- The fields written leave what a request's move depends on. -/
theorem Part.phantomMove_writeFields (n : Nat) (f : ChanSet) (x : Part) (inside : n < x.chs.channels.length) (on : Bool) :
    (x.writeFields n f).phantomMove n on = x.phantomMove n on ∧
    (x.writeFields n f).freesPlace n on = x.freesPlace n on := by
  have written := x.writeFields_eq n f inside
  have rising : (x.writeFields n f).rising = x.rising := by
    rw [written]
    exact Part.rising_of_view (x.onChannel_phantom n _ fun _ => rfl)
  have chan : (x.writeFields n f).channel n = (x.channel n).write x.dsc.opState f := by
    rw [Part.channel_updAt x _ n n inside _ (congrArg (fun y => y.chs.channels) written), if_pos rfl]
  have op : (x.writeFields n f).dsc.opState = x.dsc.opState := by rw [written]; rfl
  have move : (x.writeFields n f).phantomMove n on = x.phantomMove n on := by
    unfold Part.phantomMove
    rw [rising, chan, op]
    rfl
  refine ⟨move, ?_⟩
  unfold Part.freesPlace
  rw [move, chan]
  rfl

/-- The fields and the request written, before a freed place is taken. -/
theorem Part.writeFields_asked (n : Nat) (f : ChanSet) (on : Bool) (x : Part) (inside : n < x.chs.channels.length) :
    (x.writeFields n f).asked n on =
      let now := (x.channel n).set x.dsc.opState f on (x.phantomMove n on)
      { x with
        chs := { x.chs with
          channels := updAt n (Channel.set x.dsc.opState f on (x.phantomMove n on)) x.chs.channels
          phantomQueue := phantomQueueAsked n (x.phantomMove n on) x.chs.phantomQueue }
        api := if now.pad ≠ (x.channel n).pad ∨ now.phantom.supply ≠ (x.channel n).phantom.supply
          then { x.api with queue := queuePreamp ⟨n, now.gain, now.pad, now.phantom.supply⟩ x.api.queue }
          else x.api } := by
  have written := x.writeFields_eq n f inside
  have chan : (x.writeFields n f).channel n = (x.channel n).write x.dsc.opState f := by
    rw [Part.channel_updAt x _ n n inside _ (congrArg (fun y => y.chs.channels) written), if_pos rfl]
  have once (st : Phantom) := x.api.hand_hand (((x.channel n).fields f).pad ≠ (x.channel n).pad)
    (st.supply ≠ (x.channel n).phantom.supply)
    ⟨n, (x.channel n).gain, ((x.channel n).fields f).pad, (x.channel n).phantom.supply⟩
    ⟨n, (x.channel n).gain, ((x.channel n).fields f).pad, st.supply⟩ rfl (fun still => by rw [not_not.mp still])
  unfold Part.asked
  rw [(x.phantomMove_writeFields n f inside on).1, chan, written]
  unfold Part.onChannel
  dsimp only
  rw [updAt_updAt]
  cases x.phantomMove n on with
  | none =>
    refine congrArg (fun a => ({ x with chs := _, api := a } : Part)) ?_
    refine Eq.trans ?_ (once (x.channel n).phantom)
    exact (if_neg (not_not_intro rfl)).symm
  | some move =>
    refine congrArg (fun a => ({ x with chs := _, api := a } : Part)) ?_
    refine Eq.trans ?_ (once move.1)
    refine ite_congr ?_ (fun _ => rfl) fun _ => rfl
    exact propext ⟨fun h => (bne_iff_ne.mp h).symm, fun h => bne_iff_ne.mpr h.symm⟩

/-- The request that SET_CHANNEL leaves. -/
def ChanSet.request (f : ChanSet) (c : Channel) : Bool := (f.phantom.map flagOf).getD c.request

/-- The part with the fields and the request of SET_CHANNEL written. -/
def Part.setChannel (n : Nat) (f : ChanSet) (x : Part) : Part := (x.writeFields n f).writePhantom n f.phantom

/-- The channel that SET_CHANNEL leaves, but for its version. -/
def Part.channelNow (x : Part) (n : Nat) (f : ChanSet) : Channel :=
  (x.channel n).set x.dsc.opState f (ChanSet.request f (x.channel n)) (x.phantomMove n (ChanSet.request f (x.channel n)))

/-- What the API then holds of the channel itself. -/
def Part.channelHanded (x : Part) (n : Nat) (f : ChanSet) : Api :=
  if (x.channelNow n f).pad ≠ (x.channel n).pad ∨ (x.channelNow n f).phantom.supply ≠ (x.channel n).phantom.supply
  then x.api.hand ⟨n, (x.channelNow n f).gain, (x.channelNow n f).pad, (x.channelNow n f).phantom.supply⟩
  else x.api

theorem Part.setChannel_eq (n : Nat) (f : ChanSet) (x : Part) (inside : n < x.chs.channels.length) :
    x.setChannel n f =
      if x.freesPlace n (ChanSet.request f (x.channel n))
      then ((x.writeFields n f).asked n (ChanSet.request f (x.channel n))).promote
      else (x.writeFields n f).asked n (ChanSet.request f (x.channel n)) := by
  have written := x.writeFields_eq n f inside
  have chan : (x.writeFields n f).channel n = (x.channel n).write x.dsc.opState f := by
    rw [Part.channel_updAt x _ n n inside _ (congrArg (fun y => y.chs.channels) written), if_pos rfl]
  have inside' : n < (x.writeFields n f).chs.channels.length := by rw [written]; simpa [Part.onChannel] using inside
  have applied := (x.writeFields n f).applyPhantom_eq n (ChanSet.request f (x.channel n)) inside'
  rw [(x.phantomMove_writeFields n f inside _).2] at applied
  rw [← applied]
  unfold Part.setChannel ChanSet.request
  cases f.phantom with
  | none =>
    refine (if_pos ?_).symm
    rw [chan]
    rfl
  | some p => rfl

/-- What SET_CHANNEL makes of the Channel Store and of the API, before the version. -/
structure Part.ChannelSet (x y : Part) (n : Nat) (f : ChanSet) : Prop where
  frame : ∃ chs a, y = { x with chs := chs, api := a }
  locks : y.chs.locks = x.chs.locks
  size : y.chs.channels.length = x.chs.channels.length
  own : y.channel n = x.channelNow n f
  queue : y.chs.phantomQueue =
    if x.freesPlace n (ChanSet.request f (x.channel n)) then x.chs.phantomQueue.tail
    else phantomQueueAsked n (x.phantomMove n (ChanSet.request f (x.channel n))) x.chs.phantomQueue
  rises : ∀ k, k ≠ n → x.freesPlace n (ChanSet.request f (x.channel n)) = true → x.chs.phantomQueue.head? = some k →
    y.channel k = (x.channel k).enter x.dsc.opState .rising 12000
  stands : ∀ k, k ≠ n → ¬ (x.freesPlace n (ChanSet.request f (x.channel n)) = true ∧ x.chs.phantomQueue.head? = some k) →
    y.channel k = x.channel k
  hands : ∀ k, x.freesPlace n (ChanSet.request f (x.channel n)) = true → x.chs.phantomQueue.head? = some k →
    y.api = (x.channelHanded n f).hand ⟨k, (x.channel k).gain, (x.channel k).pad, true⟩
  keeps : ¬ (x.freesPlace n (ChanSet.request f (x.channel n)) = true ∧ x.chs.phantomQueue ≠ []) → y.api = x.channelHanded n f

theorem Part.setChannel_set (n : Nat) (f : ChanSet) (x : Part) (inv : x.PhantomInv) (le : n ≤ 63) :
    Part.ChannelSet x (x.setChannel n f) n f := by
  obtain ⟨sixtyFour, few, once, queued⟩ := inv
  have inside : n < x.chs.channels.length := by omega
  have whole := x.setChannel_eq n f inside
  have asked := x.writeFields_asked n f (ChanSet.request f (x.channel n)) inside
  generalize hw : (x.writeFields n f).asked n (ChanSet.request f (x.channel n)) = w at whole asked
  have api : w.api = x.channelHanded n f := (congrArg Part.api asked :)
  have chan (k : Nat) : w.channel k = if k = n then x.channelNow n f else x.channel k :=
    Part.channel_updAt x _ n k inside w (congrArg (fun y => y.chs.channels) asked :)
  have queue : w.chs.phantomQueue = phantomQueueAsked n (x.phantomMove n (ChanSet.request f (x.channel n))) x.chs.phantomQueue :=
    (congrArg (fun y => y.chs.phantomQueue) asked :)
  have size : w.chs.channels.length = x.chs.channels.length :=
    (congrArg (fun y => y.chs.channels.length) asked).trans (updAt_length ..)
  have locks : w.chs.locks = x.chs.locks := (congrArg (fun y => y.chs.locks) asked :)
  have frame : w = { x with chs := w.chs, api := w.api } := by rw [asked]
  cases frees : x.freesPlace n (ChanSet.request f (x.channel n)) with
  | false =>
    rw [frees] at whole
    rw [whole.trans (if_neg nofun)]
    refine ⟨⟨_, _, frame⟩, locks, size, (chan n).trans (if_pos rfl), queue.trans (if_neg (by rw [frees]; nofun)).symm, fun k _ h => ?_,
      fun k other _ => (chan k).trans (if_neg other), fun k h => ?_, fun _ => api⟩ <;> (rw [frees] at h; cases h)
  | true =>
    obtain ⟨moves, off, rising⟩ := (x.freesPlace_iff n _).mp frees
    rw [frees] at whole
    rw [whole.trans (if_pos rfl)]
    have stays : w.chs.phantomQueue = x.chs.phantomQueue := by
      have falls : x.phantomMove n (ChanSet.request f (x.channel n)) = some (.falling, 24000) := by
        unfold Part.phantomMove at moves ⊢
        rw [off, rising] at moves ⊢
        split
        · next h => exact absurd (if_pos h) moves
        · rfl
      rw [queue, falls]
      rfl
    cases waits : x.chs.phantomQueue with
    | nil =>
      have idle : w.promote = w := by unfold Part.promote; rw [stays, waits]
      rw [idle]
      refine ⟨⟨_, _, frame⟩, locks, size, (chan n).trans (if_pos rfl), by rw [stays, waits, if_pos frees]; rfl,
        fun k _ _ h => ?_, fun k other _ => (chan k).trans (if_neg other), fun k _ h => ?_, fun _ => api⟩ <;>
        (rw [waits] at h; cases h)
    | cons k rest =>
      obtain ⟨kIn, kQueued⟩ := (queued k).mp (by rw [waits]; exact List.mem_cons_self)
      have kn : k ≠ n := fun e => by rw [e, rising] at kQueued; cases kQueued
      have kept : w.channel k = x.channel k := by rw [chan, if_neg kn]
      have up := Part.promote_cons k rest w (stays.trans waits) (by omega) (by rw [kept]; exact kQueued)
      have chan' (j : Nat) := Part.channel_updAt w _ k j (by omega) _ (congrArg (fun y => y.chs.channels) up)
      have op : w.dsc.opState = x.dsc.opState := by rw [frame]
      refine ⟨⟨w.promote.chs, w.promote.api, ?_⟩, ?_, ?_, ?_, ?_, fun j _ _ head => ?_, fun j other notHead => ?_, fun j _ head => ?_,
        fun h => absurd ⟨frees, by rw [waits]; nofun⟩ h⟩
      · rw [up, frame]
      · rw [up]; exact locks
      · rw [up]; exact (updAt_length ..).trans size
      · rw [chan', if_neg (Ne.symm kn), chan, if_pos rfl]
      · rw [up, waits, if_pos frees]; rfl
      · rw [waits] at head
        obtain rfl : k = j := by simpa using head
        rw [chan', if_pos rfl, kept, op]
      · rw [waits] at notHead
        rw [chan', if_neg fun e => notHead ⟨frees, by rw [e]; rfl⟩, chan, if_neg other]
      · rw [waits] at head
        obtain rfl : k = j := by simpa using head
        rw [up, kept, ← api]
        rfl

/-- State, timer and queue after a request that changes in OPERATE (R95, R96, Table 5-4). -/
theorem Part.phantomMove_table (x : Part) (n : Nat) (on : Bool) (differs : (x.channel n).request ≠ on)
    (op : x.dsc.opState = .operate) :
    let move := x.phantomMove n on
    let c := x.channel n
    let queue := x.chs.phantomQueue
    ((move.getD (c.phantom, c.phantomTimer)).1, (move.getD (c.phantom, c.phantomTimer)).2,
      if x.freesPlace n on then queue.tail else phantomQueueAsked n move queue) =
      match (generalizing := false) on, c.phantom with
      | true, .off => if x.rising < 6 then (.rising, 12000, queue) else (.queued, 0, queue ++ [n])
      | false, .queued => (.off, 0, queue.filter fun k => k != n)
      | false, .rising => (.falling, 24000, queue.tail)
      | false, .on => (.falling, 24000, queue)
      | _, st => (st, c.phantomTimer, queue) := by
  have move := x.phantomMove_of n on differs op
  dsimp only
  unfold Part.freesPlace
  rw [move]
  cases on <;> cases state : (x.channel n).phantom <;> dsimp only
  case true.off => by_cases few : x.rising < 6 <;> simp only [few, if_true, if_false] <;> rfl
  all_goals rfl

/-- A request frees a place where it changes in OPERATE, to off, on a RISING channel. -/
theorem Part.freesPlace_iff_acts (x : Part) (n : Nat) (on : Bool) :
    x.freesPlace n on = true ↔ (on ≠ (x.channel n).request ∧ x.dsc.opState = .operate) ∧ on = false ∧ (x.channel n).phantom = .rising := by
  rw [x.freesPlace_iff]
  constructor
  · rintro ⟨moves, off, rising⟩
    refine ⟨⟨fun same => moves (if_pos (.inl same.symm)), ?_⟩, off, rising⟩
    by_contra idle
    exact moves (if_pos (.inr idle))
  · rintro ⟨⟨differs, op⟩, rfl, rising⟩
    refine ⟨?_, rfl, rising⟩
    rw [x.phantomMove_of n false differs.symm op, rising]
    nofun

theorem Part.phantomMove_idle (x : Part) (n : Nat) (on : Bool) (idle : ¬ (on ≠ (x.channel n).request ∧ x.dsc.opState = .operate)) :
    x.phantomMove n on = none := by
  refine if_pos ?_
  by_cases same : (x.channel n).request = on
  · exact .inl same
  · exact .inr fun op => idle ⟨Ne.symm same, op⟩

/-- The echo that SET_CHANNEL leaves is as it was exactly where no field changes (R88). -/
theorem Part.channelNow_echo (x : Part) (n : Nat) (f : ChanSet) :
    (x.channelNow n f).echo = (x.channel n).echo ↔
      f.gain.getD (x.channel n).gainTarget = (x.channel n).gainTarget ∧ (f.pad.map flagOf).getD (x.channel n).pad = (x.channel n).pad ∧
      (f.polarity.map flagOf).getD (x.channel n).inverted = (x.channel n).inverted ∧
      (f.mute.map flagOf).getD (x.channel n).mute = (x.channel n).mute ∧
      ChanSet.request f (x.channel n) = (x.channel n).request := by
  obtain ⟨gain, pad, inverted, mute, request, version, -, -, state⟩ := (x.channel n).set_fields x.dsc.opState f
    (ChanSet.request f (x.channel n)) (x.phantomMove n (ChanSet.request f (x.channel n)))
  unfold Part.channelNow Channel.echo
  constructor
  · intro same
    simp only [ChanEcho.mk.injEq, gain, pad, inverted, mute, request] at same
    exact ⟨same.2.1, same.2.2.1, same.2.2.2.1, same.2.2.2.2.1, same.2.2.2.2.2.1⟩
  · rintro ⟨sameGain, samePad, samePolarity, sameMute, sameRequest⟩
    have phantom := congrArg Prod.fst state
    rw [x.phantomMove_idle n _ fun h => h.1 sameRequest] at phantom gain pad inverted mute request version ⊢
    rw [gain, pad, inverted, mute, request, version, show (Channel.set _ _ _ _ _).phantom = _ from phantom, sameGain, samePad,
      samePolarity, sameMute, sameRequest]
    rfl

theorem Nodup.length_filter_ne {l : List Nat} (once : l.Nodup) (n : Nat) (mem : n ∈ l) :
    (l.filter fun k => k != n).length = l.length - 1 := by
  rw [← once.erase_eq_filter n, List.length_erase_of_mem mem]

/-- As many channels are RISING where the same channels are. -/
theorem Part.rising_of_channels {x y : Part} (size : y.chs.channels.length = x.chs.channels.length)
    (same : ∀ k, (y.channel k).phantom = .rising ↔ (x.channel k).phantom = .rising) : y.rising = x.rising := by
  have marks (z : Part) : z.rising = (z.chs.channels.map fun c => c.phantom == .rising).count true := by
    rw [Part.rising, List.count, List.countP_map, List.countP_eq_length_filter]
    exact congrArg List.length (List.filter_congr fun c _ => by simp)
  rw [marks, marks]
  refine congrArg (List.count true) (List.ext_getElem (by simpa using size) fun k hy hx => ?_)
  have hy : k < y.chs.channels.length := by simpa using hy
  have hx : k < x.chs.channels.length := by simpa using hx
  have at_k := same k
  unfold Part.channel at at_k
  rw [List.getD_eq_getElem?_getD, List.getD_eq_getElem?_getD, List.getElem?_eq_getElem hy, List.getElem?_eq_getElem hx,
    Option.getD_some, Option.getD_some] at at_k
  rw [List.getElem_map, List.getElem_map, Bool.eq_iff_iff, beq_iff_eq, beq_iff_eq]
  exact at_k

/-- SET_CHANNEL's changed fields, told of (R87, R103). -/
def Part.channelTold (n : Nat) (f : ChanSet) (cause : ChangeCause) (x : Part) : Part :=
  let z := (x.setChannel n f).channelVersion n cause
  if (x.channel n).phantom = .queued ∧ (x.channelNow n f).phantom = .off then z.phantomDone n .request else z

theorem Part.applyChannel_eq (n : Nat) (f : ChanSet) (cause : ChangeCause) (x : Part) (inv : x.PhantomInv) (le : n ≤ 63) :
    x.applyChannel n f cause =
      if (x.channelNow n f).echo = (x.channel n).echo then (false, x) else (true, x.channelTold n f cause) := by
  have own := (x.setChannel_set n f inv le).own
  show (if ((x.setChannel n f).channel n).echo = (x.channel n).echo then (false, x)
    else (true, if (x.channel n).phantom = .queued ∧ ((x.setChannel n f).channel n).phantom = .off
      then ((x.setChannel n f).channelVersion n cause).phantomDone n .request else (x.setChannel n f).channelVersion n cause)) = _
  rw [own]
  rfl

/-- What a changed channel is told of with. -/
structure Part.ChannelTold (x y : Part) (n : Nat) (f : ChanSet) (cause : ChangeCause) : Prop where
  own : y.channel n = (x.channelNow n f).bump
  others : ∀ k, k ≠ n → y.channel k = (x.setChannel n f).channel k
  queue : y.chs.phantomQueue = (x.setChannel n f).chs.phantomQueue
  api : y.api = (x.setChannel n f).api
  rest : y.mxe = x.mxe ∧ y.tka = x.tka ∧ y.fmu = x.fmu ∧ y.chs.locks = x.chs.locks
  lane : y.ple = y.laneAfter x [.channel n]
  leaves : (x.channel n).phantom = .queued ∧ (x.channelNow n f).phantom = .off →
    y.cmp = (x.cmp.notify (.channelChanged n (x.channelNow n f).bump.echo cause)).notify
      (.phantomDone n .off .request x.rising (x.setChannel n f).chs.phantomQueue.length)
  plain : ¬ ((x.channel n).phantom = .queued ∧ (x.channelNow n f).phantom = .off) →
    y.cmp = x.cmp.notify (.channelChanged n (x.channelNow n f).bump.echo cause)

theorem Part.channelTold_told (n : Nat) (f : ChanSet) (cause : ChangeCause) (x : Part) (inv : x.PhantomInv) (le : n ≤ 63) :
    Part.ChannelTold x (x.channelTold n f cause) n f cause := by
  have set := x.setChannel_set n f inv le
  have inside : n < (x.setChannel n f).chs.channels.length := by rw [set.size, inv.1]; omega
  have version := Part.channelVersion_exact n cause _ inside
  obtain ⟨chs, a, frame⟩ := set.frame
  have chan (k : Nat) := Part.channel_updAt _ _ n k inside _ (congrArg (fun y => y.chs.channels) version)
  rw [set.own] at version chan
  have told : ((x.setChannel n f).channelVersion n cause).cmp =
      x.cmp.notify (.channelChanged n (x.channelNow n f).bump.echo cause) := by
    refine (congrArg Part.cmp version).trans ?_
    rw [frame]
    rfl
  have whole : ∃ c, x.channelTold n f cause = { (x.setChannel n f).channelVersion n cause with cmp := c } := by
    unfold Part.channelTold
    dsimp only
    split
    · exact ⟨_, rfl⟩
    · exact ⟨_, rfl⟩
  obtain ⟨c, shape⟩ := whole
  have own : (x.channelTold n f cause).channel n = (x.channelNow n f).bump := by
    rw [shape]
    exact (chan n).trans (if_pos rfl)
  refine ⟨own, fun k other => ?_, ?_, ?_, ⟨?_, ?_, ?_, ?_⟩, ?_, fun leaves => ?_, fun stands => ?_⟩
  · rw [shape]
    exact (chan k).trans (if_neg other)
  · rw [shape]
    exact (congrArg (fun y => y.chs.phantomQueue) version :)
  · rw [shape]
    exact (congrArg Part.api version :)
  · rw [shape]
    exact (congrArg Part.mxe version).trans (by rw [frame])
  · rw [shape]
    exact (congrArg Part.tka version).trans (by rw [frame])
  · rw [shape]
    exact (congrArg Part.fmu version).trans (by rw [frame])
  · rw [shape]
    exact (congrArg (fun y => y.chs.locks) version).trans set.locks
  · have lane : (x.channelTold n f cause).ple = ((x.setChannel n f).channelVersion n cause).ple := by rw [shape]
    refine lane.trans ((congrArg Part.ple version).trans (Part.laneAfter_congr _ _ _ _ _ (by rw [frame]) fun t ht => ?_))
    obtain rfl : t = .channel n := by simpa using ht
    exact Part.reports_channel _ _ n (by rw [own, chan, if_pos rfl])
  · have rising : ((x.setChannel n f).channelVersion n cause).rising = x.rising := by
      refine (Part.rising_of_view (Part.channelVersion_phantom ..)).trans (Part.rising_of_channels set.size fun k => ?_)
      by_cases own : k = n
      · subst own
        rw [set.own, leaves.1, leaves.2]
        simp
      · rw [set.stands k own fun h => ?_]
        have rises := ((x.freesPlace_iff n _).mp h.1).2.2
        rw [leaves.1] at rises
        cases rises
    have state : ((x.setChannel n f).channelVersion n cause).channel n = (x.channelNow n f).bump := (chan n).trans (if_pos rfl)
    have queue : ((x.setChannel n f).channelVersion n cause).chs.phantomQueue = (x.setChannel n f).chs.phantomQueue :=
      congrArg (fun y => y.chs.phantomQueue) version
    refine (congrArg Part.cmp (if_pos leaves)).trans ?_
    unfold Part.phantomDone Part.notify
    dsimp only
    rw [told, rising, state, queue]
    exact congrArg (fun p => Cmp.notify (.phantomDone n p .request x.rising _) _) leaves.2
  · exact (congrArg Part.cmp (if_neg stands)).trans told

/-! ### SET_CHANNEL's checks -/

/-- A present value, clamped, differs from the value held (R104). -/
theorem differs_map (g : Nat → Nat) (v : Option Nat) (held : Nat) : differs (v.map g) held = decide ((v.map g).getD held ≠ held) := by
  cases v with
  | none => simp [differs]
  | some k => simp [differs, bne, beq_eq_decide]

/-- A present flag differs from the flag held (R104). -/
theorem differs_flag (v : Option Nat) (held : Bool) :
    differs (v.map clampFlag) (flagNum held) = decide (((v.map clampFlag).map flagOf).getD held ≠ held) := by
  cases v with
  | none => simp [differs]
  | some k => by_cases zero : k = 0 <;> cases held <;> simp [differs, clampFlag, zero, flagNum, flagOf]

/-- The lock check of SET_CHANNEL (R104). -/
theorem Part.channelLocked_iff (x : Part) (n : Nat) (f : ChanSet) :
    x.channelLocked n f.clamp = true ↔
      (x.chs.locks.preamp = true ∧ (f.clamp.gain.getD (x.channel n).gainTarget ≠ (x.channel n).gainTarget ∨
        (f.clamp.pad.map flagOf).getD (x.channel n).pad ≠ (x.channel n).pad ∨
        ChanSet.request f.clamp (x.channel n) ≠ (x.channel n).request)) ∨
      (x.chs.locks.condition = true ∧ ((f.clamp.polarity.map flagOf).getD (x.channel n).inverted ≠ (x.channel n).inverted ∨
        (f.clamp.mute.map flagOf).getD (x.channel n).mute ≠ (x.channel n).mute)) := by
  unfold Part.channelLocked ChanSet.request ChanSet.clamp
  dsimp only
  rw [differs_map, differs_flag, differs_flag, differs_flag, differs_flag]
  simp only [Bool.or_eq_true, Bool.and_eq_true, decide_eq_true_eq, or_assoc]

theorem flag_clamped (v : Option Nat) (held : Bool) :
    (match v with
      | some k => decide (k ≠ 0)
      | none => held) = ((v.map clampFlag).map flagOf).getD held := by
  cases v with
  | none => rfl
  | some k => exact (flagOf_clampFlag k).symm

/-- A QUEUED channel leaves the queue where its request changes to off in OPERATE (R96). -/
theorem Part.channelNow_leaves (x : Part) (n : Nat) (f : ChanSet) (waits : (x.channel n).phantom = .queued) :
    (x.channelNow n f).phantom = .off ↔
      (ChanSet.request f (x.channel n) ≠ (x.channel n).request ∧ x.dsc.opState = .operate) ∧ ChanSet.request f (x.channel n) = false := by
  have state : (x.channelNow n f).phantom =
      ((x.phantomMove n (ChanSet.request f (x.channel n))).getD ((x.channel n).phantom, (x.channel n).phantomTimer)).1 :=
    congrArg Prod.fst ((x.channel n).set_fields _ f _ _).2.2.2.2.2.2.2.2
  rw [state]
  by_cases act : ChanSet.request f (x.channel n) ≠ (x.channel n).request ∧ x.dsc.opState = .operate
  · have move := x.phantomMove_of n _ act.1.symm act.2
    rw [waits] at move ⊢
    rw [move]
    generalize ChanSet.request f (x.channel n) = on at act ⊢
    cases on with
    | true => exact ⟨nofun, fun h => nomatch h.2⟩
    | false => exact ⟨fun _ => ⟨act, rfl⟩, fun _ => rfl⟩
  · rw [x.phantomMove_idle n _ act, waits]
    exact ⟨nofun, fun h => absurd h.1 act⟩

/-- The queue without a channel that leaves it. -/
theorem Part.setChannel_leaves (n : Nat) (f : ChanSet) (x : Part) (inv : x.PhantomInv) (le : n ≤ 63)
    (waits : (x.channel n).phantom = .queued) (off : (x.channelNow n f).phantom = .off) :
    (x.setChannel n f).chs.phantomQueue.length = x.chs.phantomQueue.length - 1 := by
  obtain ⟨act, isOff⟩ := (x.channelNow_leaves n f waits).mp off
  have move := x.phantomMove_of n _ act.1.symm act.2
  rw [isOff, waits] at move
  rw [(x.setChannel_set n f inv le).queue, isOff, if_neg fun h => ?_, move]
  · exact Nodup.length_filter_ne inv.2.2.1 n ((inv.2.2.2 n).mpr ⟨by omega, waits⟩)
  · have rising := ((x.freesPlace_iff n false).mp h).2.2
    rw [waits] at rising
    cases rising

/-- The records the API holds, by the queue. -/
theorem Part.channelHanded_eq (x : Part) (n : Nat) (f : ChanSet) :
    x.channelHanded n f = { x.api with queue :=
      if (x.channelNow n f).pad ≠ (x.channel n).pad ∨ (x.channelNow n f).phantom.supply ≠ (x.channel n).phantom.supply
      then (queuePreamp ⟨n, (x.channelNow n f).gain, (x.channelNow n f).pad, (x.channelNow n f).phantom.supply⟩ x.api.queue)
      else x.api.queue } := by
  unfold Part.channelHanded
  split <;> rfl

/-- SET_CHANNEL carried out, with its answer. -/
theorem Part.doUpdate_setChannel (cc : ChangeCause) (tc : TalkCause) (n : Nat) (f : ChanSet) (x : Part) (inv : x.PhantomInv) (le : n ≤ 63) :
    x.doUpdate cc tc (.setChannel n f) =
      if (x.channelNow n f).echo = (x.channel n).echo then (.already, x) else (.ok, x.channelTold n f cc) := by
  unfold Part.doUpdate
  dsimp only
  rw [x.applyChannel_eq n f cc inv le]
  split <;> rfl

/-- Settles O49: the fields and the request give the channel, its move and the freed place; the host's request heeds the locks. -/
theorem channelSetAtStage : Obligations.ChannelSetAtStage := by
  intro tag n f s stage inv c flag gain pad inverted mute request preamp condition locked acts queue frees on after
  have hgain : gain = f.clamp.gain.getD c.gainTarget := by
    show (match f.gain with
      | some g => min 60 g
      | none => c.gainTarget) = (f.gain.map (min 60)).getD c.gainTarget
    cases f.gain <;> rfl
  have hpad : pad = (f.clamp.pad.map flagOf).getD c.pad := flag_clamped f.pad c.pad
  have hinverted : inverted = (f.clamp.polarity.map flagOf).getD c.inverted := flag_clamped f.polarity c.inverted
  have hmute : mute = (f.clamp.mute.map flagOf).getD c.mute := flag_clamped f.mute c.mute
  have hrequest : request = ChanSet.request f.clamp c := flag_clamped f.phantom c.request
  have unchanged : (s.part.channelNow n f.clamp).echo = c.echo ↔ ¬ preamp ∧ ¬ condition := by
    rw [s.part.channelNow_echo n f.clamp]
    show _ ↔ ¬ (gain ≠ c.gainTarget ∨ pad ≠ c.pad ∨ request ≠ c.request) ∧ ¬ (inverted ≠ c.inverted ∨ mute ≠ c.mute)
    rw [hgain, hpad, hinverted, hmute, hrequest]
    simp only [not_or, not_not, and_assoc]
    tauto
  have lock : s.part.channelLocked n f.clamp = true ↔ locked := by
    rw [s.part.channelLocked_iff n f]
    show _ ↔ (s.part.chs.locks.preamp = true ∧ (gain ≠ c.gainTarget ∨ pad ≠ c.pad ∨ request ≠ c.request)) ∨
      (s.part.chs.locks.condition = true ∧ (inverted ≠ c.inverted ∨ mute ≠ c.mute))
    rw [hgain, hpad, hinverted, hmute, hrequest]
  have same (cc : ChangeCause) (tc : TalkCause) (le : n ≤ 63) (p : ¬ preamp) (q : ¬ condition) :
      s.part.doUpdate cc tc (Update.setChannel n f).clamp = (.already, s.part) :=
    (s.part.doUpdate_setChannel cc tc n f.clamp inv le).trans (if_pos (unchanged.mpr ⟨p, q⟩))
  have done (cc : ChangeCause) (tc : TalkCause) (le : n ≤ 63) (h : preamp ∨ condition) :
      s.part.doUpdate cc tc (Update.setChannel n f).clamp = (.ok, s.part.channelTold n f.clamp cc) :=
    (s.part.doUpdate_setChannel cc tc n f.clamp inv le).trans
      (if_neg fun e => h.elim (unchanged.mp e).1 (unchanged.mp e).2)
  have holds (cc : ChangeCause) (le : n ≤ 63) : after (s.part.channelTold n f.clamp cc) cc := by
    have told := s.part.channelTold_told n f.clamp cc inv le
    have set := s.part.setChannel_set n f.clamp inv le
    obtain ⟨gainIs, padIs, invertedIs, muteIs, requestIs, versionIs, walkIs, walkTimerIs, stateIs⟩ := c.set_fields
      s.part.dsc.opState f.clamp (ChanSet.request f.clamp c) (s.part.phantomMove n (ChanSet.request f.clamp c))
    have phantomIs : (s.part.channelNow n f.clamp).phantom =
      ((s.part.phantomMove n (ChanSet.request f.clamp c)).getD (c.phantom, c.phantomTimer)).1 := congrArg Prod.fst stateIs
    have timerIs : (s.part.channelNow n f.clamp).phantomTimer =
      ((s.part.phantomMove n (ChanSet.request f.clamp c)).getD (c.phantom, c.phantomTimer)).2 := congrArg Prod.snd stateIs
    have own : (s.part.channelTold n f.clamp cc).channel n = (s.part.channelNow n f.clamp).bump := told.own
    have freesIff : s.part.freesPlace n (ChanSet.request f.clamp c) = true ↔ frees := by
      rw [s.part.freesPlace_iff_acts, ← hrequest]
    have actIff : acts ↔ ChanSet.request f.clamp c ≠ c.request ∧ s.part.dsc.opState = .operate := by rw [← hrequest]
    have queueIs := told.queue.trans set.queue
    have handed := s.part.channelHanded_eq n f.clamp
    have ownPad : (s.part.channelNow n f.clamp).bump.pad = pad := padIs.trans hpad.symm
    rw [show (s.part.channelNow n f.clamp).pad = pad from ownPad] at handed
    show _ ∧ _
    rw [own]
    refine ⟨gainIs.trans hgain.symm, padIs.trans hpad.symm, invertedIs.trans hinverted.symm, muteIs.trans hmute.symm,
      requestIs.trans hrequest.symm, congrArg inc16 versionIs, walkIs, walkTimerIs, fun idle => ?_, fun act => ?_, fun k other freed => ?_,
      fun k other kept => ?_, fun moved => ?_, ⟨fun leaves => ?_, fun stays => ?_⟩, told.lane, ⟨fun k freed head => ?_, fun kept => ?_⟩,
      told.rest⟩
    · have still := s.part.phantomMove_idle n (ChanSet.request f.clamp c) (idle ∘ actIff.mpr)
      rw [still] at phantomIs timerIs queueIs
      exact ⟨phantomIs, timerIs, queueIs.trans (if_neg fun h => idle (freesIff.mp h).1)⟩
    · have table := s.part.phantomMove_table n (ChanSet.request f.clamp c) (by rw [← hrequest]; exact Ne.symm act.1) act.2
      rw [queueIs, hrequest]
      refine Eq.trans ?_ table
      exact Prod.ext phantomIs (Prod.ext timerIs rfl)
    · rw [told.others k other, set.rises k other (freesIff.mpr freed.1) freed.2]
      exact ⟨rfl, rfl, rfl, rfl⟩
    · rw [told.others k other, set.stands k other fun h => kept ⟨freesIff.mp h.1, h.2⟩]
    · have target := c.set_target s.part.dsc.opState f.clamp (ChanSet.request f.clamp c)
        (s.part.phantomMove n (ChanSet.request f.clamp c)) (by
          rcases moved with changed | changed
          · refine .inl ?_
            rw [hmute] at changed
            cases written : f.clamp.mute with
            | none => rw [written] at changed; exact absurd rfl changed
            | some v => rfl
          · refine .inr fun still => changed ?_
            rw [still] at phantomIs
            exact phantomIs)
      have target : (s.part.channelNow n f.clamp).bump.ramp.target = condTarget s.part.dsc.opState (s.part.channelNow n f.clamp) := target
      rw [target]
      unfold condTarget
      rw [show (s.part.channelNow n f.clamp).mute = mute from muteIs.trans hmute.symm]
      rfl
    · have off := (s.part.channelNow_leaves n f.clamp leaves.2.2).mpr ⟨actIff.mp leaves.1, hrequest.symm.trans leaves.2.1⟩
      rw [told.leaves ⟨leaves.2.2, off⟩, s.part.setChannel_leaves n f.clamp inv le leaves.2.2 off]
    · refine told.plain fun h => stays ?_
      obtain ⟨act, off⟩ := (s.part.channelNow_leaves n f.clamp h.1).mp h.2
      exact ⟨actIff.mpr act, hrequest.trans off, h.1⟩
    · have kn : k ≠ n := fun e => by
        have waits := ((inv.2.2.2 k).mp (List.mem_of_head? head)).2
        rw [e, show (s.part.channel n).phantom = .rising from freed.2.2] at waits
        cases waits
      have risen := (told.others k kn).trans (set.rises k kn (freesIff.mpr freed) head)
      rw [told.api, set.hands k (freesIff.mpr freed) head, handed]
      dsimp only
      rw [risen, own, ownPad]
      rfl
    · rw [told.api, set.keeps fun h => kept ⟨freesIff.mp h.1, h.2⟩, handed]
      dsimp only
      rw [own, ownPad]
      rfl
  have fits (le : n ≤ 63) : (Update.setChannel n f).identOk .stage = true := decide_eq_true le
  refine ⟨fun ready => ⟨fun high => ?_, fun le isLocked => ?_, fun le p q => ?_, fun le free h => ?_⟩, fun le p q => ?_, fun le h => ?_⟩
  · exact exec_update_range tag (.setChannel n f) s ready stage rfl (decide_eq_false (by omega))
  · exact exec_update_locked tag (.setChannel n f) s ready stage rfl (fits le) rfl (lock.mpr isLocked)
  · have carried := exec_update_done tag (.setChannel n f) s ready stage rfl (fits le) rfl
      (Bool.eq_false_iff.mpr fun l => by
        rcases lock.mp l with ⟨-, a⟩ | ⟨-, b⟩
        · exact p a
        · exact q b)
    rw [same .host .host le p q] at carried
    exact carried
  · have carried := exec_update_done tag (.setChannel n f) s ready stage rfl (fits le) rfl
      (Bool.eq_false_iff.mpr fun l => free (lock.mp l))
    rw [done .host .host le h] at carried
    exact ⟨_, carried, holds .host le⟩
  · exact Part.applyMsg_done (.setChannel n f) s.part s.part .already (same .lane .lane le p q) nofun nofun
  · rw [Part.applyMsg_done (.setChannel n f) s.part _ .ok (done .lane .lane le h) nofun nofun]
    exact holds .lane le

end Sys2Proof.Machine
end

section
/-!
PROOFS. A changed mask (R141): the destination judged again, and what becomes of its holder or of the sessions that wait for it.
-/

namespace Sys2Proof.Machine

/-! ### An event that changes nothing -/

theorem Part.talkChanged_refl (x : Part) (order : List Source) : x.talkChanged x order = [] :=
  List.filter_eq_nil_iff.mpr fun s _ => by simp

/-- No change is an event of its own. -/
theorem Part.TalkEvent.refl (x : Part) (cause : TalkCause) (order : List Source) : Part.TalkEvent x x x cause order := by
  refine ⟨rfl, ?_, ?_, rfl, rfl, rfl, fun s => ?_⟩
  · unfold Part.talkTold
    rw [x.talkChanged_refl]
    rfl
  · unfold Part.talkEchoes
    rw [x.talkChanged_refl]
    rfl
  · refine (if_neg ?_).symm
    unfold Part.talkDiffers Part.session
    simp

theorem Part.eq_of_sansTalk {x y : Part} (rest : ({ y with cmp := x.cmp, ple := x.ple } : Part).sansTalk = x.sansTalk)
    (cmp : y.cmp = x.cmp) (ple : y.ple = x.ple) (dests : y.tka.dests = x.tka.dests) (mixes : y.mxe.mixes = x.mxe.mixes)
    (cue : y.tka.cue = x.tka.cue) (source : ∀ s, y.tka.source s = x.tka.source s) : y = x := by
  obtain ⟨dsc, scu, api, pa, pb, pair, fmu, ple', chs, mxe, tka, mtu, mirror, cmp', bus⟩ := y
  obtain ⟨foh, mon, stg, dests', openCounter, cfg, cue', samples⟩ := tka
  obtain ⟨mixes', free⟩ := mxe
  have foh_same := source .foh
  have mon_same := source .mon
  have stg_same := source .stg
  dsimp only at cmp ple dests mixes cue
  subst cmp ple dests mixes cue
  simp only [Tka.source] at foh_same mon_same stg_same
  subst foh_same mon_same stg_same
  unfold Part.sansTalk at rest
  simp only [Part.mk.injEq, Tka.mk.injEq, Mxe.mk.injEq] at rest
  obtain ⟨rfl, rfl, rfl, rfl, rfl, rfl, rfl, -, rfl, ⟨-, rfl⟩, ⟨-, -, -, -, rfl, rfl, -, rfl⟩, rfl, rfl, -, rfl⟩ := rest
  rfl

/-- An event with no change leaves the part. -/
theorem Part.TalkEvent.still {x y : Part} {cause : TalkCause} {order : List Source} (h : Part.TalkEvent x x y cause order) : y = x := by
  obtain ⟨cmp, ple⟩ := h.quiet fun _ => rfl
  exact Part.eq_of_sansTalk h.rest cmp ple h.dests h.mixes h.cue fun s => h.source_same s rfl

/-! ### A destination judged again (R141) -/

/-- What becomes of a destination judged again. -/
def Part.judgeMove (x : Part) (d : Nat) : TalkMove :=
  match (x.dest d).state with
  | .fading => .stay
  | .free =>
    match x.bestWaiter d with
    | some b => .gain b.1
    | none => .stay
  | .held =>
    match (x.dest d).holder with
    | some h =>
      match x.session h with
      | some z => if x.eligible z d then .stay else .fade
      | none => .stay
    | none => .stay

theorem Part.judgeDest_move (x : Part) (d : Nat) : x.judgeDest d = x.move d (x.judgeMove d) := by
  unfold Part.judgeDest Part.judgeMove Part.arbitrateFree
  cases (x.dest d).state with
  | fading => rfl
  | free =>
    dsimp only
    cases x.bestWaiter d <;> rfl
  | held =>
    dsimp only
    cases (x.dest d).holder with
    | none => rfl
    | some h =>
      dsimp only
      cases x.session h with
      | none => rfl
      | some z =>
        dsimp only
        split <;> rfl

/-- A changed mask's event. -/
theorem Part.maskChanged_event (x : Part) (d : Nat) :
    Part.TalkEvent x (x.move d (x.judgeMove d)) (x.maskChanged d) .arbiter [.foh, .mon, .stg] := by
  unfold Part.maskChanged
  rw [x.judgeDest_move]
  exact Part.published x _ .arbiter none (x.move_sansTalk d _)

/-- What a judgement of destination `d` makes of the tables, by the state it finds. -/
theorem Part.TalkEvent.judged {x y : Part} {d : Nat} (h : Part.TalkEvent x (x.move d (x.judgeMove d)) y .arbiter [.foh, .mon, .stg])
    (lt : d < x.tka.dests.length) :
    ((x.dest d).state = .fading → y = x) ∧
    (∀ s z, (x.dest d).state = .held → (x.dest d).holder = some s → x.session s = some z →
      (x.eligible z d = true → y = x) ∧
      (x.eligible z d = false → y.dest d = ⟨.fading, some s, false⟩ ∧ (∀ t, t ≠ s → y.tka.source t = x.tka.source t) ∧
        (z.granted.testBit d = true → (y.tka.source s).version = ((x.tka.source s).version + 1) % 65536) ∧
        ∃ now, y.session s = some now ∧ now.granted.testBit d = false ∧
          ∀ k, k ≠ d → now.granted.testBit k = z.granted.testBit k)) ∧
    ((x.dest d).state = .free →
      ((∀ s z, ¬ x.candidate d s z) → y = x) ∧
      ∀ s z, x.candidate d s z →
        (∀ t o, t ≠ s → x.candidate d t o → o.priority < z.priority ∨ (o.priority = z.priority ∧ newer16 o.order z.order = true)) →
        y.dest d = ⟨.held, some s, false⟩ ∧ y.session s = some { z with granted := z.granted ||| (1 <<< d) } ∧
        (y.tka.source s).version = ((x.tka.source s).version + 1) % 65536 ∧
        ∀ t, t ≠ s → y.tka.source t = x.tka.source t) := by
  have stays (still : x.judgeMove d = .stay) : y = x := by
    rw [still] at h
    exact h.still
  refine ⟨fun fading => stays ?_, fun s z held holder opened => ⟨fun fits => stays ?_, fun unfit => ?_⟩, fun free => ⟨fun idle => stays ?_,
    fun s z fits first => ?_⟩⟩
  · unfold Part.judgeMove; rw [fading]
  · unfold Part.judgeMove; rw [held, holder]; dsimp only; rw [opened]; exact if_pos fits
  · have fades : x.judgeMove d = .fade := by
      unfold Part.judgeMove; rw [held, holder]; dsimp only; rw [opened]; exact if_neg (by simp [unfit])
    rw [fades] at h
    obtain ⟨dest, session, others, bit⟩ := Part.TalkEvent.lost h (fun _ => rfl) holder opened lt
    refine ⟨dest, others, fun granted => (bit granted).1, _, session, ?_, fun k other => ?_⟩
    · show (setDel z.granted d).testBit d = false
      simp [testBit_setDel]
    · show (setDel z.granted d).testBit k = _
      simp [testBit_setDel, Ne.symm other]
  · unfold Part.judgeMove; rw [free, x.bestWaiter_none d idle]
  · have gains : x.judgeMove d = .gain s := by
      unfold Part.judgeMove; rw [free, x.bestWaiter_best d s z fits first]
    rw [gains] at h
    have out : z.granted.testBit d = false := by
      have waits := fits.2.1
      unfold Session.waits at waits
      simpa using (Bool.and_eq_true_iff.mp waits).2
    obtain ⟨dest, session, version, others, -⟩ := Part.TalkEvent.granted h (fun _ => rfl) fits.1 out lt (by decide)
      (by cases s <;> decide)
    exact ⟨dest, session, version, others⟩

end Sys2Proof.Machine
end

section
/-!
PROOFS. SET_MIX at the STAGE end (R104, R109, R112, R116 to R118, R120, R141): the fields written, a changed mask's destination judged
again, and what is told.
-/

namespace Sys2Proof.Machine

/-! ### The fields written -/

/-- The value that the offset field is compared with and written over (Table 6-4). -/
def Mix.offsetHeld (z : Mix) : Nat := if z.phase = .leaving then z.pendingOffset else z.offset

/-- The mix with the offset field written (R120). -/
def Mix.offsetWritten (v : Option Nat) (z : Mix) : Mix :=
  match v with
  | some n => z.writeOffset n
  | none => z

/-- An offset written: what stands, and where LEAVING begins (Table 6-4). -/
theorem Mix.offsetWritten_fields (v : Option Nat) (z : Mix) :
    let moved := v.getD z.offsetHeld ≠ z.offsetHeld
    (z.offsetWritten v).offset = z.offset ∧
    (z.offsetWritten v).pendingOffset = (if moved then v.getD z.offsetHeld else z.pendingOffset) ∧
    (z.offsetWritten v).phase = (if moved ∧ z.phase ≠ .leaving then .leaving else z.phase) ∧
    (moved ∧ z.phase ≠ .leaving → (z.offsetWritten v).contribs =
      z.contribs.map fun c => { c with ramp := c.ramp.retarget (contribTarget .leaving c) }) ∧
    (¬ (moved ∧ z.phase ≠ .leaving) → (z.offsetWritten v).contribs = z.contribs) := by
  cases v with
  | none =>
    refine ⟨rfl, (if_neg (not_not_intro rfl)).symm, (if_neg fun h => h.1 rfl).symm, fun h => absurd rfl h.1, fun _ => rfl⟩
  | some n =>
    unfold Mix.offsetWritten Mix.writeOffset Mix.offsetHeld
    dsimp only [Option.getD_some]
    by_cases leaving : z.phase = .leaving
    · rw [leaving]
      dsimp only
      rw [if_pos rfl]
      refine ⟨rfl, ?_, (if_neg fun h => h.2 rfl).symm, fun h => absurd rfl h.2, fun _ => rfl⟩
      split
      · rfl
      · next same => exact not_not.mp same
    · rw [if_neg leaving]
      have other : (match z.phase with
          | .leaving => { z with pendingOffset := n }
          | _ => if n = z.offset then z else
            Mix.evalContribs { z with pendingOffset := n, phase := .leaving, leavingDue := false, arrivingDue := false }) =
          if n = z.offset then z else
            Mix.evalContribs { z with pendingOffset := n, phase := .leaving, leavingDue := false, arrivingDue := false } := by
        cases phase : z.phase
        · rfl
        · exact absurd phase leaving
        · rfl
      have other : z.writeOffset n = _ := other
      show (z.writeOffset n).offset = _ ∧ (z.writeOffset n).pendingOffset = _ ∧ (z.writeOffset n).phase = _ ∧
        (_ → (z.writeOffset n).contribs = _) ∧ (_ → (z.writeOffset n).contribs = _)
      rw [other]
      by_cases same : n = z.offset
      · rw [if_pos same, if_neg (not_not_intro same), if_neg fun h => h.1 same]
        exact ⟨rfl, rfl, rfl, fun h => absurd same h.1, fun _ => rfl⟩
      · rw [if_neg same, if_pos same, if_pos ⟨same, leaving⟩]
        exact ⟨rfl, rfl, rfl, fun _ => rfl, fun h => absurd ⟨same, leaving⟩ h⟩

/-- SET_MIX's fields over the mix with its offset written. -/
theorem Mix.write_eq (op : OpState) (f : MixSet) (z : Mix) :
    ∃ a b c, z.write op f = { z.offsetWritten f.offset with
      master := f.master.getD z.master, masterRamp := a, dim := f.dim.getD z.dim, dimRamp := b
      talkLevel := f.talkLevel.getD z.talkLevel, talkRamp := c, talkMask := f.talkMask.getD z.talkMask } ∧
      a.target = (if op = .operate then faderK (f.master.getD z.master) else 0) ∧
      b.target = (if z.dest = .held then faderK (f.dim.getD z.dim) else 65536) ∧
      c.target = (if z.dest = .held then faderK (f.talkLevel.getD z.talkLevel) else 0) := by
  have stands (m : Mix) (n : Nat) (k : Nat) (r : Ramp) :
      Mix.writeOffset n { m with master := k, masterRamp := r } = { m.writeOffset n with master := k, masterRamp := r } := by
    unfold Mix.writeOffset Mix.evalContribs
    dsimp only
    split
    · rfl
    · split <;> rfl
  have kept (m : Mix) (n : Nat) : (m.writeOffset n).dim = m.dim ∧ (m.writeOffset n).talkLevel = m.talkLevel ∧
      (m.writeOffset n).talkMask = m.talkMask ∧ (m.writeOffset n).dest = m.dest ∧ (m.writeOffset n).dimRamp = m.dimRamp ∧
      (m.writeOffset n).talkRamp = m.talkRamp := by
    unfold Mix.writeOffset Mix.evalContribs
    split
    · exact ⟨rfl, rfl, rfl, rfl, rfl, rfl⟩
    · split <;> exact ⟨rfl, rfl, rfl, rfl, rfl, rfl⟩
  unfold Mix.write Mix.offsetWritten
  dsimp only
  cases f.offset with
  | none =>
    refine ⟨_, _, _, rfl, Ramp.retarget_target .., Ramp.retarget_target .., Ramp.retarget_target ..⟩
  | some n =>
    obtain ⟨dim, level, mask, dest, dimRamp, talkRamp⟩ := kept z n
    dsimp only
    rw [stands]
    dsimp only
    rw [dim, level, mask]
    refine ⟨_, _, _, rfl, Ramp.retarget_target .., (Ramp.retarget_target ..).trans ?_, (Ramp.retarget_target ..).trans ?_⟩
    · unfold dimTarget
      dsimp only
      rw [dest]
      rfl
    · unfold talkTarget
      dsimp only
      rw [dest]

/-- The mix that SET_MIX leaves, but for its version, before its destination is judged. -/
structure Mix.Written (op : OpState) (f : MixSet) (z w : Mix) : Prop where
  master : w.master = f.master.getD z.master
  dim : w.dim = f.dim.getD z.dim
  level : w.talkLevel = f.talkLevel.getD z.talkLevel
  mask : w.talkMask = f.talkMask.getD z.talkMask
  offset : w.offset = z.offset
  pending : w.pendingOffset =
    if f.offset.getD z.offsetHeld ≠ z.offsetHeld then f.offset.getD z.offsetHeld else z.pendingOffset
  phase : w.phase = if f.offset.getD z.offsetHeld ≠ z.offsetHeld ∧ z.phase ≠ .leaving then .leaving else z.phase
  version : w.version = z.version
  dest : w.dest = z.dest
  masterTarget : w.masterRamp.target = if op = .operate then faderK w.master else 0
  dimTarget : w.dimRamp.target = if w.dest = .held then faderK w.dim else 65536
  talkTarget : w.talkRamp.target = if w.dest = .held then faderK w.talkLevel else 0
  leaves : f.offset.getD z.offsetHeld ≠ z.offsetHeld ∧ z.phase ≠ .leaving →
    w.contribs = z.contribs.map fun c => { c with ramp := c.ramp.retarget (contribTarget .leaving c) }
  stands : ¬ (f.offset.getD z.offsetHeld ≠ z.offsetHeld ∧ z.phase ≠ .leaving) → w.contribs = z.contribs

theorem Mix.offsetWritten_kept (v : Option Nat) (z : Mix) :
    (z.offsetWritten v).version = z.version ∧ (z.offsetWritten v).dest = z.dest := by
  cases v with
  | none => exact ⟨rfl, rfl⟩
  | some n =>
    unfold Mix.offsetWritten Mix.writeOffset Mix.evalContribs
    dsimp only
    split
    · exact ⟨rfl, rfl⟩
    · split <;> exact ⟨rfl, rfl⟩

theorem Mix.write_written (op : OpState) (f : MixSet) (z : Mix) : Mix.Written op f z (z.write op f) := by
  obtain ⟨a, b, c, whole, ha, hb, hc⟩ := z.write_eq op f
  obtain ⟨offset, pending, phase, leaves, stands⟩ := z.offsetWritten_fields f.offset
  obtain ⟨version, dest⟩ := z.offsetWritten_kept f.offset
  rw [whole]
  refine ⟨rfl, rfl, rfl, rfl, offset, pending, phase, version, dest, ha, hb.trans ?_, hc.trans ?_, leaves, stands⟩ <;>
    (dsimp only; rw [dest])

/-- A mix written and handed a state by its destination. -/
theorem Mix.Written.hand {op : OpState} {f : MixSet} {z w : Mix} (h : Mix.Written op f z w) (m : TalkMove) :
    (m.mix w).echo = w.echo ∧ (m.mix w).contribs = w.contribs ∧
    (m.mix w).masterRamp.target = (if op = .operate then faderK w.master else 0) ∧
    (m.mix w).dimRamp.target = (if (m.mix w).dest = .held then faderK w.dim else 65536) ∧
    (m.mix w).talkRamp.target = (if (m.mix w).dest = .held then faderK w.talkLevel else 0) := by
  have handed (st : DestState) : (w.handDest st).echo = w.echo ∧ (w.handDest st).contribs = w.contribs ∧
      (w.handDest st).masterRamp.target = (if op = .operate then faderK w.master else 0) ∧
      (w.handDest st).dimRamp.target = (if (w.handDest st).dest = .held then faderK w.dim else 65536) ∧
      (w.handDest st).talkRamp.target = (if (w.handDest st).dest = .held then faderK w.talkLevel else 0) :=
    ⟨rfl, rfl, h.masterTarget, Ramp.retarget_target .., Ramp.retarget_target ..⟩
  cases m with
  | stay => exact ⟨rfl, rfl, h.masterTarget, h.dimTarget, h.talkTarget⟩
  | gain s => exact handed .held
  | fade => exact handed .fading

/-- A mix's echo stands exactly where SET_MIX changes nothing (R116). -/
theorem Mix.Written.echo_iff {op : OpState} {f : MixSet} {z w : Mix} (h : Mix.Written op f z w) :
    w.echo = z.echo ↔ ¬ (f.master.getD z.master ≠ z.master ∨ f.offset.getD z.offsetHeld ≠ z.offsetHeld) ∧
      ¬ (f.dim.getD z.dim ≠ z.dim ∨ f.talkLevel.getD z.talkLevel ≠ z.talkLevel ∨ f.talkMask.getD z.talkMask ≠ z.talkMask) := by
  obtain ⟨master, dim, level, mask, offset, pending, phase, version, -, -, -, -, -, -⟩ := h
  unfold Mix.echo
  rw [master, dim, level, mask, offset, pending, phase, version]
  simp only [MixEcho.mk.injEq, not_or, not_not, true_and]
  constructor
  · rintro ⟨sameMaster, samePending, samePhase, sameDim, sameLevel, sameMask⟩
    refine ⟨⟨sameMaster, ?_⟩, sameDim, sameLevel, sameMask⟩
    by_contra moved
    rw [if_pos moved] at samePending
    by_cases leaving : z.phase = .leaving
    · refine moved (samePending.trans ?_)
      unfold Mix.offsetHeld
      rw [if_pos leaving]
    · rw [if_pos ⟨moved, leaving⟩] at samePhase
      exact leaving samePhase.symm
  · rintro ⟨⟨sameMaster, still⟩, sameDim, sameLevel, sameMask⟩
    exact ⟨sameMaster, if_neg (not_not_intro still), if_neg fun h => h.1 still, sameDim, sameLevel, sameMask⟩

theorem Mix.offsetChanges_iff (z : Mix) (n : Nat) : z.offsetChanges n = true ↔ n ≠ z.offsetHeld := by
  unfold Mix.offsetChanges Mix.offsetHeld
  cases z.phase <;> simp

/-- The lock check of SET_MIX (R104). -/
theorem Part.mixLocked_iff (x : Part) (m : Nat) (f : MixSet) :
    x.mixLocked m f.clamp = true ↔
      (x.chs.locks.mix = true ∧ (f.clamp.master.getD (x.mix m).master ≠ (x.mix m).master ∨
        f.clamp.offset.getD (x.mix m).offsetHeld ≠ (x.mix m).offsetHeld)) ∨
      (x.chs.locks.talk = true ∧ (f.clamp.dim.getD (x.mix m).dim ≠ (x.mix m).dim ∨
        f.clamp.talkLevel.getD (x.mix m).talkLevel ≠ (x.mix m).talkLevel ∨
        f.clamp.talkMask.getD (x.mix m).talkMask ≠ (x.mix m).talkMask)) := by
  have moves : (match f.clamp.offset with
      | some v => (x.mix m).offsetChanges v
      | none => false) = decide (f.clamp.offset.getD (x.mix m).offsetHeld ≠ (x.mix m).offsetHeld) := by
    cases f.clamp.offset with
    | none => simp
    | some v => exact Bool.eq_iff_iff.mpr (((x.mix m).offsetChanges_iff v).trans decide_eq_true_iff.symm)
  have locked : x.mixLocked m f.clamp = _ := congrArg (fun b => (x.chs.locks.mix && (differs f.clamp.master (x.mix m).master || b)) ||
    (x.chs.locks.talk && (differs f.clamp.dim (x.mix m).dim || differs f.clamp.talkLevel (x.mix m).talkLevel ||
      differs f.clamp.talkMask (x.mix m).talkMask))) moves
  rw [locked]
  unfold MixSet.clamp
  dsimp only
  rw [differs_map, differs_map, differs_map, differs_map]
  simp only [Bool.or_eq_true, Bool.and_eq_true, decide_eq_true_eq, or_assoc]

/-! ### SET_MIX carried out -/

/-- The part with the fields of SET_MIX written. -/
def Part.mixWritten (x : Part) (m : Nat) (f : MixSet) : Part := x.onMix m (Mix.write x.dsc.opState f)

/-- What SET_MIX makes of the mix's destination. -/
def Part.mixMove (x : Part) (m : Nat) (f : MixSet) : TalkMove :=
  if ((x.mixWritten m f).mix m).talkMask ≠ (x.mix m).talkMask then (x.mixWritten m f).judgeMove m else .stay

/-- The part with the destination judged. -/
def Part.mixJudged (x : Part) (m : Nat) (f : MixSet) : Part :=
  if ((x.mixWritten m f).mix m).talkMask ≠ (x.mix m).talkMask then (x.mixWritten m f).maskChanged m else x.mixWritten m f

theorem Part.mixJudged_event (x : Part) (m : Nat) (f : MixSet) :
    Part.TalkEvent (x.mixWritten m f) ((x.mixWritten m f).move m (x.mixMove m f)) (x.mixJudged m f) .arbiter [.foh, .mon, .stg] := by
  unfold Part.mixMove Part.mixJudged
  split
  · exact (x.mixWritten m f).maskChanged_event m
  · exact Part.TalkEvent.refl ..

theorem Part.mixWritten_mix (x : Part) (m : Nat) (f : MixSet) (inside : m < x.mxe.mixes.length) :
    (x.mixWritten m f).mix m = (x.mix m).write x.dsc.opState f := by
  unfold Part.mixWritten
  rw [Part.mix_onMix, if_pos ⟨rfl, inside⟩]

/-- SET_MIX carried out, with its answer. -/
theorem Part.doUpdate_setMix (cc : ChangeCause) (tc : TalkCause) (m : Nat) (f : MixSet) (x : Part) (inside : m < x.mxe.mixes.length) :
    x.doUpdate cc tc (.setMix m f) =
      if ((x.mix m).write x.dsc.opState f).echo = (x.mix m).echo then (.already, x)
      else (.ok, (x.mixJudged m f).mixVersion m cc) := by
  unfold Part.doUpdate Part.applyMix
  dsimp only
  rw [show (x.onMix m (Mix.write x.dsc.opState f)).mix m = _ from x.mixWritten_mix m f inside]
  split
  · rfl
  · unfold Part.mixJudged
    rw [x.mixWritten_mix m f inside]
    rfl

/-- A mix change told of after its destination was judged. -/
theorem Part.mixTold (m : Nat) (f : MixSet) (cause : ChangeCause) (x : Part) (le : m ≤ 15) (sixteen : x.mxe.mixes.length = 16) :
    let y := (x.mixJudged m f).mixVersion m cause
    y.mix m = ((x.mixMove m f).mix ((x.mix m).write x.dsc.opState f)).bump ∧ (∀ k, k ≠ m → y.mix k = x.mix k) ∧
    y.mxe.free = x.mxe.free ∧ y.chs = x.chs ∧ y.fmu = x.fmu ∧ y.tka = (x.mixJudged m f).tka ∧
    y.cmp = (y.talkTold x .arbiter [.foh, .mon, .stg]).notify (.mixChanged m (y.mix m).echo cause) ∧
    y.ple = y.laneAfter x (y.talkEchoes x [.foh, .mon, .stg] ++ [.mix m]) := by
  have event := x.mixJudged_event m f
  generalize hz : x.mixJudged m f = z at event
  intro y
  have whole : y = _ := z.mixVersion_exact m cause
  have inside : m < x.mxe.mixes.length := by omega
  have writtenLen : (x.mixWritten m f).mxe.mixes.length = 16 := (updAt_length ..).trans sixteen
  have len : z.mxe.mixes.length = 16 := by
    rw [event.mixes, Part.move_mixes, if_neg (by omega), updAt_length, writtenLen]
  have judged (k : Nat) : z.mix k = if k = m then (x.mixMove m f).mix ((x.mix m).write x.dsc.opState f) else x.mix k := by
    rw [event.mix, Part.move_mix, x.mixWritten_mix m f inside]
    by_cases own : k = m
    · rw [if_pos ⟨own, by omega, by omega⟩, if_pos own]
    · rw [if_neg fun h => own h.1, if_neg own]
      exact (Part.mix_onMix ..).trans (if_neg fun h => own h.1)
  have mix (k : Nat) : y.mix k = if k = m then ((x.mixMove m f).mix ((x.mix m).write x.dsc.opState f)).bump else x.mix k := by
    rw [whole]
    refine (Part.mix_onMix m Mix.bump z k).trans ?_
    by_cases own : k = m
    · rw [if_pos ⟨own, by omega⟩, if_pos own, judged, if_pos rfl]
    · rw [if_neg fun h => own h.1, judged, if_neg own, if_neg own]
  have tka : y.tka = z.tka := (congrArg Part.tka whole :)
  have told : y.talkTold x .arbiter [.foh, .mon, .stg] = z.talkTold (x.mixWritten m f) .arbiter [.foh, .mon, .stg] := by
    unfold Part.talkTold Part.talkChanged Part.session
    rw [tka]
    rfl
  have echoes : y.talkEchoes x [.foh, .mon, .stg] = z.talkEchoes (x.mixWritten m f) [.foh, .mon, .stg] := by
    unfold Part.talkEchoes Part.talkChanged Part.session
    rw [tka]
    rfl
  have written : (z.onMix m Mix.bump).mix m = y.mix m := by rw [whole]; rfl
  refine ⟨(mix m).trans (if_pos rfl), fun k other => (mix k).trans (if_neg other), (congrArg (fun p => p.mxe.free) whole).trans event.free,
    (congrArg Part.chs whole).trans event.chs, (congrArg Part.fmu whole).trans event.fmu, tka, ?_, ?_⟩
  · refine (congrArg Part.cmp whole).trans ?_
    dsimp only
    rw [written, told, event.told]
  · refine (congrArg Part.ple whole).trans ?_
    dsimp only
    rw [echoes, Part.laneAfter_one (.mix m) (z.onMix m Mix.bump) z (z.onMix m Mix.bump) rfl rfl]
    refine (Part.laneAfter_concat _ (.mix m) y x _ ?_ ?_).symm
    · refine event.lane.trans (Part.laneAfter_congr _ _ _ _ _ rfl fun t ht => ?_)
      unfold Part.talkEchoes at ht
      obtain ⟨src, -, rfl⟩ := List.mem_map.mp ht
      exact Part.reports_talk _ _ src (by rw [tka])
    · show (some (LaneMsg.echoMix m (y.mix m).echo), none) = (some (LaneMsg.echoMix m ((z.onMix m Mix.bump).mix m).echo), none)
      rw [written]

theorem code_clamped (v : Option Nat) (top held : Nat) :
    (match v with
      | some k => min top k
      | none => held) = (v.map (min top)).getD held := by
  cases v <;> rfl

/-- Settles O50: the fields written, the destination of a changed mask judged, the mix told of; the host's request heeds the locks. -/
theorem mixSetAtStage : Obligations.MixSetAtStage := by
  intro tag m f s stage sixteen z code master dim level mask pending moved leaves mixClass talkClass locked order passes may after
  have hmaster : master = f.clamp.master.getD z.master := code_clamped f.master 255 z.master
  have hdim : dim = f.clamp.dim.getD z.dim := code_clamped f.dim 255 z.dim
  have hlevel : level = f.clamp.talkLevel.getD z.talkLevel := code_clamped f.talkLevel 255 z.talkLevel
  have hmask : mask = f.clamp.talkMask.getD z.talkMask := code_clamped f.talkMask 6 z.talkMask
  have hpending : pending = f.clamp.offset.getD z.offsetHeld := code_clamped f.offset 63 z.offsetHeld
  have hmoved : moved ↔ f.clamp.offset.getD z.offsetHeld ≠ z.offsetHeld := by rw [← hpending]; rfl
  have written := Mix.write_written s.part.dsc.opState f.clamp z
  have unchanged : (z.write s.part.dsc.opState f.clamp).echo = z.echo ↔ ¬ mixClass ∧ ¬ talkClass := by
    rw [written.echo_iff, ← hmoved, ← hmaster, ← hdim, ← hlevel, ← hmask]
  have lock : s.part.mixLocked m f.clamp = true ↔ locked := by
    rw [s.part.mixLocked_iff m f]
    show (_ ∧ (f.clamp.master.getD z.master ≠ z.master ∨ f.clamp.offset.getD z.offsetHeld ≠ z.offsetHeld)) ∨
      (_ ∧ (f.clamp.dim.getD z.dim ≠ z.dim ∨ f.clamp.talkLevel.getD z.talkLevel ≠ z.talkLevel ∨
        f.clamp.talkMask.getD z.talkMask ≠ z.talkMask)) ↔ _
    rw [← hmoved, ← hmaster, ← hdim, ← hlevel, ← hmask]
  have done (cc : ChangeCause) (tc : TalkCause) (le : m ≤ 15) := s.part.doUpdate_setMix cc tc m f.clamp (by omega)
  have holds (cc : ChangeCause) (le : m ≤ 15) : after ((s.part.mixJudged m f.clamp).mixVersion m cc) cc := by
    obtain ⟨own, others, free, chs, fmu, tka, cmp, ple⟩ := s.part.mixTold m f.clamp cc le sixteen
    have event := s.part.mixJudged_event m f.clamp
    have inside : m < s.part.mxe.mixes.length := by omega
    have maskNow : ((s.part.mixWritten m f.clamp).mix m).talkMask = mask := by
      rw [s.part.mixWritten_mix m f.clamp inside]
      exact written.mask.trans hmask.symm
    obtain ⟨echo, contribs, masterTarget, dimTarget, talkTarget⟩ := written.hand (s.part.mixMove m f.clamp)
    have tables (still : s.part.mixJudged m f.clamp = s.part.mixWritten m f.clamp) :
        ((s.part.mixJudged m f.clamp).mixVersion m cc).tka = s.part.tka := by rw [tka, still]; rfl
    have fits (o : Session) : (s.part.mixWritten m f.clamp).eligible o m = true ↔ passes o := by
      rw [Part.eligible_iff]
      unfold Part.maskOf
      rw [if_neg (by omega), maskNow]
      exact ⟨fun h => ⟨h.1, h.2.1⟩, fun h => ⟨h.1, h.2, fun cue => absurd cue (by omega)⟩⟩
    have waits (src : Source) (o : Session) :
        (s.part.mixWritten m f.clamp).candidate m src o ↔ s.part.session src = some o ∧ may o := by
      unfold Part.candidate Session.waits
      rw [fits, Bool.and_eq_true, Bool.not_eq_true']
      exact ⟨fun h => ⟨h.1, h.2.1.2, h.2.2⟩, fun h => ⟨h.1, ⟨h.2.2.1, h.2.1⟩, h.2.2⟩⟩
    show _ ∧ _
    rw [own]
    refine ⟨?_, masterTarget.trans (by rw [written.master, ← hmaster]), dimTarget.trans (by rw [written.dim, ← hdim]; rfl),
      talkTarget.trans (by rw [written.level, ← hlevel]; rfl), fun seventeen agree => ?_, ?_, fun leave c mem input => ?_, fun stay => ?_,
      others, free, chs, fmu, by rw [← own]; exact cmp, ple, fun d other => ?_, fun same => ?_, fun differs seventeen => ?_⟩
    · have bumped (k : Mix) : k.bump.echo = { k.echo with version := inc16 k.echo.version } := rfl
      rw [bumped, echo]
      unfold Mix.echo
      rw [written.master, written.dim, written.level, written.mask, written.offset, written.pending, written.phase, written.version,
        ← hmaster, ← hdim, ← hlevel, ← hmask, ← hpending]
      rfl
    · have dest : ((s.part.mixJudged m f.clamp).mixVersion m cc).dest m = (s.part.mixMove m f.clamp).dest (s.part.dest m) := by
        unfold Part.dest
        rw [tka]
        exact (event.dest m).trans ((Part.move_dest ..).trans (if_pos ⟨rfl, Nat.lt_of_lt_of_eq (by omega) seventeen.symm⟩))
      rw [dest]
      cases s.part.mixMove m f.clamp with
      | stay => exact written.dest.trans agree
      | gain src => rfl
      | fade => rfl
    · show List.map _ ((s.part.mixMove m f.clamp).mix (z.write s.part.dsc.opState f.clamp)).contribs = _
      rw [contribs]
      by_cases leave : f.clamp.offset.getD z.offsetHeld ≠ z.offsetHeld ∧ z.phase ≠ .leaving
      · rw [written.leaves leave, List.map_map]
        exact List.map_congr_left fun c _ => by simp [Ramp.retarget_cur]
      · rw [written.stands leave]
    · have mem : c ∈ ((s.part.mixMove m f.clamp).mix (z.write s.part.dsc.opState f.clamp)).contribs := mem
      rw [contribs, written.leaves ⟨hmoved.mp leave.1, leave.2⟩] at mem
      obtain ⟨c', -, rfl⟩ := List.mem_map.mp mem
      have target : contribTarget .leaving c' = 0 := by
        unfold contribTarget
        rw [if_pos (show c'.ref.bank = .input ∧ Phase.leaving = .leaving from ⟨input, rfl⟩)]
        exact ite_self _
      exact (Ramp.retarget_target ..).trans target
    · exact contribs.trans (written.stands fun h => stay ⟨hmoved.mpr h.1, h.2⟩)
    · unfold Part.dest
      rw [tka]
      exact (event.dest d).trans ((Part.move_dest ..).trans (if_neg fun h => other h.1))
    · refine tables ?_
      by_cases differs : mask ≠ z.talkMask
      · have moves : s.part.mixMove m f.clamp = (s.part.mixWritten m f.clamp).judgeMove m := if_pos (by rw [maskNow]; exact differs)
        have stays : (s.part.mixWritten m f.clamp).judgeMove m = .stay := by
          unfold Part.judgeMove
          rw [show ((s.part.mixWritten m f.clamp).dest m).state = .fading from same.resolve_left differs]
        rw [moves, stays] at event
        exact event.still
      · exact if_neg (by rw [maskNow]; exact differs)
    · have moves : s.part.mixMove m f.clamp = (s.part.mixWritten m f.clamp).judgeMove m := if_pos (by rw [maskNow]; exact differs)
      rw [moves] at event
      obtain ⟨-, held, free⟩ := event.judged (show m < s.part.tka.dests.length by omega)
      have dest (k : Nat) : ((s.part.mixJudged m f.clamp).mixVersion m cc).dest k = (s.part.mixJudged m f.clamp).dest k := by
        unfold Part.dest; rw [tka]
      have session (src : Source) : ((s.part.mixJudged m f.clamp).mixVersion m cc).session src = (s.part.mixJudged m f.clamp).session src := by
        unfold Part.session; rw [tka]
      rw [dest]
      simp only [session, tka]
      refine ⟨fun h o state holder opened => ⟨fun fit => ?_, fun unfit => ?_⟩, fun state => ⟨fun idle => ?_, fun src o opened fit first => ?_⟩⟩
      · rw [(held h o state holder opened).1 ((fits o).mpr fit)]
        rfl
      · exact (held h o state holder opened).2 (Bool.eq_false_iff.mpr fun e => unfit ((fits o).mp e))
      · rw [(free state).1 fun src o c => idle src o ((waits src o).mp c).1 ((waits src o).mp c).2]
        rfl
      · exact (free state).2 src o ((waits src o).mpr ⟨opened, fit⟩) fun t o' ne c =>
          first t o' ne ((waits t o').mp c).1 ((waits t o').mp c).2
  have fits (le : m ≤ 15) : (Update.setMix m f).identOk .stage = true := decide_eq_true le
  refine ⟨fun ready => ⟨fun high => ?_, fun le isLocked => ?_, fun le p q => ?_, fun le free h => ?_⟩, fun le p q => ?_, fun le h => ?_⟩
  · exact exec_update_range tag (.setMix m f) s ready stage rfl (decide_eq_false (by omega))
  · exact exec_update_locked tag (.setMix m f) s ready stage rfl (fits le) rfl (lock.mpr isLocked)
  · have carried := exec_update_done tag (.setMix m f) s ready stage rfl (fits le) rfl
      (Bool.eq_false_iff.mpr fun l => by
        rcases lock.mp l with ⟨-, a⟩ | ⟨-, b⟩
        · exact p a
        · exact q b)
    rw [show (Update.setMix m f).clamp = .setMix m f.clamp from rfl, (done .host .host le).trans (if_pos (unchanged.mpr ⟨p, q⟩))]
      at carried
    exact carried
  · have carried := exec_update_done tag (.setMix m f) s ready stage rfl (fits le) rfl
      (Bool.eq_false_iff.mpr fun l => free (lock.mp l))
    rw [show (Update.setMix m f).clamp = .setMix m f.clamp from rfl,
      (done .host .host le).trans (if_neg fun e => h.elim (unchanged.mp e).1 (unchanged.mp e).2)] at carried
    exact ⟨_, carried, holds .host le⟩
  · exact Part.applyMsg_done (.setMix m f) s.part s.part .already
      ((done .lane .lane le).trans (if_pos (unchanged.mpr ⟨p, q⟩))) nofun nofun
  · rw [Part.applyMsg_done (.setMix m f) s.part _ .ok
      ((done .lane .lane le).trans (if_neg fun e => h.elim (unchanged.mp e).1 (unchanged.mp e).2)) nofun nofun]
    exact holds .lane le

end Sys2Proof.Machine
end

section
/-!
PROOFS. SET_TALKCFG and SET_LOCK at the STAGE end (R104, R105, R141, R145, R147).
-/

namespace Sys2Proof.Machine

/-! ### The cue ramp's target -/

/-- The cue ramp has the target of FOH CUE's state. -/
def Part.CueFollows (x : Part) : Prop := x.tka.cue.target = cueTarget x.tka.cfg (x.dest 16).state

theorem Part.evalCue_follows (x : Part) : x.evalCue.CueFollows := Ramp.retarget_target ..

theorem Part.onSource_follows (s : Source) (f : SourceRec → SourceRec) (x : Part) : (x.onSource s f).CueFollows ↔ x.CueFollows := by
  cases s <;> exact Iff.rfl

theorem Part.move_follows (x : Part) (m : TalkMove) (h : x.CueFollows) : (x.move 16 m).CueFollows := by
  have set (st : DestState) (holder : Option Source) : (x.setDest 16 st holder).CueFollows := Part.evalCue_follows _
  cases m with
  | stay => exact h
  | gain s => exact (Part.onSource_follows ..).mpr (set ..)
  | fade =>
    show (x.lose 16).CueFollows
    rw [Part.lose_exact]
    split
    · exact (Part.onSource_follows ..).mpr (set ..)
    · exact set ..

/-! ### SET_TALKCFG carried out -/

/-- The part with the talk configuration written and the cue ramp's target evaluated. -/
def Part.cfgWritten (x : Part) (f : TalkCfgSet) : Part := ({ x with tka := { x.tka with cfg := x.tka.cfg.write f } }).evalCue

/-- What SET_TALKCFG makes of FOH CUE. -/
def Part.cueMove (x : Part) (f : TalkCfgSet) : TalkMove :=
  if (x.tka.cfg.write f).cueMask ≠ x.tka.cfg.cueMask then (x.cfgWritten f).judgeMove 16 else .stay

/-- The part with FOH CUE judged. -/
def Part.cueJudged (x : Part) (f : TalkCfgSet) : Part :=
  if (x.tka.cfg.write f).cueMask ≠ x.tka.cfg.cueMask then (x.cfgWritten f).maskChanged 16 else x.cfgWritten f

theorem Part.cueJudged_event (x : Part) (f : TalkCfgSet) :
    Part.TalkEvent (x.cfgWritten f) ((x.cfgWritten f).move 16 (x.cueMove f)) (x.cueJudged f) .arbiter [.foh, .mon, .stg] := by
  unfold Part.cueMove Part.cueJudged
  split
  · exact (x.cfgWritten f).maskChanged_event 16
  · exact Part.TalkEvent.refl ..

/-- The configuration's version, echo and notice (R145). -/
def Part.cfgTold (cause : TalkCause) (x : Part) : Part :=
  let y := ({ x with tka := { x.tka with cfg := { x.tka.cfg with version := inc16 x.tka.cfg.version } } }).echo .talkCfg
  y.notify (.talkCfgState y.tka.cfg cause)

theorem Part.cfgTold_exact (cause : TalkCause) (x : Part) :
    let cfg := { x.tka.cfg with version := (x.tka.cfg.version + 1) % 65536 }
    let y : Part := { x with tka := { x.tka with cfg := cfg } }
    x.cfgTold cause = { y with ple := (y.echo .talkCfg).ple, cmp := x.cmp.notify (.talkCfgState cfg cause) } := by
  unfold Part.cfgTold
  rw [Part.echo_lane]
  rfl

/-- SET_TALKCFG carried out, with its answer. -/
theorem Part.doUpdate_setTalkCfg (cc : ChangeCause) (tc : TalkCause) (f : TalkCfgSet) (x : Part) :
    x.doUpdate cc tc (.setTalkCfg f) =
      if x.tka.cfg.write f = x.tka.cfg then (.already, x) else (.ok, (x.cueJudged f).cfgTold tc) := by
  unfold Part.doUpdate Part.applyTalkCfg
  dsimp only
  split
  · rfl
  · rfl

/-- A talk configuration told of after FOH CUE was judged. -/
theorem Part.cfgTold_after (f : TalkCfgSet) (cause : TalkCause) (x : Part) :
    let z := x.cueJudged f
    let y := z.cfgTold cause
    let cfg := { x.tka.cfg.write f with version := (x.tka.cfg.version + 1) % 65536 }
    y.tka = { z.tka with cfg := cfg } ∧ y.tka.openCounter = x.tka.openCounter ∧
    y.tka.cue.target = (if (y.dest 16).state = .held then faderK cfg.cueLevel else 0) ∧ y.tka.cue.cur = x.tka.cue.cur ∧
    (∀ d, d ≠ 16 → y.dest d = x.dest d) ∧ y.mxe = x.mxe ∧ y.chs = x.chs ∧
    y.cmp = (y.talkTold x .arbiter [.foh, .mon, .stg]).notify (.talkCfgState y.tka.cfg cause) ∧
    y.ple = y.laneAfter x (y.talkEchoes x [.foh, .mon, .stg] ++ [.talkCfg]) := by
  have event := x.cueJudged_event f
  generalize hz : x.cueJudged f = z at event
  intro _ y cfg
  have whole : y = _ := z.cfgTold_exact cause
  have written : z.tka.cfg = x.tka.cfg.write f := event.cfg
  have tka : y.tka = { z.tka with cfg := cfg } := by rw [whole, written]; rfl
  have source (s : Source) : y.tka.source s = z.tka.source s := by rw [tka]; cases s <;> rfl
  have session (s : Source) : y.session s = z.session s := congrArg SourceRec.session (source s)
  have dest (d : Nat) : y.dest d = z.dest d := by unfold Part.dest; rw [tka]
  have changed : y.talkChanged x [.foh, .mon, .stg] = z.talkChanged (x.cfgWritten f) [.foh, .mon, .stg] := by
    unfold Part.talkChanged
    simp only [session]
    exact List.filter_congr fun s _ => by cases s <;> rfl
  have told : y.talkTold x .arbiter [.foh, .mon, .stg] = z.talkTold (x.cfgWritten f) .arbiter [.foh, .mon, .stg] := by
    unfold Part.talkTold
    rw [changed]
    simp only [source]
    exact List.foldl_ext _ _ _ fun c s _ => by cases s <;> rfl
  have echoes : y.talkEchoes x [.foh, .mon, .stg] = z.talkEchoes (x.cfgWritten f) [.foh, .mon, .stg] := by
    unfold Part.talkEchoes
    rw [changed]
  refine ⟨tka, ?_, ?_, ?_, fun d other => ?_, ?_, ?_, ?_, ?_⟩
  · rw [tka]; exact event.openCounter
  · have moved := (x.cfgWritten f).move_follows (x.cueMove f) (Part.evalCue_follows _)
    rw [tka, dest, event.dest]
    refine (congrArg Ramp.target event.cue).trans (moved.trans ?_)
    rw [show ((x.cfgWritten f).move 16 (x.cueMove f)).tka.cfg = (x.cfgWritten f).tka.cfg from
      (congrArg (fun p => p.tka.cfg) ((x.cfgWritten f).move_sansTalk 16 (x.cueMove f)) :)]
    rfl
  · rw [tka]
    exact (congrArg Ramp.cur event.cue).trans ((Part.move_cue_cur ..).trans (Ramp.retarget_cur ..))
  · rw [dest, event.dest, Part.move_dest, if_neg fun h => other h.1]
    rfl
  · refine (congrArg Part.mxe whole).trans ?_
    have mixes : z.mxe.mixes = x.mxe.mixes := by rw [event.mixes, Part.move_mixes, if_pos rfl]; rfl
    exact congrArg₂ Mxe.mk mixes event.free
  · exact (congrArg Part.chs whole).trans event.chs
  · refine (congrArg Part.cmp whole).trans ?_
    dsimp only
    rw [told, tka, event.told, written]
    rfl
  · refine (congrArg Part.ple whole).trans ?_
    dsimp only
    rw [echoes]
    refine (Part.laneAfter_concat _ .talkCfg y x _ ?_ ?_).symm
    · refine event.lane.trans (Part.laneAfter_congr _ _ _ _ _ rfl fun t ht => ?_)
      unfold Part.talkEchoes at ht
      obtain ⟨src, -, rfl⟩ := List.mem_map.mp ht
      exact Part.reports_talk _ _ src (source src).symm
    · show (some (LaneMsg.echoTalkCfg y.tka.cfg), none) = (some (LaneMsg.echoTalkCfg _), none)
      rw [tka, written]
      rfl

/-! ### The lock set by the lane (R105) -/

/-- The lock set with the present classes of a clamped SET_LOCK. -/
theorem Locks.write_clamp (f : LockSet) (l : Locks) :
    let class_ (v : Option Nat) (held : Bool) : Bool := match v with
      | some k => decide (k ≠ 0)
      | none => held
    l.write f.clamp = ⟨class_ f.preamp l.preamp, class_ f.condition l.condition, class_ f.mix l.mix, class_ f.talk l.talk, l.version⟩ := by
  show (⟨_, _, _, _, _⟩ : Locks) = ⟨_, _, _, _, _⟩
  unfold LockSet.clamp
  dsimp only
  rw [← flag_clamped f.preamp, ← flag_clamped f.condition, ← flag_clamped f.mix, ← flag_clamped f.talk] <;> rfl

/-- A SET_LOCK record that changes a class. -/
theorem Part.applyLock_changed (f : LockSet) (x : Part) (differs : x.chs.locks.write f ≠ x.chs.locks) :
    let y := x.applyLock f
    y.chs = { x.chs with locks := { x.chs.locks.write f with version := (x.chs.locks.version + 1) % 65536 } } ∧
    y.cmp = x.cmp.notify (.lockChanged y.chs.locks) ∧ y.ple = y.laneAfter x [.locks] ∧ y.mxe = x.mxe ∧ y.tka = x.tka := by
  intro y
  let w : Part := { x with chs := { x.chs with locks := { x.chs.locks.write f with version := inc16 x.chs.locks.version } } }
  have whole : y = { w with ple := (w.echo .locks).ple, cmp := x.cmp.notify (.lockChanged w.chs.locks) } := by
    refine (if_neg differs).trans ?_
    show (w.echo .locks).notify (.lockChanged (w.echo .locks).chs.locks) = _
    rw [Part.echo_lane]
    rfl
  rw [whole]
  exact ⟨rfl, rfl, (Part.laneAfter_one .locks _ x w rfl (Part.reports_told w _ _ _)).symm, rfl, rfl⟩

/-- A SET_LOCK record carried out. -/
theorem Part.applyMsg_setLock (f : LockSet) (x : Part) : x.applyMsg (.update (.setLock f)) = x.applyLock f.clamp := by
  refine Part.applyMsg_done (.setLock f) x _ (changedCode (x.chs.locks.write f.clamp != x.chs.locks)) rfl ?_ ?_ <;>
    (unfold changedCode; split <;> nofun)

/-! ### SET_TALKCFG's checks -/

/-- The configuration stands exactly where no field changes. -/
theorem TalkCfg.write_same (f : TalkCfgSet) (c : TalkCfg) :
    c.write f = c ↔ ¬ (f.cueMask.getD c.cueMask ≠ c.cueMask ∨ f.cueLevel.getD c.cueLevel ≠ c.cueLevel ∨ f.limit.getD c.limit ≠ c.limit) := by
  obtain ⟨mask, level, limit, version⟩ := c
  simp [TalkCfg.write]

theorem Part.talkCfgLocked_iff (x : Part) (f : TalkCfgSet) :
    x.talkCfgLocked f.clamp = true ↔ x.chs.locks.talk = true ∧ x.tka.cfg.write f.clamp ≠ x.tka.cfg := by
  unfold Part.talkCfgLocked
  rw [Ne, TalkCfg.write_same, not_not]
  unfold TalkCfgSet.clamp
  dsimp only
  rw [differs_map, differs_map, differs_map]
  simp only [Bool.or_eq_true, Bool.and_eq_true, decide_eq_true_eq, or_assoc]

/-- Settles O53: the configuration written, FOH CUE of a changed mask judged, the configuration told of; the locks by the lane only. -/
theorem talkAndLocksConfigured : Obligations.TalkAndLocksConfigured := by
  refine ⟨fun tag f s stage => ?_, fun tag f s ready stage => ?_, fun f x => ?_⟩
  · intro c mask level limit changes up order passes may after
    have hmask : mask = f.clamp.cueMask.getD c.cueMask := code_clamped f.cueMask 6 c.cueMask
    have hlevel : level = f.clamp.cueLevel.getD c.cueLevel := code_clamped f.cueLevel 255 c.cueLevel
    have hlimit : limit = f.clamp.limit.getD c.limit := by
      show (match f.limit with
        | some v => if v < 5 then 5 else if 600 < v then 600 else v
        | none => c.limit) = (f.limit.map (clampNat 5 600)).getD c.limit
      cases f.limit <;> rfl
    have written : c.write f.clamp = ⟨mask, level, limit, c.version⟩ := by rw [hmask, hlevel, hlimit]; rfl
    have unchanged : c.write f.clamp = c ↔ ¬ changes := by
      rw [TalkCfg.write_same, ← hmask, ← hlevel, ← hlimit]
    have lock : s.part.talkCfgLocked f.clamp = true ↔ s.part.chs.locks.talk = true ∧ changes := by
      rw [s.part.talkCfgLocked_iff f, show s.part.tka.cfg = c from rfl, Ne, unchanged, not_not]
    have done (cc : ChangeCause) (tc : TalkCause) := s.part.doUpdate_setTalkCfg cc tc f.clamp
    have holds (tc : TalkCause) : after ((s.part.cueJudged f.clamp).cfgTold tc) tc := by
      obtain ⟨tka, openCounter, target, cur, others, mxe, chs, cmp, ple⟩ := s.part.cfgTold_after f.clamp tc
      have event := s.part.cueJudged_event f.clamp
      rw [show s.part.tka.cfg = c from rfl, written] at tka target
      have same : (s.part.cueJudged f.clamp = s.part.cfgWritten f.clamp) →
          ((s.part.cueJudged f.clamp).cfgTold tc).dest 16 = s.part.dest 16 ∧
          ∀ src, ((s.part.cueJudged f.clamp).cfgTold tc).tka.source src = s.part.tka.source src := by
        intro still
        rw [still] at tka ⊢
        unfold Part.dest
        rw [tka]
        exact ⟨rfl, fun src => by cases src <;> rfl⟩
      have masks : (s.part.tka.cfg.write f.clamp).cueMask = mask := by rw [show s.part.tka.cfg = c from rfl, written]
      have fits (o : Session) : (s.part.cfgWritten f.clamp).eligible o 16 = true ↔ passes o := by
        rw [Part.eligible_iff]
        unfold Part.maskOf
        rw [if_pos rfl, show (s.part.cfgWritten f.clamp).tka.cfg.cueMask = mask from masks]
        exact ⟨fun h => ⟨h.1, h.2.1, h.2.2 rfl⟩, fun h => ⟨h.1, h.2.1, fun _ => h.2.2⟩⟩
      have waits (src : Source) (o : Session) :
          (s.part.cfgWritten f.clamp).candidate 16 src o ↔ s.part.session src = some o ∧ may o := by
        have session : (s.part.cfgWritten f.clamp).session src = s.part.session src := by cases src <;> rfl
        unfold Part.candidate Session.waits
        rw [session, fits, Bool.and_eq_true, Bool.not_eq_true']
        exact ⟨fun h => ⟨h.1, h.2.1.2, h.2.2⟩, fun h => ⟨h.1, ⟨h.2.2.1, h.2.1⟩, h.2.2⟩⟩
      refine ⟨by rw [tka], openCounter, target, cur, others, mxe, chs, cmp, ple, fun stays => same ?_, fun differs seventeen => ?_⟩
      · by_cases differs : mask ≠ c.cueMask
        · have moves : s.part.cueMove f.clamp = (s.part.cfgWritten f.clamp).judgeMove 16 := if_pos (by rw [masks]; exact differs)
          have stands : (s.part.cfgWritten f.clamp).judgeMove 16 = .stay := by
            unfold Part.judgeMove
            rw [show ((s.part.cfgWritten f.clamp).dest 16).state = .fading from stays.resolve_left differs]
          rw [moves, stands] at event
          exact event.still
        · exact if_neg (by rw [masks]; exact differs)
      · have moves : s.part.cueMove f.clamp = (s.part.cfgWritten f.clamp).judgeMove 16 := if_pos (by rw [masks]; exact differs)
        rw [moves] at event
        obtain ⟨-, held, free⟩ := event.judged (show 16 < s.part.tka.dests.length by omega)
        have dest : ((s.part.cueJudged f.clamp).cfgTold tc).dest 16 = (s.part.cueJudged f.clamp).dest 16 := by
          unfold Part.dest; rw [tka]
        have source (src : Source) : ((s.part.cueJudged f.clamp).cfgTold tc).tka.source src = (s.part.cueJudged f.clamp).tka.source src := by
          rw [tka]; cases src <;> rfl
        have session (src : Source) : ((s.part.cueJudged f.clamp).cfgTold tc).session src = (s.part.cueJudged f.clamp).session src :=
          congrArg SourceRec.session (source src)
        have before (src : Source) : (s.part.cfgWritten f.clamp).tka.source src = s.part.tka.source src := by cases src <;> rfl
        have opens (src : Source) : (s.part.cfgWritten f.clamp).session src = s.part.session src := congrArg SourceRec.session (before src)
        simp only [before, opens] at held free
        refine ⟨fun h o state holder opened => ⟨fun fit => same ?_, fun unfit => ?_⟩, fun state => ⟨fun idle => same ?_,
          fun src o opened fit first => ?_⟩⟩
        · exact (held h o state holder opened).1 ((fits o).mpr fit)
        · simp only [source, session, dest]
          exact (held h o state holder opened).2 (Bool.eq_false_iff.mpr fun e => unfit ((fits o).mp e))
        · exact (free state).1 fun src o c => idle src o ((waits src o).mp c).1 ((waits src o).mp c).2
        · simp only [source, session, dest]
          exact (free state).2 src o ((waits src o).mpr ⟨opened, fit⟩) fun t o' ne c =>
            first t o' ne ((waits t o').mp c).1 ((waits t o').mp c).2
    refine ⟨fun ready => ⟨fun still => ?_, fun h isLocked => ?_, fun h free => ?_⟩, fun still => ?_, fun h => ?_⟩
    · have carried := exec_update_done tag (.setTalkCfg f) s ready stage rfl rfl rfl
        (Bool.eq_false_iff.mpr fun l => still (lock.mp l).2)
      rw [show (Update.setTalkCfg f).clamp = .setTalkCfg f.clamp from rfl, (done .host .host).trans (if_pos (unchanged.mpr still))]
        at carried
      exact carried
    · exact exec_update_locked tag (.setTalkCfg f) s ready stage rfl rfl rfl (lock.mpr ⟨isLocked, h⟩)
    · have carried := exec_update_done tag (.setTalkCfg f) s ready stage rfl rfl rfl
        (Bool.eq_false_iff.mpr fun l => by rw [free] at lock; cases (lock.mp l).1)
      rw [show (Update.setTalkCfg f).clamp = .setTalkCfg f.clamp from rfl,
        (done .host .host).trans (if_neg fun e => unchanged.mp e h)] at carried
      exact ⟨_, carried, holds .host⟩
    · exact Part.applyMsg_done (.setTalkCfg f) s.part s.part .already ((done .lane .lane).trans (if_pos (unchanged.mpr still))) nofun nofun
    · rw [Part.applyMsg_done (.setTalkCfg f) s.part _ .ok ((done .lane .lane).trans (if_neg fun e => unchanged.mp e h)) nofun nofun]
      exact holds .lane
  · refine exec_request_refused tag (.update (.setLock f)) .state s ready ?_
    unfold Part.refusal
    rw [stage]
    rfl
  · intro class_ l now y
    have applied : y = x.applyLock f.clamp := x.applyMsg_setLock f
    have now_eq : x.chs.locks.write f.clamp = now := Locks.write_clamp f x.chs.locks
    refine ⟨fun same => applied.trans (if_pos (now_eq.trans same)), fun differs => ?_⟩
    have changed := x.applyLock_changed f.clamp (by rw [now_eq]; exact differs)
    rw [now_eq] at changed
    rw [applied]
    exact changed

end Sys2Proof.Machine
end

section
/-!
PROOFS. SET_PATH (R19, R35, R38): the fields written, what enabling, disabling and auto-burst do to the path, and the report of it.
-/

namespace Sys2Proof.Machine

/-! ### One path configured -/

theorem PathCtl.configure_cfg (op : OpState) (f : PathSet) (c : PathCtl) : (c.configure op f).cfg = c.cfg.write f := by
  have enable (d : PathCtl) (on : Bool) : (d.enable op on).cfg = d.cfg := by unfold PathCtl.enable; split <;> rfl
  have burst (d : PathCtl) : (d.autoBurstSet op).cfg = d.cfg := by
    unfold PathCtl.autoBurstSet
    (repeat' split) <;> rfl
  unfold PathCtl.configure
  dsimp only
  split <;> split
  · rfl
  · exact enable ..
  · exact burst _
  · exact (burst _).trans (enable ..)

/-- Auto-burst written leaves a path that is not about to burst. -/
theorem PathCtl.autoBurstSet_idle (op : OpState) (c : PathCtl) (ready : c.burstReady op = false) (tx : c.tx ≠ .burst) :
    c.autoBurstSet op = c := by
  unfold PathCtl.autoBurstSet
  rw [ready]
  by_cases auto : c.cfg.autoBurst = true
  · rw [if_pos auto]
    exact if_neg nofun
  · rw [if_neg auto]
    exact if_neg tx

/-- A path switched off or on (R35). -/
theorem PathCtl.configure_enable (op : OpState) (f : PathSet) (c : PathCtl) (changes : (c.cfg.write f).enabled ≠ c.cfg.enabled) :
    c.configure op f = PathCtl.enable op (c.cfg.write f).enabled { c with cfg := c.cfg.write f } := by
  have idle (on : Bool) : (PathCtl.enable op on { c with cfg := c.cfg.write f }).burstReady op = false ∧
      (PathCtl.enable op on { c with cfg := c.cfg.write f }).tx ≠ .burst := by
    unfold PathCtl.enable PathCtl.burstReady
    cases on with
    | true => exact ⟨by simp [PathCtl.darken], by show (if op = .operate then TxMode.full else .off) ≠ _; split <;> nofun⟩
    | false => exact ⟨rfl, nofun⟩
  unfold PathCtl.configure
  dsimp only
  rw [if_neg changes]
  split
  · rfl
  · exact PathCtl.autoBurstSet_idle op _ (idle _).1 (idle _).2

/-- With enabled as it was the path takes the configuration, and auto-burst where it changed. -/
theorem PathCtl.configure_stands (op : OpState) (f : PathSet) (c : PathCtl) (stays : (c.cfg.write f).enabled = c.cfg.enabled) :
    c.configure op f = if (c.cfg.write f).autoBurst = c.cfg.autoBurst then { c with cfg := c.cfg.write f }
      else PathCtl.autoBurstSet op { c with cfg := c.cfg.write f } := by
  unfold PathCtl.configure
  dsimp only
  rw [if_pos stays]

/-- A path with its configuration written and enabled as it was is used and aligns as before. -/
theorem PathCtl.configure_same (op : OpState) (f : PathSet) (c : PathCtl) (stays : (c.cfg.write f).enabled = c.cfg.enabled) :
    (c.configure op f).usable = c.usable ∧ (c.configure op f).atAlign = c.atAlign := by
  rw [PathCtl.configure_stands op f c stays]
  unfold PathCtl.autoBurstSet
  (repeat' split) <;> exact ⟨rfl, rfl⟩

/-! ### SET_PATH carried out -/

/-- The part with SET_PATH's fields written, before the report. -/
def Part.pathWritten (x : Part) (p : Path) (f : PathSet) : Part :=
  { x.onPath p (PathCtl.configure x.dsc.opState f) with pair := x.pair.write f }

theorem Part.pathWritten_path (x : Part) (p : Path) (f : PathSet) :
    (x.pathWritten p f).path p = (x.path p).configure x.dsc.opState f ∧
    (x.pathWritten p f).path (otherPath p) = x.path (otherPath p) := by
  cases p <;> exact ⟨rfl, rfl⟩

theorem Part.setPath_eq (x : Part) (p : Path) (f : PathSet) :
    x.setPath p f = if (x.path p).cfg.write f = (x.path p).cfg ∧ x.pair.write f = x.pair then (false, x)
      else (true, (x.pathWritten p f).report x) := by
  unfold Part.setPath Part.pathWritten
  cases p <;> rfl

/-- A change of the link leaves the pair's configuration. -/
theorem Part.linkChanged_pair (old : LinkState) (x : Part) : (x.linkChanged old).pair = x.pair := by
  have lane (y : Part) : (y.laneLink old).pair = y.pair := by
    obtain ⟨l, h⟩ := y.laneLink_lane old
    rw [h]
  cases role : x.dsc.role with
  | desk =>
    rw [x.linkChanged_desk old role]
    unfold Part.meterLink
    split
    · exact lane x
    · exact lane x
  | stage =>
    rw [x.linkChanged_stage old role, lane]
    exact (congrArg Part.pair (x.talkLink_sans old) :)

/-- A report leaves the pair's configuration. -/
theorem Part.report_pair (old x : Part) : (x.report old).pair = x.pair := by
  have clock (y : Part) : y.clockFollow.pair = y.pair := by
    obtain ⟨c, d, h⟩ := y.clockFollow_eq
    rw [h]
  rw [Part.report_eq]
  dsimp only
  have begun : (Part.reported old x.anchoring.1 x.anchoring.2).clockFollow.pair = x.pair :=
    (clock _).trans x.anchoring_fields.2.1
  split
  · rw [Part.linkChanged_pair, begun]
  · exact begun

/-- The pair's fields as SET_PATH gives them. -/
theorem PairCfg.write_clamp (f : PathSet) (c : PairCfg) (fits : ∀ v, f.preferred = some v → v ≤ 1) :
    c.write f.clamp =
      { preferred := match f.preferred with
          | some 0 => .a
          | some _ => .b
          | none => c.preferred
        revertive := match f.revertive with
          | some v => decide (v ≠ 0)
          | none => c.revertive } := by
  have preferred : (f.preferred.bind pathOf).getD c.preferred = match f.preferred with
      | some 0 => .a
      | some _ => .b
      | none => c.preferred := by
    cases held : f.preferred with
    | none => rfl
    | some v =>
      have le := fits v held
      match v with
      | 0 => rfl
      | 1 => rfl
      | v + 2 => omega
  have revertive := flag_clamped f.revertive c.revertive
  show (⟨(f.preferred.bind pathOf).getD c.preferred, ((f.revertive.map clampFlag).map flagOf).getD c.revertive⟩ : PairCfg) = _
  rw [preferred, ← revertive] <;> rfl

/-- The path's fields as SET_PATH gives them. -/
theorem PathCfg.write_clamp (f : PathSet) (c : PathCfg) :
    c.write f.clamp =
      { enabled := match f.enabled with
          | some v => decide (v ≠ 0)
          | none => c.enabled
        threshold := match f.threshold with
          | some v => if v < 1 then 1 else if 999 < v then 999 else v
          | none => c.threshold
        silenceSel := match f.silenceSel with
          | some v => min 3 v
          | none => c.silenceSel
        autoBurst := match f.autoBurst with
          | some v => decide (v ≠ 0)
          | none => c.autoBurst } := by
  have enabled := flag_clamped f.enabled c.enabled
  have autoBurst := flag_clamped f.autoBurst c.autoBurst
  have silence := code_clamped f.silenceSel 3 c.silenceSel
  have threshold : (f.threshold.map (clampNat 1 999)).getD c.threshold = match f.threshold with
      | some v => if v < 1 then 1 else if 999 < v then 999 else v
      | none => c.threshold := by
    cases f.threshold <;> rfl
  show (⟨((f.enabled.map clampFlag).map flagOf).getD c.enabled, (f.threshold.map (clampNat 1 999)).getD c.threshold,
    (f.silenceSel.map (min 3)).getD c.silenceSel, ((f.autoBurst.map clampFlag).map flagOf).getD c.autoBurst⟩ : PathCfg) = _
  rw [threshold, ← enabled, ← autoBurst, ← silence] <;> rfl

/-- SET_PATH is checked for its path and its preferred path. -/
theorem Part.refusal_setPath (n : Nat) (f : PathSet) (x : Part) :
    x.refusal (.setPath n f) = if n ≤ 1 ∧ f.preferred.getD 0 ≤ 1 then none else some .range := by
  rw [Part.refusal_eq _ x rfl rfl, absentAt_of_stage _ rfl]
  show (if (decide (n ≤ 1) && decide (f.preferred.getD 0 ≤ 1)) = true then _ else some ReplyCode.range) = _
  simp only [Bool.and_eq_true, decide_eq_true_eq]

/-- Parts of one port hold the same replies. -/
theorem Part.replies_of_port {x y : Part} (h : y.port = x.port) : y.cmp.replies = x.cmp.replies :=
  (congrArg Cmp.replies h :)

/-- What a changed SET_PATH makes of its path, from a part `x`. -/
theorem Part.setPath_after (x : Part) (p : Path) (f : PathSet) :
    let y := (x.pathWritten p f).report x
    let c := x.path p
    let cfg := c.cfg.write f
    (y.path p).cfg = cfg ∧ (y.path (otherPath p)).cfg = (x.path (otherPath p)).cfg ∧ y.pair = x.pair.write f ∧
    y.cmp.replies = x.cmp.replies ∧
    (cfg.enabled ≠ c.cfg.enabled → y.path p = PathCtl.enable x.dsc.opState cfg.enabled { c with cfg := cfg }) ∧
    (cfg.enabled = c.cfg.enabled → x.anyUsable = true ∨ c.atAlign = false → y.path p =
      if cfg.autoBurst = c.cfg.autoBurst then { c with cfg := cfg } else PathCtl.autoBurstSet x.dsc.opState { c with cfg := cfg }) := by
  obtain ⟨own, other⟩ := x.pathWritten_path p f
  intro y c cfg
  have path (q : Path) : y.path q = (x.pathWritten p f).anchoring.1.path q := Part.report_path ..
  refine ⟨?_, ?_, ?_, ?_, fun changes => ?_, fun stays idle => ?_⟩
  · rw [path, (Part.anchoring_fields _).1, own, PathCtl.configure_cfg]
  · rw [path, (Part.anchoring_fields _).1, other]
  · rw [Part.report_pair]
    rfl
  · have port : y.port = x.port := by
      refine (Part.report_port ..).trans ?_
      cases p <;> rfl
    exact Part.replies_of_port port
  · have aligned : ((x.pathWritten p f).path p).atAlign = false := by
      rw [own, PathCtl.configure_enable _ f _ changes]
      unfold PathCtl.enable
      split <;> rfl
    rw [path, Part.anchoring_path _ p (.inr aligned), own, PathCtl.configure_enable _ f _ changes]
  · obtain ⟨used, aligns⟩ := PathCtl.configure_same x.dsc.opState f c stays
    have idle' : (x.pathWritten p f).anyUsable = true ∨ ((x.pathWritten p f).path p).atAlign = false := by
      refine idle.imp (fun any => ?_) fun aligned => ?_
      · unfold Part.anyUsable at any ⊢
        cases p
        · exact (congrArg (fun b => b || x.pb.usable) used).trans any
        · exact (congrArg (fun b => x.pa.usable || b) used).trans any
      · rw [own]; exact aligns.trans aligned
    rw [path, Part.anchoring_path _ p idle', own, PathCtl.configure_stands _ f _ stays]

/-- Settles O47: the path configured, and what stands of it after the report. -/
theorem pathConfigured : Obligations.PathConfigured := by
  intro tag n f p s ready old cfg pair
  refine ⟨fun high => ?_, fun number fits => ?_⟩
  · refine exec_request_refused tag (.setPath n f) .range s ready ((s.part.refusal_setPath n f).trans (if_neg fun h => ?_))
    rcases high with high | ⟨v, held, high⟩
    · omega
    · rw [held] at h
      exact absurd h.2 (by simpa using high)
  · have low : n ≤ 1 ∧ f.preferred.getD 0 ≤ 1 := by
      refine ⟨by rw [number]; cases p <;> decide, ?_⟩
      cases held : f.preferred with
      | none => exact Nat.zero_le 1
      | some v => exact fits v held
    have acted : exec (.setPath tag n f) s = _ := exec_request_act tag (.setPath n f) s ready ((s.part.refusal_setPath n f).trans (if_pos low))
    have path : pathOf n = some p := by rw [number]; cases p <;> rfl
    have cfgIs : old.write f.clamp = cfg := PathCfg.write_clamp f old
    have pairIs : s.part.pair.write f.clamp = pair := PairCfg.write_clamp f s.part.pair fits
    have asked : s.part.act tag (Request.setPath n f).clamp =
        Part.answer tag (changedCode (s.part.setPath p f.clamp).1) (s.part.setPath p f.clamp).2 := by
      show s.part.askSetPath tag n f.clamp = _
      unfold Part.askSetPath
      rw [path]
    rw [Part.setPath_eq, pairIs, show (s.part.path p).cfg.write f.clamp = cfg from cfgIs] at asked
    rw [acted]
    refine ⟨fun sameCfg samePair => next_part s ?_, fun differs => ?_⟩
    · rw [asked, if_pos ⟨sameCfg, samePair⟩]
      rfl
    · obtain ⟨own, other, pairNow, replies, enable, stands⟩ := s.part.setPath_after p f.clamp
      rw [show (s.part.path p).cfg.write f.clamp = cfg from cfgIs] at own enable stands
      rw [asked, if_neg fun h => differs.elim (fun d => d h.1) fun d => d h.2]
      refine ⟨_, rfl, own, other, pairNow.trans pairIs, replies, fun on off => ?_, fun off on => ?_, fun same burst idle => ?_,
        fun same burst idle => ⟨fun off => ?_, fun on => ?_⟩⟩
      · rw [enable (by rw [off]; show false ≠ old.enabled; rw [on]; nofun), off]
        exact ⟨rfl, rfl, rfl, rfl, rfl, rfl, rfl, rfl, rfl, rfl⟩
      · rw [enable (by rw [on]; show true ≠ old.enabled; rw [off]; nofun), on]
        exact ⟨rfl, rfl, rfl, rfl⟩
      · rw [stands same idle, if_pos burst]
      · rw [stands same idle, if_neg burst]
        unfold PathCtl.autoBurstSet
        dsimp only
        rw [off, if_neg nofun]
        split <;> rfl
      · rw [stands same idle, if_neg burst]
        unfold PathCtl.autoBurstSet
        dsimp only
        rw [on, if_pos rfl]
        refine if_congr ?_ rfl rfl
        unfold PathCtl.burstReady
        simp only [Bool.and_eq_true, beq_iff_eq, bne_iff_ne, decide_eq_true_eq, on, and_true, and_assoc]

end Sys2Proof.Machine
end

section
/-!
PROOFS. The encodings: a field of bits or bytes is read back as it was written, and so are the fibre frames of Table 9-8,
the host requests with their framing and check, and the lane records with their symbols.
-/

namespace Sys2Proof.Machine

open Sys2Proof

/-! ### Bit fields -/

@[simp] theorem natBits_length (n v : Nat) : (natBits n v).length = n := by
  induction n with
  | zero => rfl
  | succ n ih => simp [natBits, ih]

theorem foldl_natBits (n v acc : Nat) :
    (natBits n v).foldl (fun acc b => 2 * acc + b.toNat) acc = acc * 2 ^ n + v % 2 ^ n := by
  induction n generalizing acc with
  | zero => simp [natBits, Nat.mod_one]
  | succ n ih =>
    rw [natBits, List.foldl_cons, ih, Nat.mod_pow_succ, Nat.toNat_testBit, Nat.pow_succ]
    ring

theorem ofBits_natBits {n v : Nat} (h : v < 2 ^ n) : ofBits (natBits n v) = v := by
  rw [ofBits, foldl_natBits, Nat.zero_mul, Nat.zero_add, Nat.mod_eq_of_lt h]

/-- A field lies in what stands before it, read in the part of the bits it lies in. -/
theorem fieldAt_skip {a c : List Bool} {k n : Nat} (h : a.length ≤ k) :
    fieldAt (a ++ c) k n = fieldAt c (k - a.length) n := by
  rw [fieldAt, fieldAt, List.drop_append, List.drop_eq_nil_of_le h, List.nil_append]

theorem fieldAt_field {n v : Nat} {c : List Bool} (h : v < 2 ^ n) : fieldAt (natBits n v ++ c) 0 n = v := by
  rw [fieldAt, List.drop_zero, List.take_append_of_le_length (by simp), List.take_of_length_le (by simp),
    ofBits_natBits h]

theorem getD_skip {a c : List Bool} {k : Nat} (h : a.length ≤ k) :
    (a ++ c).getD k false = c.getD (k - a.length) false :=
  List.getD_append_right _ _ _ _ h

/-! ### Frame checks -/

/-- A check fits its register, whatever the bits. -/
theorem crcBits_lt {w poly init : Nat} (bits : List Bool) (hpoly : poly < 2 ^ w) (hinit : init < 2 ^ w) :
    crcBits w poly init bits < 2 ^ w := by
  have step : ∀ reg bit, crcStep w poly reg bit < 2 ^ w := by
    intro reg bit
    have hshift : (2 * reg) % 2 ^ w < 2 ^ w := Nat.mod_lt _ (Nat.two_pow_pos w)
    unfold crcStep
    split
    · exact Nat.xor_lt_two_pow hshift hpoly
    · exact hshift
  induction bits generalizing init with
  | nil => exact hinit
  | cons b bs ih => exact ih (step init b)

theorem crc32_lt (bits : List Bool) : crc32 bits < 2 ^ 32 :=
  crcBits_lt bits (by decide) (by decide)

theorem crc16_lt (bytes : List Nat) : crc16 bytes < 2 ^ 16 :=
  crcBits_lt (byteBits bytes) (by decide) (by decide)

/-! ### Fibre frames (Table 9-8) -/

theorem sampleOfNat_natOfSample {v : Int} (hmin : sampleMin ≤ v) (hmax : v ≤ sampleMax) :
    sampleOfNat (natOfSample v) = v := by
  simp only [sampleMin, sampleMax] at hmin hmax
  unfold sampleOfNat natOfSample
  split
  case isTrue h =>
    change ((v % 16777216).toNat : Int) = v
    omega
  case isFalse h =>
    change ((v % 16777216).toNat : Int) - 16777216 = v
    omega

theorem natOfSample_lt (v : Sample) : natOfSample v < 2 ^ 24 := by
  unfold natOfSample
  omega

theorem roleOfBit_roleBit (r : Role) : roleOfBit (roleBit r) = r := by
  cases r <;> rfl

@[simp] theorem Sym.bits_length (y : Sym) : y.bits.length = 9 := by
  simp [Sym.bits]

@[simp] theorem MeterCell.bits_length (c : MeterCell) : c.bits.length = 24 := by
  simp [MeterCell.bits]

/-- The bits of the audio slots. -/
def audioBits (vs : List Sample) : List Bool :=
  vs.flatMap fun v => natBits 24 (natOfSample v)

theorem audioBits_cons (v : Sample) (vs : List Sample) :
    audioBits (v :: vs) = natBits 24 (natOfSample v) ++ audioBits vs :=
  List.flatMap_cons

@[simp] theorem audioBits_length (vs : List Sample) : (audioBits vs).length = 24 * vs.length := by
  induction vs with
  | nil => rfl
  | cons v vs ih =>
    rw [audioBits_cons, List.length_append, natBits_length, ih, List.length_cons]
    omega

theorem symAt_skip {a c : List Bool} {k : Nat} (h : a.length ≤ k) : symAt (a ++ c) k = symAt c (k - a.length) := by
  rw [symAt, symAt, getD_skip h, fieldAt_skip (by omega), Nat.sub_add_comm h]

theorem symAt_bits {y : Sym} {c : List Bool} (h : y.data < 256) : symAt (y.bits ++ c) 0 = y := by
  have hdata : fieldAt ([y.marker] ++ (natBits 8 y.data ++ c)) 1 8 = y.data := by
    rw [fieldAt_skip (by simp)]
    exact fieldAt_field h
  exact congrArg (Sym.mk y.marker) hdata

theorem audioAt_skip {a c : List Bool} {k n : Nat} (h : a.length ≤ k) :
    audioAt (a ++ c) k n = audioAt c (k - a.length) n := by
  unfold audioAt
  refine List.map_congr_left fun i _ => ?_
  rw [fieldAt_skip (by omega), Nat.sub_add_comm h]

theorem audioAt_succ (bits : List Bool) (k n : Nat) :
    audioAt bits k (n + 1) = sampleOfNat (fieldAt bits k 24) :: audioAt bits (k + 24) n := by
  unfold audioAt
  rw [List.range_succ_eq_map, List.map_cons, List.map_map]
  refine congrArg₂ _ rfl (List.map_congr_left fun i _ => ?_)
  simp only [Function.comp_apply, Nat.mul_succ, Nat.add_assoc, Nat.add_comm 24]

theorem audioAt_audioBits {vs : List Sample} {c : List Bool} (h : ∀ v ∈ vs, sampleMin ≤ v ∧ v ≤ sampleMax) :
    audioAt (audioBits vs ++ c) 0 vs.length = vs := by
  induction vs with
  | nil => rfl
  | cons v vs ih =>
    obtain ⟨hmin, hmax⟩ := h v List.mem_cons_self
    rw [List.length_cons, audioAt_succ, audioBits_cons, List.append_assoc, fieldAt_field (natOfSample_lt v),
      sampleOfNat_natOfSample hmin hmax, audioAt_skip (by simp)]
    simpa using ih fun w hw => h w (List.mem_cons_of_mem v hw)

theorem cellAt_skip {a c : List Bool} {k : Nat} (h : a.length ≤ k) : cellAt (a ++ c) k = cellAt c (k - a.length) := by
  rw [cellAt, cellAt, fieldAt_skip h, fieldAt_skip (by omega), getD_skip (by omega), Nat.sub_add_comm h,
    Nat.sub_add_comm h]

theorem cellAt_bits {e : MeterCell} {c : List Bool} (hi : e.index < 128) (hl : e.level < 65536) :
    cellAt (e.bits ++ c) 0 = e := by
  have hlevel : fieldAt (natBits 7 e.index ++ (natBits 16 e.level ++ ([e.clip] ++ c))) 7 16 = e.level := by
    rw [fieldAt_skip (by simp)]
    simpa using fieldAt_field hl
  have hclip : (natBits 7 e.index ++ (natBits 16 e.level ++ ([e.clip] ++ c))).getD 23 false = e.clip := by
    rw [getD_skip (by simp), getD_skip (by simp)]
    simp
  have hindex : e.index < 2 ^ 7 := hi
  simp only [cellAt, MeterCell.bits, List.append_assoc, Nat.zero_add, hlevel, hclip, fieldAt_field hindex]

/-- The bits of the cell a full frame carries, if it carries one. -/
def Frame.cellBits (f : Frame) : List Bool :=
  match f.cell with
  | some e => e.bits
  | none => []

/-- What a frame carries after its header and before its check, in the form it has. -/
def Frame.carried (f : Frame) : List Bool :=
  if f.idle then [] else f.payload

theorem encodeFrame_eq (f : Frame) :
    encodeFrame f = natBits 16 f.seq ++ (natBits 8 f.ack ++ ([roleBit f.role, f.restart, f.restartAck, f.idle] ++
      (f.carried ++ natBits 32 (crc32 f.body)))) := by
  simp only [encodeFrame, Frame.body, Frame.header, Frame.carried, List.append_assoc]

theorem encodeFrame_body (f : Frame) : (encodeFrame f).take ((encodeFrame f).length - 32) = f.body := by
  simp [encodeFrame]

theorem encodeFrame_check (f : Frame) : ofBits ((encodeFrame f).drop ((encodeFrame f).length - 32)) = crc32 f.body := by
  have hdrop : (encodeFrame f).drop ((encodeFrame f).length - 32) = natBits 32 (crc32 f.body) := by
    simp [encodeFrame]
  rw [hdrop, ofBits_natBits (crc32_lt _)]

/-- Bits of the form of a frame pass their check, and are read in the form their idle bit says. -/
theorem decodeFrame_encoded {rx : Role} {f : Frame}
    (h : (encodeFrame f).length = if (encodeFrame f).getD 27 false then 60 else fullBits rx) :
    decodeFrame rx (encodeFrame f) = some (readFrame rx (encodeFrame f)) := by
  rw [decodeFrame]
  exact if_pos ⟨by rw [encodeFrame_body, encodeFrame_check], h⟩

/-- The flags of the header. -/
theorem encodeFrame_flags (f : Frame) : (encodeFrame f).getD 24 false = roleBit f.role ∧
    (encodeFrame f).getD 25 false = f.restart ∧ (encodeFrame f).getD 26 false = f.restartAck ∧
    (encodeFrame f).getD 27 false = f.idle := by
  rw [encodeFrame_eq]
  simp [List.getD_eq_getElem?_getD, List.getElem?_append]

/-- The header fields of a frame that fits are read back. -/
theorem encodeFrame_header {f : Frame} (hseq : f.seq < 65536) (hack : f.ack < 256) :
    fieldAt (encodeFrame f) 0 16 = f.seq ∧ fieldAt (encodeFrame f) 16 8 = f.ack := by
  rw [encodeFrame_eq]
  refine ⟨fieldAt_field hseq, ?_⟩
  rw [fieldAt_skip (by simp)]
  simpa using fieldAt_field hack

/-- The fields behind the header stand in what the frame carries. -/
theorem encodeFrame_carried (f : Frame) (k n : Nat) :
    symAt (encodeFrame f) (28 + k) = symAt (f.carried ++ natBits 32 (crc32 f.body)) k ∧
    audioAt (encodeFrame f) (28 + k) n = audioAt (f.carried ++ natBits 32 (crc32 f.body)) k n ∧
    cellAt (encodeFrame f) (28 + k) = cellAt (f.carried ++ natBits 32 (crc32 f.body)) k := by
  have hlen : f.header.length = 28 := by simp [Frame.header]
  have heq : encodeFrame f = f.header ++ (f.carried ++ natBits 32 (crc32 f.body)) := by
    simp only [encodeFrame, Frame.body, Frame.carried, List.append_assoc]
  have hsub : 28 + k - f.header.length = k := by omega
  rw [heq, symAt_skip (by omega), audioAt_skip (by omega), cellAt_skip (by omega), hsub]
  exact ⟨rfl, rfl, rfl⟩

theorem decodeFrame_idle {rx : Role} {f : Frame} (h : f.fits rx) (hidle : f.idle = true) :
    decodeFrame rx (encodeFrame f) = some f := by
  obtain ⟨hseq, hack, hempty, -⟩ := h
  obtain ⟨hsyms, haudio, hcell⟩ := hempty hidle
  obtain ⟨hrole, hrestart, hrestartAck, hflag⟩ := encodeFrame_flags f
  obtain ⟨hseq', hack'⟩ := encodeFrame_header hseq hack
  have hlen : (encodeFrame f).length = 60 := by simp [encodeFrame_eq, Frame.carried, hidle]
  rw [decodeFrame_encoded (by rw [hflag, hidle, hlen]; rfl)]
  obtain ⟨seq, ack, role, restart, restartAck, idle, syms, audio, cell⟩ := f
  simp_all [readFrame, roleOfBit_roleBit]

/-- The payload of four symbols, the audio slots and the cell's bits. -/
theorem Frame.payload_eq {f : Frame} {a b c d : Sym} (h : f.syms = [a, b, c, d]) :
    f.payload = a.bits ++ (b.bits ++ (c.bits ++ (d.bits ++ (audioBits f.audio ++ f.cellBits)))) := by
  show f.syms.flatMap Sym.bits ++ audioBits f.audio ++ f.cellBits = _
  simp only [h, List.flatMap_cons, List.flatMap_nil, List.append_nil, List.append_assoc]

/-- What a full frame carries before its check, in the order it is read. -/
theorem Frame.carried_eq {f : Frame} {a b c d : Sym} (hsyms : f.syms = [a, b, c, d]) (hidle : f.idle = false)
    (check : List Bool) :
    f.carried ++ check = a.bits ++ (b.bits ++ (c.bits ++ (d.bits ++ (audioBits f.audio ++ (f.cellBits ++ check))))) := by
  have hcarried : f.carried = f.payload := by simp [Frame.carried, hidle]
  rw [hcarried, f.payload_eq hsyms]
  simp only [List.append_assoc]

/-- The symbols and the audio slots of a full frame are read back. -/
theorem encodeFrame_payload {f : Frame} {a b c d : Sym} (hsyms : f.syms = [a, b, c, d]) (hidle : f.idle = false)
    (hbytes : ∀ y ∈ f.syms, y.data < 256) (hrange : ∀ v ∈ f.audio, sampleMin ≤ v ∧ v ≤ sampleMax) :
    [symAt (encodeFrame f) 28, symAt (encodeFrame f) 37, symAt (encodeFrame f) 46, symAt (encodeFrame f) 55] = f.syms ∧
    audioAt (encodeFrame f) 64 f.audio.length = f.audio := by
  obtain ⟨sa, -, -⟩ := encodeFrame_carried f 0 0
  obtain ⟨sb, -, -⟩ := encodeFrame_carried f 9 0
  obtain ⟨sc, -, -⟩ := encodeFrame_carried f 18 0
  obtain ⟨sd, -, -⟩ := encodeFrame_carried f 27 0
  obtain ⟨-, au, -⟩ := encodeFrame_carried f 36 f.audio.length
  rw [Frame.carried_eq hsyms hidle] at sa sb sc sd au
  have data (y : Sym) (h : y ∈ [a, b, c, d]) : y.data < 256 := hbytes y (hsyms ▸ h)
  have ha := data a (by simp)
  have hb := data b (by simp)
  have hc := data c (by simp)
  have hd := data d (by simp)
  simp [symAt_bits, symAt_skip, audioAt_skip, audioAt_audioBits hrange, ha, hb, hc, hd] at sa sb sc sd au
  exact ⟨by rw [sa, sb, sc, sd, hsyms], au⟩

/-- The cell of a house-bound frame is read back. -/
theorem encodeFrame_cell {f : Frame} {e : MeterCell} (hfour : f.syms.length = 4) (hidle : f.idle = false)
    (hslots : f.audio.length = 65) (hcell : f.cell = some e) (hi : e.index < 128) (hl : e.level < 65536) :
    cellAt (encodeFrame f) 1624 = e := by
  obtain ⟨a, b, c, d, hsyms⟩ := List.length_eq_four.1 hfour
  obtain ⟨-, -, ce⟩ := encodeFrame_carried f 1596 0
  have hbits : f.cellBits = e.bits := by simp [Frame.cellBits, hcell]
  rw [Frame.carried_eq hsyms hidle, hbits] at ce
  simpa [cellAt_skip, hslots, cellAt_bits hi hl] using ce

/-- A full frame that fits has the length of its direction. -/
theorem encodeFrame_fullBits {rx : Role} {f : Frame} (hfour : f.syms.length = 4) (hidle : f.idle = false)
    (hslots : f.audio.length = rxSlots rx) (hcell : f.cellBits.length = fullBits rx - 96 - 24 * rxSlots rx) :
    (encodeFrame f).length = fullBits rx := by
  obtain ⟨a, b, c, d, hsyms⟩ := List.length_eq_four.1 hfour
  rw [encodeFrame_eq, Frame.carried_eq hsyms hidle]
  simp only [List.length_append, natBits_length, Sym.bits_length, audioBits_length, hslots, hcell, List.length_cons,
    List.length_nil]
  cases rx <;> rfl

theorem Frame.eq_of {f g : Frame} (seq : f.seq = g.seq) (ack : f.ack = g.ack) (role : f.role = g.role)
    (restart : f.restart = g.restart) (restartAck : f.restartAck = g.restartAck) (idle : f.idle = g.idle)
    (syms : f.syms = g.syms) (audio : f.audio = g.audio) (cell : f.cell = g.cell) : f = g := by
  cases f
  cases g
  simp_all only

theorem decodeFrame_full {rx : Role} {f : Frame} (h : f.fits rx) (hidle : f.idle = false) :
    decodeFrame rx (encodeFrame f) = some f := by
  obtain ⟨hseq, hack, -, hfull⟩ := h
  obtain ⟨hfour, hbytes, hslots, hrange, hcell⟩ := hfull hidle
  obtain ⟨a, b, c, d, hsyms⟩ := List.length_eq_four.1 hfour
  obtain ⟨hrole, hrestart, hrestartAck, hflag⟩ := encodeFrame_flags f
  obtain ⟨hseq', hack'⟩ := encodeFrame_header hseq hack
  obtain ⟨hsyms', haudio'⟩ := encodeFrame_payload hsyms hidle hbytes hrange
  rw [hslots] at haudio'
  have hform : f.cellBits.length = fullBits rx - 96 - 24 * rxSlots rx ∧ (readFrame rx (encodeFrame f)).cell = f.cell := by
    cases rx <;> cases hc : f.cell
    case desk.some e =>
      rw [hc] at hcell
      obtain ⟨hi, hl⟩ := hcell
      refine ⟨by simp [Frame.cellBits, hc, fullBits, rxSlots], ?_⟩
      show (if (encodeFrame f).getD 27 false then none else some (cellAt (encodeFrame f) 1624)) = some e
      rw [hflag, hidle, encodeFrame_cell hfour hidle hslots hc hi hl]
      rfl
    case stage.none =>
      refine ⟨by simp [Frame.cellBits, hc, fullBits, rxSlots], ?_⟩
      exact ite_self _
    case desk.none | stage.some => rw [hc] at hcell; exact hcell.elim
  rw [decodeFrame_encoded (by rw [hflag, hidle, encodeFrame_fullBits hfour hidle hslots hform.1]; rfl)]
  have hsyms'' : (readFrame rx (encodeFrame f)).syms = f.syms := (if_neg (by rw [hflag, hidle]; nofun)).trans hsyms'
  have haudio'' : (readFrame rx (encodeFrame f)).audio = f.audio := (if_neg (by rw [hflag, hidle]; nofun)).trans haudio'
  have hrole' : (readFrame rx (encodeFrame f)).role = f.role := (congrArg roleOfBit hrole).trans (roleOfBit_roleBit _)
  exact congrArg some (Frame.eq_of hseq' hack' hrole' hrestart hrestartAck hflag hsyms'' haudio'' hform.2)

/-- Settles O58: an idle frame by its header, a full one by its header, symbols, audio slots and cell. -/
theorem fibreFramesRoundTrip : Obligations.FibreFramesRoundTrip := by
  intro rx f fits
  cases hidle : f.idle with
  | true => exact decodeFrame_idle fits hidle
  | false => exact decodeFrame_full fits hidle

end Sys2Proof.Machine
end

section
/-!
PROOFS. Messages as bytes: the fields of requests and lane records are read back as they were written (Table 10-2, 9.7);
so are the host requests with their framing and check, and the lane records with their symbols.
-/

namespace Sys2Proof.Machine

open Sys2Proof

/-! ### Field bytes -/

@[simp] theorem beBytes_length (n v : Nat) : (beBytes n v).length = n := by
  induction n with
  | zero => rfl
  | succ n ih => simp [beBytes, ih]

theorem foldl_beBytes (n v acc : Nat) :
    (beBytes n v).foldl (fun acc b => 256 * acc + b) acc = acc * 256 ^ n + v % 256 ^ n := by
  induction n generalizing acc with
  | zero => simp [beBytes, Nat.mod_one]
  | succ n ih =>
    rw [beBytes, List.foldl_cons, ih, Nat.mod_pow_succ, Nat.pow_succ]
    ring

theorem beNat_beBytes {n v : Nat} (h : v < 256 ^ n) : beNat (beBytes n v) = v := by
  rw [beNat, foldl_beBytes, Nat.zero_mul, Nat.zero_add, Nat.mod_eq_of_lt h]

/-! ### Optional fields (R173) -/

/-- Each present field fits its size. -/
def OptsFit : List Nat → List (Option Nat) → Prop :=
  List.Forall₂ fun size o => ∀ v, o = some v → v < 256 ^ size

theorem readOpts_write {sizes : List Nat} {os : List (Option Nat)} (h : OptsFit sizes os) :
    readOpts sizes (presence os) (optBytes sizes os) = some os := by
  unfold OptsFit at h
  induction h with
  | nil => rfl
  | @cons size o sizes os fits rest ih =>
    have half : (o.isSome.toNat + 2 * presence os) / 2 = presence os := by
      have := Bool.toNat_le o.isSome
      omega
    cases o with
    | none =>
      have even : presence (none :: os) % 2 ≠ 1 := by simp [presence]
      rw [readOpts, if_neg even]
      show (readOpts sizes ((_ + _) / 2) (optBytes sizes os)).map _ = _
      rw [half, ih]
      rfl
    | some v =>
      have odd : presence (some v :: os) % 2 = 1 := by simp [presence]
      rw [readOpts, if_pos odd, optBytes]
      show (if _ then none else (readOpts sizes ((_ + _) / 2) _).map _) = _
      rw [if_neg (by simp), half, List.drop_left' (beBytes_length size v), List.take_left' (beBytes_length size v), ih,
        beNat_beBytes (fits v rfl)]
      rfl

theorem optBytes_length_le (sizes : List Nat) (os : List (Option Nat)) : (optBytes sizes os).length ≤ sizes.sum := by
  induction sizes generalizing os with
  | nil => simp [optBytes]
  | cons size sizes ih =>
    match os with
    | [] => simp [optBytes]
    | none :: os => exact (ih os).trans (by simp)
    | some v :: os =>
      have := ih os
      simp only [optBytes, List.length_append, beBytes_length, List.sum_cons]
      omega

theorem optOk_iff {p : Nat → Bool} {o : Option Nat} : optOk p o = true ↔ ∀ v, o = some v → p v = true := by
  cases o <;> simp [optOk]

theorem isByte_iff {n : Nat} : isByte n = true ↔ n < 256 := decide_eq_true_iff

theorem isWord_iff {n : Nat} : isWord n = true ↔ n < 65536 := decide_eq_true_iff

theorem PathSet.opts_fit {f : PathSet} (h : f.wf = true) : OptsFit pathSizes f.opts := by
  simpa [PathSet.wf, optOk_iff, isByte_iff, isWord_iff, OptsFit, pathSizes, PathSet.opts, and_assoc] using h

theorem ChanSet.opts_fit {f : ChanSet} (h : f.wf = true) : OptsFit chanSizes f.opts := by
  simpa [ChanSet.wf, optOk_iff, isByte_iff, OptsFit, chanSizes, ChanSet.opts, and_assoc] using h

theorem MixSet.opts_fit {f : MixSet} (h : f.wf = true) : OptsFit mixSizes f.opts := by
  simpa [MixSet.wf, optOk_iff, isByte_iff, OptsFit, mixSizes, MixSet.opts, and_assoc] using h

theorem TalkCfgSet.opts_fit {f : TalkCfgSet} (h : f.wf = true) : OptsFit talkCfgSizes f.opts := by
  simpa [TalkCfgSet.wf, optOk_iff, isByte_iff, isWord_iff, OptsFit, talkCfgSizes, TalkCfgSet.opts, and_assoc] using h

theorem LockSet.opts_fit {f : LockSet} (h : f.wf = true) : OptsFit lockSizes f.opts := by
  simpa [LockSet.wf, optOk_iff, isByte_iff, OptsFit, lockSizes, LockSet.opts, and_assoc] using h

/-! ### Updates and requests (Table 10-2) -/

/-- An update whose fields fit is read back from its bytes. -/
theorem updateOfKind_fields {u : Update} (h : u.wf = true) : updateOfKind u.kind u.fields = some u := by
  cases u with
  | setChannel ch f =>
    have fit := ChanSet.opts_fit (Bool.and_eq_true_iff.1 h).2
    show ((readOpts chanSizes _ _).bind chanSetOf).map _ = _
    rw [readOpts_write fit]
    rfl
  | setMix m f =>
    have fit := MixSet.opts_fit (Bool.and_eq_true_iff.1 h).2
    show ((readOpts mixSizes _ _).bind mixSetOf).map _ = _
    rw [readOpts_write fit]
    rfl
  | openTalk s p md set =>
    have fit : set < 256 ^ 3 := of_decide_eq_true (Bool.and_eq_true_iff.1 h).2
    show some (Update.openTalk s p md (beNat (beBytes 3 set))) = _
    rw [beNat_beBytes fit]
  | setTalkCfg f =>
    show ((readOpts talkCfgSizes _ _).bind talkCfgSetOf).map _ = _
    rw [readOpts_write (TalkCfgSet.opts_fit h)]
    rfl
  | setLock f =>
    show ((readOpts lockSizes _ _).bind lockSetOf).map _ = _
    rw [readOpts_write (LockSet.opts_fit h)]
    rfl
  | putContrib | dropContrib | clearMix | closeTalk => rfl

theorem updateFields_length_le (u : Update) : u.fields.length ≤ 8 := by
  cases u with
  | setChannel ch f =>
    have := optBytes_length_le chanSizes f.opts
    simp_all [Update.fields, writeOpts, chanSizes]
    omega
  | setMix m f =>
    have := optBytes_length_le mixSizes f.opts
    simp_all [Update.fields, writeOpts, mixSizes]
    omega
  | setTalkCfg f =>
    have := optBytes_length_le talkCfgSizes f.opts
    simp_all [Update.fields, writeOpts, talkCfgSizes]
    omega
  | setLock f =>
    have := optBytes_length_le lockSizes f.opts
    simp_all [Update.fields, writeOpts, lockSizes]
    omega
  | openTalk | putContrib | dropContrib | clearMix | closeTalk => simp [Update.fields]

/-- An update's request code leads to the kind of its lane record. -/
theorem parseRequest_update (u : Update) (bytes : List Nat) : parseRequest u.code bytes = parsedUpdate u.kind bytes := by
  cases u <;> rfl

/-- A request whose fields fit is read back from its bytes. -/
theorem parseRequest_fields {r : Request} (h : r.wf = true) : parseRequest r.code r.fields = .ok r := by
  cases r with
  | setNoticeMask m =>
    have fit : m < 256 ^ 2 := of_decide_eq_true h
    show Parsed.ok (.setNoticeMask (beNat (beBytes 2 m))) = _
    rw [beNat_beBytes fit]
  | setPath p f =>
    have fit := PathSet.opts_fit (Bool.and_eq_true_iff.1 h).2
    show parsedOf (((readOpts pathSizes _ _).bind pathSetOf).map _) = _
    rw [readOpts_write fit]
    rfl
  | update u =>
    show parseRequest u.code u.fields = _
    rw [parseRequest_update, parsedUpdate, updateOfKind_fields h]
    rfl
  | identify | setState | resetSoft | linkReset | getPath | setPlayout | getLink | setClock | getChannel | getMix | getTalk
  | getLock | meterRead => rfl

theorem requestFields_length_le (r : Request) : r.fields.length ≤ 9 := by
  cases r with
  | setPath p f =>
    have := optBytes_length_le pathSizes f.opts
    simp_all [Request.fields, writeOpts, pathSizes]
    omega
  | update u => exact (updateFields_length_le u).trans (by decide)
  | setNoticeMask | identify | setState | resetSoft | linkReset | getPath | setPlayout | getLink | setClock | getChannel
  | getMix | getTalk | getLock | meterRead => simp [Request.fields]

/-! ### Host frames (R161, R162) -/

/-- A request whose fields fit passes the checks of R162 in its frame. -/
theorem checkFrame_requestFrame {r : HostRequest} (h : r.req.wf = true) : checkFrame (requestFrame r) = .request r := by
  have length : (requestFrame r).length = (0x01 :: r.tag :: r.req.code :: r.req.fields).length + 2 := by
    simp [requestFrame, frameBytes]
  have body : (requestFrame r).take ((requestFrame r).length - 2) = 0x01 :: r.tag :: r.req.code :: r.req.fields := by
    rw [length, Nat.add_sub_cancel]
    exact List.take_left' rfl
  have check : (requestFrame r).drop ((requestFrame r).length - 2) =
      beBytes 2 (crc16 (0x01 :: r.tag :: r.req.code :: r.req.fields)) := by
    rw [length, Nat.add_sub_cancel]
    exact List.drop_left' rfl
  have long : ¬ (requestFrame r).length < 5 := by
    rw [length]
    simp
  rw [checkFrame, if_neg long]
  show (if crc16 ((requestFrame r).take _) ≠ beNat ((requestFrame r).drop _) then _ else _) = _
  rw [body, check, beNat_beBytes (crc16_lt _), if_neg (not_not_intro rfl), checkBody, if_neg (not_not_intro rfl),
    parseRequest_fields h]

/-- The escaped bytes of a frame join the frame in progress, in order, as far as it has room for them. -/
theorem takeByte_escapeBytes (bytes : List Nat) {c : Cmp} (inFrame : c.inFrame = true) (plain : c.escape = false)
    (room : c.bytes.length + bytes.length ≤ 258) :
    (escapeBytes bytes).foldl (fun c b => c.takeByte b) c = { c with bytes := c.bytes ++ bytes } := by
  induction bytes generalizing c with
  | nil => simp [escapeBytes]
  | cons b bs ih =>
    have fits : c.bytes.length < 258 := by
      simp only [List.length_cons] at room
      omega
    have rest : (escapeBytes bs).foldl (fun c b => c.takeByte b) { c with bytes := c.bytes ++ [b] } =
        { c with bytes := c.bytes ++ (b :: bs) } := by
      refine (ih (c := { c with bytes := c.bytes ++ [b] }) inFrame plain ?_).trans ?_
      · simp only [List.length_append, List.length_cons, List.length_nil] at room ⊢
        omega
      · simp
    have added : ({ c with bytes := c.bytes ++ [b], escape := false } : Cmp) = { c with bytes := c.bytes ++ [b] } := by
      rw [← plain]
    by_cases special : b = 0xA5 ∨ b = 0xA6
    · have escape : c.takeByte 0xA6 = { c with escape := true } := by
        simp [Cmp.takeByte, inFrame, plain]
      have unescape : ({ c with escape := true } : Cmp).takeByte (b ^^^ 0x40) = { c with bytes := c.bytes ++ [b] } := by
        rw [← added]
        rcases special with rfl | rfl <;> simp [Cmp.takeByte, Cmp.addByte, inFrame, fits]
      rw [escapeBytes, if_pos special, List.foldl_cons, List.foldl_cons, escape, unescape, rest]
    · obtain ⟨noBoundary, noEscape⟩ := not_or.1 special
      have taken : c.takeByte b = { c with bytes := c.bytes ++ [b] } := by
        rw [← added]
        simp [Cmp.takeByte, Cmp.addByte, inFrame, plain, fits, noBoundary, noEscape]
      rw [escapeBytes, if_neg special, List.foldl_cons, taken, rest]

/-- A frame between boundaries is closed by a hunting receiver. -/
theorem takeByte_lineBytes {bytes : List Nat} {c : Cmp} (hunting : c.inFrame = false) (some_ : bytes ≠ [])
    (room : bytes.length ≤ 258) :
    ((lineBytes bytes).foldl (fun c b => c.takeByte b) c).rxDue = some (.closed bytes) := by
  have opened : c.takeByte 0xA5 = { c with inFrame := true, bytes := [], escape := false } := by
    simp [Cmp.takeByte, hunting]
  rw [lineBytes, List.foldl_cons, opened, List.foldl_append, takeByte_escapeBytes bytes rfl rfl (by simpa using room)]
  simp [Cmp.takeByte, some_]

/-- Settles O59: the escaped bytes join the frame, the check passes, and each request is read back from its fields. -/
theorem hostRequestsRoundTrip : Obligations.HostRequestsRoundTrip := by
  intro r c _ fits hunting
  have length : (requestFrame r).length ≤ 258 := by
    have := requestFields_length_le r.req
    simp only [requestFrame, frameBytes, List.length_append, List.length_cons, beBytes_length]
    omega
  exact ⟨takeByte_lineBytes hunting (by simp [requestFrame, frameBytes]) length, checkFrame_requestFrame fits⟩

/-! ### Lane records (R64, R72, Table 9-9) -/

theorem LaneMsg.body_length_le (msg : LaneMsg) : msg.body.length ≤ 40 := by
  cases msg with
  | update u => exact (updateFields_length_le u).trans (by decide)
  | echoContrib m r e => cases live : e.live <;> simp [LaneMsg.body, live]
  | echoTalk src e => cases session : e.session <;> simp [LaneMsg.body, session]
  | echoChannel | echoMix | echoTalkCfg | echoLock | refused | dumpBegin | dumpEnd => simp [LaneMsg.body]

theorem LaneMsg.kind_ne_zero (msg : LaneMsg) : msg.kind ≠ 0 := by
  cases msg with
  | update u => cases u <;> nofun
  | echoContrib | echoTalk | echoChannel | echoMix | echoTalkCfg | echoLock | refused | dumpBegin | dumpEnd => nofun

/-- The body bytes of a record, up to its last, complete it. -/
theorem takeInAll_body {bytes : List Nat} {l : Ple} {kind seq n : Nat} {before : List Nat}
    (inBody : l.asm = .body kind seq n before) (last : before.length + bytes.length = n) (some_ : bytes ≠ []) :
    l.takeInAll (bytes.map fun b => ⟨false, b⟩) =
      { l with asm := .idle, done := l.done ++ [⟨kind, seq, before ++ bytes⟩] } := by
  induction bytes generalizing l before with
  | nil => exact absurd rfl some_
  | cons b bs ih =>
    have taken : l.takeIn ⟨false, b⟩ = if (before ++ [b]).length < n then { l with asm := .body kind seq n (before ++ [b]) }
        else { l with asm := .idle, done := l.done ++ [⟨kind, seq, before ++ [b]⟩] } := by
      simp [Ple.takeIn, inBody]
    simp only [List.length_cons] at last
    rw [List.map_cons, Ple.takeInAll, List.foldl_cons, taken]
    by_cases more : bs = []
    · subst more
      have full : ¬ (before ++ [b]).length < n := by
        rw [List.length_append]
        exact Nat.not_lt.2 last.ge
      rw [if_neg full]
      rfl
    · have pos := List.length_pos_iff.2 more
      rw [if_pos (by simp; omega)]
      refine (ih (l := { l with asm := .body kind seq n (before ++ [b]) }) rfl (by simp; omega) more).trans ?_
      simp

/-- The symbols of a record, taken by an idle assembler, deliver it. -/
theorem takeInAll_recordSyms (msg : LaneMsg) (seq : Nat) {l : Ple} (idle : l.asm = .idle) :
    l.takeInAll (recordSyms msg seq) = { l with done := l.done ++ [⟨msg.kind, seq, msg.body⟩] } := by
  have header : l.takeIn ⟨true, msg.kind⟩ = { l with asm := .header msg.kind } := by
    simp [Ple.takeIn, Ple.breakRecord, idle, msg.kind_ne_zero]
  have sequence : ({ l with asm := .header msg.kind } : Ple).takeIn ⟨false, seq⟩ = { l with asm := .sequence msg.kind seq } := by
    simp [Ple.takeIn]
  have short : ¬ 40 < msg.body.length := Nat.not_lt.2 msg.body_length_le
  have start : l.takeInAll (recordSyms msg seq) =
      (({ l with asm := .sequence msg.kind seq } : Ple).takeIn ⟨false, msg.body.length⟩).takeInAll
        (msg.body.map fun b => ⟨false, b⟩) := by
    rw [← sequence, ← header]
    rfl
  rw [start]
  by_cases none_ : msg.body = []
  · simp [Ple.takeIn, Ple.takeInAll, none_, idle]
  · have length : ({ l with asm := .sequence msg.kind seq } : Ple).takeIn ⟨false, msg.body.length⟩ =
        { l with asm := .body msg.kind seq msg.body.length [] } := by
      simp [Ple.takeIn, short, none_]
    rw [length, takeInAll_body rfl (by simp) none_]
    simp [idle]

theorem bitOf_flagNum (b : Bool) : bitOf (flagNum b) = some b := by cases b <;> rfl

theorem phantomOf_phantomNum (p : Phantom) : phantomOf (phantomNum p) = some p := by cases p <;> rfl

theorem phaseOf_phaseNum (p : Phase) : phaseOf (phaseNum p) = some p := by cases p <;> rfl

theorem bankOf_bankNum (b : Bank) : bankOf (bankNum b) = some b := by cases b <;> rfl

theorem sourceOf_sourceNum (s : Source) : sourceOf (sourceNum s) = some s := by cases s <;> rfl

theorem reasonOf_reasonNum (r : CloseReason) : reasonOf (reasonNum r) = some r := by cases r <;> rfl

theorem refuseOf_refuseNum (r : RefuseReason) : refuseOf (refuseNum r) = some r := by cases r <;> rfl

/-- A version, and any other two-byte value, is read back from its two bytes. -/
theorem beNat_pair {v : Nat} (h : v < 65536) : ∃ a b, beBytes 2 v = [a, b] ∧ beNat [a, b] = v :=
  ⟨_, _, rfl, beNat_beBytes (n := 2) h⟩

/-- A set of destinations is read back from its three bytes. -/
theorem beNat_triple {v : Nat} (h : v < 2 ^ 24) : ∃ a b c, beBytes 3 v = [a, b, c] ∧ beNat [a, b, c] = v :=
  ⟨_, _, _, rfl, beNat_beBytes (n := 3) h⟩

/-- A house-bound record whose values fit its layout is read back from its body. -/
theorem echoOfKind_body {msg : LaneMsg} (fits : msg.fitsHouse) : echoOfKind msg.kind msg.body = some msg := by
  cases msg with
  | update u => exact fits.elim
  | echoChannel ch e =>
    obtain ⟨-, version, -⟩ := fits
    obtain ⟨a, b, bytes, value⟩ := beNat_pair version
    simp [LaneMsg.kind, LaneMsg.body, bytes, echoOfKind, value, bitOf_flagNum, phantomOf_phantomNum]
  | echoMix m e =>
    obtain ⟨-, version, -⟩ := fits
    obtain ⟨a, b, bytes, value⟩ := beNat_pair version
    simp [LaneMsg.kind, LaneMsg.body, bytes, echoOfKind, value, phaseOf_phaseNum]
  | echoContrib m r e =>
    obtain ⟨-, -, version, -⟩ := fits
    obtain ⟨a, b, bytes, value⟩ := beNat_pair version
    obtain ⟨version, live⟩ := e
    cases live <;> simp_all [LaneMsg.kind, LaneMsg.body, echoOfKind, bankOf_bankNum]
  | echoTalk src e =>
    obtain ⟨version, reason, session⟩ := fits
    obtain ⟨a, b, bytes, value⟩ := beNat_pair version
    obtain ⟨version, held, why⟩ := e
    cases held with
    | none => simp_all [LaneMsg.kind, LaneMsg.body, echoOfKind, sourceOf_sourceNum, reasonOf_reasonNum]
    | some z =>
      obtain ⟨-, requested, granted⟩ := session z rfl
      obtain ⟨r2, r1, r0, requestedBytes, requestedValue⟩ := beNat_triple requested
      obtain ⟨g2, g1, g0, grantedBytes, grantedValue⟩ := beNat_triple granted
      simp_all [LaneMsg.kind, LaneMsg.body, echoOfKind, sourceOf_sourceNum, bitOf_flagNum]
  | echoTalkCfg c =>
    obtain ⟨version, -, -, limit⟩ := fits
    obtain ⟨a, b, bytes, value⟩ := beNat_pair version
    obtain ⟨l1, l0, limitBytes, limitValue⟩ := beNat_pair limit
    simp [LaneMsg.kind, LaneMsg.body, bytes, limitBytes, echoOfKind, value, limitValue]
  | echoLock l =>
    obtain ⟨a, b, bytes, value⟩ := beNat_pair fits
    simp [LaneMsg.kind, LaneMsg.body, bytes, echoOfKind, value, bitOf_flagNum]
  | refused id reason n =>
    obtain ⟨low, high, -⟩ := fits
    simp [LaneMsg.kind, LaneMsg.body, echoOfKind, refuseOf_refuseNum, low, high]
  | dumpBegin | dumpEnd => rfl

/-- Settles O60: the symbols deliver the record, and the body of each kind is read back. -/
theorem laneRecordsRoundTrip : Obligations.LaneRecordsRoundTrip := by
  refine ⟨fun msg seq l idle => takeInAll_recordSyms msg seq idle, fun msg fits => echoOfKind_body fits, fun u fits named => ?_⟩
  show updateRecord u.kind u.fields = _
  rw [updateRecord, updateOfKind_fields fits]
  exact if_pos named

end Sys2Proof.Machine
end

section
/-!
PROOFS. What the arbiter makes of a link lost and of a link returned (R148): the FOH session closed, FOH CUE taken from another source
or given to the best session that waits, and all of it told in one walk of the sources.
-/

namespace Sys2Proof.Machine

/-! ### The FOH session closes -/

/-- The TALK_STATE of the FOH session's close with the link. -/
def Part.fohClosed (x : Part) : List Notice :=
  match x.session .foh with
  | some z => [.talkState ⟨.foh, .closed, none, some .link, 0, z.granted, (x.tka.foh.version + 1) % 65536, .link⟩]
  | none => []

/-- The FOH session, if open. -/
def Part.fohSources (x : Part) : List Source :=
  if (x.session .foh).isSome then [.foh] else []

/-- What the close of the FOH session with the link makes of `x`, open or not. -/
structure Part.FohGone (x y : Part) : Prop where
  rest : ({ y with cmp := x.cmp, ple := x.ple } : Part).sansTalk = x.sansTalk
  closed : ∀ z, x.session .foh = some z → y.tka.foh = ⟨none, (x.tka.foh.version + 1) % 65536, .link⟩
  stands : x.session .foh = none → y.tka.foh = x.tka.foh
  others : ∀ t, t ≠ .foh → y.tka.source t = x.tka.source t
  dest : ∀ d, d < 17 → y.dest d = if x.holds .foh d then ⟨.fading, some .foh, false⟩ else x.dest d
  targets : ∀ d, d < 17 → y.dest d ≠ x.dest d → y.TargetsFollow d
  lengths : y.tka.dests.length = 17 ∧ y.mxe.mixes.length = 16
  told : y.cmp = x.cmp.notifyAll x.fohClosed
  lane : y.ple = y.laneAfter x (x.fohSources.map fun s => .talk (sourceNum s))

theorem Part.shut_lengths (x : Part) (s : Source) (reason : CloseReason) (z : Session) :
    (x.shut s reason z).tka.dests.length = x.tka.dests.length ∧ (x.shut s reason z).mxe.mixes.length = x.mxe.mixes.length := by
  have source (y : Part) (f : SourceRec → SourceRec) : (y.onSource s f).tka.dests = y.tka.dests ∧ (y.onSource s f).mxe = y.mxe := by
    cases s <;> exact ⟨rfl, rfl⟩
  obtain ⟨dests, mxe⟩ := source (x.moves (closeMoves z) destNums) fun r => { r with session := none, reason := reason }
  obtain ⟨h1, h2⟩ := x.moves_lengths (closeMoves z) destNums
  exact ⟨(congrArg List.length dests).trans h1, (congrArg (fun m : Mxe => m.mixes.length) mxe).trans h2⟩

theorem Part.closeFoh_gone (x : Part) (agree : x.TalkAgree) : x.FohGone (x.closeSession .foh .link .link) := by
  have ⟨dests, mixes, _, opened_, granted⟩ := agree
  cases opened : x.session .foh with
  | none =>
    have nobody (d : Nat) : ¬ x.holds .foh d := fun h => by
      obtain ⟨z, open_⟩ := opened_ d .foh h
      rw [opened] at open_
      cases open_
    rw [x.closeSession_none .foh .link .link opened]
    refine ⟨rfl, fun z h => ?_, fun _ => rfl, fun _ _ => rfl, fun d _ => (if_neg (nobody d)).symm, fun d _ h => absurd rfl h,
      ⟨dests, mixes⟩, ?_, ?_⟩
    · rw [opened] at h; cases h
    · unfold Part.fohClosed; rw [opened]; rfl
    · unfold Part.fohSources; rw [opened]; rfl
  | some z =>
    have event := x.closeSession_event .foh .link .link z opened
    obtain ⟨others, -, dest, -, targets⟩ := x.closeSession_alone .foh .link .link z agree opened
    obtain ⟨told, lane⟩ := x.closeSession_told .foh .link .link z agree opened
    obtain ⟨l1, l2⟩ := x.shut_lengths .foh .link z
    refine ⟨event.rest, fun _ _ => x.closeSession_source .foh .link .link z opened, fun h => ?_, others, fun d lt => ?_, targets,
      ⟨?_, ?_⟩, ?_, ?_⟩
    · rw [opened] at h; cases h
    · rw [dest d lt]
      by_cases holds : x.holds .foh d
      · rw [if_pos holds, if_pos ((granted .foh z opened d).mpr holds)]
      · rw [if_neg holds, if_neg fun bit => holds ((granted .foh z opened d).mp bit)]
    · rw [event.dests, l1, dests]
    · rw [event.mixes, l2, mixes]
    · rw [told]
      unfold Part.fohClosed
      rw [opened]
      rfl
    · unfold Part.fohSources
      rw [opened]
      exact lane

/-! ### FOH CUE is lost with the link -/

/-- Two events in a row: the echoes of the second join those of the first, whose sources stand. -/
theorem Part.laneAfter_twice (x y v : Part) (first second : List Source) (one : y.ple = y.laneAfter x (first.map fun s => .talk (sourceNum s)))
    (two : v.ple = v.laneAfter y (second.map fun s => .talk (sourceNum s)))
    (stands : ∀ s ∈ first, v.tka.source s = y.tka.source s) :
    v.ple = v.laneAfter x ((first ++ second).map fun s => .talk (sourceNum s)) := by
  rw [List.map_append, Part.laneAfter_append, two]
  refine Part.laneAfter_congr _ _ _ _ _ ?_ fun _ _ => rfl
  refine one.trans (Part.laneAfter_congr _ _ _ _ _ rfl fun t member => ?_)
  obtain ⟨s, among, rfl⟩ := List.mem_map.mp member
  exact Part.reports_talk _ _ s (stands s among).symm

/-- The TALK_STATE of a source that loses FOH CUE. -/
def cueLost (src : Source) (z : Session) (v : Nat) : Notice :=
  .talkState ⟨src, .preempted, some ⟨z.priority, z.latched, z.requested, z.granted ^^^ 65536⟩, none, 0, 65536, v, .arbiter⟩

/-- What a link lost makes of talk. -/
structure Part.TalkSevered (x v : Part) : Prop where
  rest : ({ v with cmp := x.cmp, ple := x.ple } : Part).sansTalk = x.sansTalk
  closed : ∀ z, x.session .foh = some z → v.tka.foh = ⟨none, (x.tka.foh.version + 1) % 65536, .link⟩
  stands : x.session .foh = none → v.tka.foh = x.tka.foh
  dest : ∀ d, d < 17 → v.dest d =
    if (x.dest d).state = .held ∧ ((x.dest d).holder = some .foh ∨ d = 16) then ⟨.fading, (x.dest d).holder, false⟩ else x.dest d
  taken : ∀ src z, src ≠ .foh → x.holds src 16 → x.session src = some z →
    (v.session src).map Session.echo = some ⟨z.priority, z.latched, z.requested, z.granted ^^^ 65536⟩ ∧
    (v.tka.source src).version = ((x.tka.source src).version + 1) % 65536 ∧
    (∀ other, other ≠ .foh → other ≠ src → v.tka.source other = x.tka.source other) ∧
    v.cmp = x.cmp.notifyAll (x.fohClosed ++ [cueLost src z (((x.tka.source src).version + 1) % 65536)])
  lane : v.ple = v.laneAfter x (v.talkEchoes x [.foh, .mon, .stg])
  targets : ∀ d, d < 17 → v.dest d ≠ x.dest d → v.TargetsFollow d
  kept : ¬ x.holds .mon 16 → ¬ x.holds .stg 16 → v.tka.mon = x.tka.mon ∧ v.tka.stg = x.tka.stg ∧ v.cmp = x.cmp.notifyAll x.fohClosed

/-- The sources told of, from what becomes of each. -/
theorem Part.talkChanged_lost (x v : Part) (who : Source → Bool)
    (h : ∀ s, ((v.session s).map Session.echo ≠ (x.session s).map Session.echo) ↔ who s = true) :
    v.talkChanged x [.foh, .mon, .stg] = [Source.foh, .mon, .stg].filter who := by
  unfold Part.talkChanged
  refine List.filter_congr fun s _ => ?_
  rw [Bool.eq_iff_iff, ← h s]
  exact bne_iff_ne

theorem setDel_xor (n d : Nat) (bit : n.testBit d = true) : setDel n d = n ^^^ (1 <<< d) := by
  refine Nat.eq_of_testBit_eq fun k => ?_
  rw [testBit_setDel, Nat.testBit_xor, Nat.one_shiftLeft, Nat.testBit_two_pow]
  by_cases e : d = k
  · subst e; simp [bit]
  · cases n.testBit k <;> simp [e]

/-- The link lost: the FOH session closes, then FOH CUE leaves whoever else holds it. -/
theorem Part.talkLink_severed (x : Part) (old : LinkState) (agree : x.TalkAgree) (severed : x.fmu.link = .severed)
    (wants : ∀ s z, x.holds s 16 → x.session s = some z → z.requested.testBit 16 = true) : x.TalkSevered (x.talkLink old) := by
  have gone := x.closeFoh_gone agree
  have ⟨dests, mixes, free, opened_, granted⟩ := agree
  have stepped : x.talkLink old = (if ((x.closeSession .foh .link .link).dest 16).state = .held then
      (x.closeSession .foh .link .link).lose 16 else x.closeSession .foh .link .link).publishAll
        (x.closeSession .foh .link .link).tka .arbiter none := if_pos severed
  rw [stepped]
  generalize x.closeSession .foh .link .link = y at gone ⊢
  have cue := gone.dest 16 (by decide)
  have foh_echo : ((y.session .foh).map Session.echo ≠ (x.session .foh).map Session.echo) ↔ (x.session .foh).isSome = true := by
    cases opened : x.session .foh with
    | none => rw [show y.session .foh = x.session .foh from congrArg SourceRec.session (gone.stands opened), opened]; simp
    | some z => rw [show y.session .foh = none from congrArg SourceRec.session (gone.closed z opened)]; simp
  by_cases held : (y.dest 16).state = .held
  · rw [if_pos held]
    have notFoh : ¬ x.holds .foh 16 := fun h => by
      rw [cue, if_pos h] at held
      cases held
    rw [if_neg notFoh] at cue
    obtain ⟨src, holder⟩ : ∃ src, (x.dest 16).holder = some src := by
      cases h : (x.dest 16).holder with
      | some s => exact ⟨s, rfl⟩
      | none =>
        have := (free 16).mpr h
        rw [cue, this] at held
        cases held
    have holds : x.holds src 16 := ⟨cue ▸ held, holder⟩
    have ne : src ≠ .foh := fun e => notFoh (e ▸ holds)
    obtain ⟨z, opened⟩ := opened_ 16 src holds
    have bit : z.granted.testBit 16 = true := (granted src z opened 16).mpr holds
    have opened' : y.session src = some z := (congrArg SourceRec.session (gone.others src ne)).trans opened
    have event := Part.published y (y.lose 16) .arbiter none (y.move_sansTalk 16 .fade)
    change Part.TalkEvent y (y.lose 16) _ .arbiter [.foh, .mon, .stg] at event
    have cfg : (y.lose 16).tka.cfg = y.tka.cfg := (congrArg (fun p => p.tka.cfg) (y.move_sansTalk 16 .fade) :)
    generalize (y.lose 16).publishAll y.tka .arbiter none = v at event ⊢
    obtain ⟨dest, session, others, rest⟩ := event.lost (fun _ => rfl) ((congrArg Dest.holder cue).trans holder) opened'
      (by rw [gone.lengths.1]; decide)
    obtain ⟨version, changed⟩ := rest bit
    have changed := changed (by decide) (by cases src <;> decide)
    have taken_echo : (v.session src).map Session.echo = some ⟨z.priority, z.latched, z.requested, z.granted ^^^ 65536⟩ := by
      rw [session]
      show some (⟨z.priority, z.latched, z.requested, setDel z.granted 16⟩ : SessionEcho) = _
      rw [setDel_xor _ _ bit]
      rfl
    have stands (d : Nat) (lt : d < 17) (ne : d ≠ 16) : v.dest d = y.dest d := by
      rw [event.dest]
      exact (y.move_dest 16 .fade d).trans (if_neg fun h => ne h.1)
    have lane : v.ple = v.laneAfter x ((x.fohSources ++ [src]).map fun s => .talk (sourceNum s)) := by
      refine Part.laneAfter_twice x y v _ _ gone.lane ?_ fun s member => ?_
      · refine event.lane.trans ?_
        unfold Part.talkEchoes
        rw [changed]
      · unfold Part.fohSources at member
        split at member
        · rw [List.mem_singleton.mp member]
          exact others .foh (Ne.symm ne)
        · cases member
    have told : v.talkChanged x [.foh, .mon, .stg] = x.fohSources ++ [src] := by
      rw [Part.talkChanged_lost x v fun s => (s == .foh && (x.session .foh).isSome) || s == src]
      · unfold Part.fohSources
        cases src with
        | foh => exact absurd rfl ne
        | mon | stg => cases (x.session .foh).isSome <;> rfl
      · intro s
        by_cases mine : s = src
        · subst mine
          have among : s ∈ v.talkChanged y [.foh, .mon, .stg] := by rw [changed]; simp
          have differs := bne_iff_ne.mp (List.mem_filter.mp among).2
          rw [opened', ← opened] at differs
          simpa using differs
        · have same : v.session s = y.session s := congrArg SourceRec.session (others s mine)
          rw [same]
          by_cases foh : s = .foh
          · subst foh
            simpa [mine] using foh_echo
          · rw [show y.session s = x.session s from congrArg SourceRec.session (gone.others s foh)]
            simp [mine, foh]
    refine ⟨?_, fun z h => ?_, fun h => ?_, fun d lt => ?_, fun s o apart holds' open_ => ?_, ?_, fun d lt differs => ?_, fun mon stg => ?_⟩
    · exact (congrArg (fun p : Part => { p with cmp := x.cmp, ple := x.ple }) event.rest).trans gone.rest
    · exact (others .foh (Ne.symm ne)).trans (gone.closed z h)
    · exact (others .foh (Ne.symm ne)).trans (gone.stands h)
    · by_cases at_ : d = 16
      · subst at_
        rw [dest, if_pos ⟨holds.1, .inr rfl⟩, holder]
      · rw [stands d lt at_, gone.dest d lt]
        by_cases foh : x.holds .foh d
        · rw [if_pos foh, if_pos ⟨foh.1, .inl foh.2⟩, foh.2]
        · rw [if_neg foh, if_neg fun h => foh ⟨h.1, h.2.resolve_right at_⟩]
    · have who : s = src := Option.some.inj (holds'.2.symm.trans holder)
      subst who
      have which : o = z := Option.some.inj (open_.symm.trans opened)
      subst which
      have record : (y.tka.source s).version = (x.tka.source s).version := congrArg SourceRec.version (gone.others s ne)
      rw [record] at version
      refine ⟨taken_echo, version, fun other foh apart => (others other apart).trans (gone.others other foh), ?_⟩
      rw [event.told, Part.talkTold, changed, List.foldl_cons, List.foldl_nil, gone.told, Cmp.notifyAll_append]
      have echo : (v.tka.source s).echo = ⟨((x.tka.source s).version + 1) % 65536, some (o.holding (setDel o.granted 16)).echo, .none⟩ := by
        have open' : (v.tka.source s).session = some (o.holding (setDel o.granted 16)) := session
        unfold SourceRec.echo
        rw [version, open']
        rfl
      rw [echo, opened']
      have lost := talkNotice_lost s o 16 (((x.tka.source s).version + 1) % 65536) .none .arbiter bit (wants s o holds opened)
      show Cmp.notify (.talkState (talkNotice s (some o.echo) _ .arbiter)) _ = Cmp.notify _ _
      have left : setDel o.granted 16 = o.granted ^^^ 65536 := setDel_xor _ _ bit
      rw [lost, cueLost, ← left]
      rfl
    · rw [Part.talkEchoes, told]
      exact lane
    · rw [event.targets cfg d]
      by_cases at_ : d = 16
      · subst at_
        exact y.move_targetsFollow 16 .fade nofun lt gone.lengths.1 gone.lengths.2
      · rw [stands d lt at_] at differs
        exact (y.move_targetsFollow_other 16 d .fade at_).mpr (gone.targets d lt differs)
    · cases src with
      | foh => exact absurd rfl ne
      | mon => exact absurd holds mon
      | stg => exact absurd holds stg
  · rw [if_neg held]
    have event := Part.published y y .arbiter none rfl
    change Part.TalkEvent y y _ .arbiter [.foh, .mon, .stg] at event
    rw [event.still]
    have notHeld (s : Source) (ne : s ≠ .foh) : ¬ x.holds s 16 := fun h => by
      have notFoh : ¬ x.holds .foh 16 := fun foh => ne (Option.some.inj (h.2.symm.trans foh.2))
      rw [cue, if_neg notFoh] at held
      exact held h.1
    have told : y.talkChanged x [.foh, .mon, .stg] = x.fohSources := by
      rw [Part.talkChanged_lost x y fun s => s == .foh && (x.session .foh).isSome]
      · unfold Part.fohSources
        cases (x.session .foh).isSome <;> rfl
      · intro s
        by_cases foh : s = .foh
        · subst foh
          simpa using foh_echo
        · rw [show y.session s = x.session s from congrArg SourceRec.session (gone.others s foh)]
          simp [foh]
    refine ⟨gone.rest, gone.closed, gone.stands, fun d lt => ?_, fun s z ne holds => absurd holds (notHeld s ne), ?_, gone.targets,
      fun _ _ => ⟨gone.others .mon nofun, gone.others .stg nofun, gone.told⟩⟩
    · rw [gone.dest d lt]
      by_cases foh : x.holds .foh d
      · rw [if_pos foh, if_pos ⟨foh.1, .inl foh.2⟩, foh.2]
      · rw [if_neg foh, if_neg]
        rintro ⟨held', who | rfl⟩
        · exact foh ⟨held', who⟩
        · rw [cue, if_neg foh] at held
          exact held held'
    · rw [Part.talkEchoes, told]
      exact gone.lane

/-! ### FOH CUE is given with the link -/

/-- The TALK_STATE of a source that gains FOH CUE. -/
def cueGained (src : Source) (z : Session) (v : Nat) : Notice :=
  .talkState ⟨src, .granted, some ⟨z.priority, z.latched, z.requested, z.granted ||| 65536⟩, none, 65536, 0, v, .arbiter⟩

/-- What a link returned makes of talk. -/
structure Part.TalkReturned (x v : Part) : Prop where
  rest : ({ v with cmp := x.cmp, ple := x.ple } : Part).sansTalk = x.sansTalk
  dest : ∀ d, d ≠ 16 → v.dest d = x.dest d
  lane : v.ple = v.laneAfter x (v.talkEchoes x [.foh, .mon, .stg])
  stands : (x.dest 16).state ≠ .free ∨ (∀ s z, ¬ x.candidate 16 s z) → v = x
  given : ∀ s z, (x.dest 16).state = .free → x.candidate 16 s z →
    (∀ t o, t ≠ s → x.candidate 16 t o → o.priority < z.priority ∨ (o.priority = z.priority ∧ newer16 o.order z.order = true)) →
    v.dest 16 = ⟨.held, some s, false⟩ ∧ v.tka.cue.target = faderK x.tka.cfg.cueLevel ∧
    (v.session s).map Session.echo = some ⟨z.priority, z.latched, z.requested, z.granted ||| 65536⟩ ∧
    (∀ t, t ≠ s → v.tka.source t = x.tka.source t) ∧
    v.cmp = x.cmp.notify (cueGained s z (((x.tka.source s).version + 1) % 65536))

theorem Part.arbitrateFree_move (x : Part) (d : Nat) : ∃ m : TalkMove, x.arbitrateFree d = x.move d m := by
  unfold Part.arbitrateFree
  cases x.bestWaiter d with
  | none => exact ⟨.stay, rfl⟩
  | some b => exact ⟨.gain b.1, rfl⟩

/-- The link returned: a FREE FOH CUE goes to the best session that waits for it. -/
theorem Part.talkLink_returned (x : Part) (old : LinkState) (lengths : x.tka.dests.length = 17 ∧ x.mxe.mixes.length = 16)
    (up : x.fmu.link.up = true) (down : old.up = false) : x.TalkReturned (x.talkLink old) := by
  have alive : x.fmu.link ≠ .severed := fun e => by rw [e] at up; cases up
  have stepped : x.talkLink old = if (x.dest 16).state = .free then (x.arbitrateFree 16).publishAll x.tka .arbiter none else x :=
    (if_neg alive).trans (if_pos (by rw [up, down]; rfl))
  by_cases free : (x.dest 16).state = .free
  · rw [stepped, if_pos free]
    obtain ⟨m, moved⟩ := x.arbitrateFree_move 16
    have event := Part.published x (x.arbitrateFree 16) .arbiter none (by rw [moved]; exact x.move_sansTalk 16 m)
    change Part.TalkEvent x (x.arbitrateFree 16) _ .arbiter [.foh, .mon, .stg] at event
    generalize (x.arbitrateFree 16).publishAll x.tka .arbiter none = v at event ⊢
    refine ⟨event.rest, fun d ne => ?_, event.lane, fun idle => ?_, fun s z _ fits first => ?_⟩
    · rw [event.dest, moved, Part.move_dest, if_neg fun h => ne h.1]
    · have nobody := idle.resolve_left (not_not_intro free)
      have same : x.arbitrateFree 16 = x := by
        unfold Part.arbitrateFree
        rw [x.bestWaiter_none 16 nobody]
      rw [same] at event
      exact event.still
    · have grants : x.arbitrateFree 16 = x.grant s 16 := by
        unfold Part.arbitrateFree
        rw [x.bestWaiter_best 16 s z fits first]
      rw [grants] at event
      obtain ⟨opened, waits, -⟩ := fits
      have out : z.granted.testBit 16 = false := by
        unfold Session.waits at waits
        simpa using (Bool.and_eq_true_iff.mp waits).2
      obtain ⟨dest, session, version, others, changed⟩ := event.granted (fun _ => rfl) opened out (by rw [lengths.1]; decide)
        (by decide) (by cases s <;> decide)
      have cfg : (x.grant s 16).tka.cfg = x.tka.cfg := (congrArg (fun p => p.tka.cfg) (x.move_sansTalk 16 (.gain s)) :)
      have follows : v.TargetsFollow 16 :=
        (event.targets cfg 16).mpr (x.move_targetsFollow 16 (.gain s) nofun (by decide) lengths.1 lengths.2)
      have target := follows.2 rfl
      rw [dest, event.cfg] at target
      refine ⟨dest, target, by rw [session]; rfl, others, ?_⟩
      rw [event.told, Part.talkTold, changed, List.foldl_cons, List.foldl_nil, opened]
      have echo : (v.tka.source s).echo =
          ⟨((x.tka.source s).version + 1) % 65536, some (z.holding (setAdd z.granted 16)).echo, .none⟩ := by
        have open' : (v.tka.source s).session = some (z.holding (setAdd z.granted 16)) := session
        unfold SourceRec.echo
        rw [version, open']
        rfl
      rw [echo]
      exact congrArg (fun n => x.cmp.notify (.talkState n))
        (talkNotice_gained s z 16 (((x.tka.source s).version + 1) % 65536) .none .arbiter out)
  · rw [stepped, if_neg free]
    have event := Part.TalkEvent.refl x .arbiter [.foh, .mon, .stg]
    exact ⟨rfl, fun _ _ => rfl, event.lane, fun _ => rfl, fun _ _ h => absurd h free⟩

end Sys2Proof.Machine
end

section
/-!
PROOFS. A report of the paths as the notices and the readers of the link take it (R55 to R58, R62, R148): the values it leaves, the loss
of the last usable path by silence, and the return of the link by a path that completes ALIGN at once.
-/

namespace Sys2Proof.Machine

/-! ### A report with no path at ALIGN to complete -/

theorem linkOf_cases (old : LinkState) (a b : Bool) :
    linkOf old a b = if a = true ∧ b = true then .protect else if a = true ∨ b = true then .exposed
      else if old = .protect ∨ old = .exposed then .severed else old := by
  cases old <;> cases a <;> cases b <;> decide

/-- A pending anchoring lasts while its path is usable. -/
theorem Part.anchorAfter_none (x : Part) :
    x.anchorAfter none = if ∃ p, x.fmu.anchor = some p ∧ (x.path p).usable = true then x.fmu.anchor else none := by
  unfold Part.anchorAfter
  cases held : x.fmu.anchor with
  | none => simp
  | some p => by_cases used : (x.path p).usable = true <;> simp [used]

/-- At DESK the notices of a report are those of the paths and of the link. -/
theorem Part.report_cmp_desk (old x : Part) (idle : x.anyUsable = true ∨ (x.pa.atAlign = false ∧ x.pb.atAlign = false))
    (desk : x.dsc.role = .desk) : (x.report old).cmp = x.cmp.notifyAll (Part.reportNotices old x none) := by
  rw [Part.report_eq, x.anchoring_idle idle]
  have role : (Part.reported old x none).dsc.role = .desk := desk
  have meter (y : Part) : y.meterLink.cmp = y.cmp := by
    unfold Part.meterLink
    split <;> rfl
  dsimp only
  rw [Part.clockFollow_desk _ role, Part.linkChanged_desk _ _ role]
  obtain ⟨l, lane⟩ := (Part.reported old x none).laneLink_lane x.fmu.link
  split
  · rw [meter, lane]
    rfl
  · rfl

theorem Part.report_values (old x : Part) (idle : x.anyUsable = true ∨ (x.pa.atAlign = false ∧ x.pb.atAlign = false)) :
    let y := x.report old
    y.pa = x.pa ∧ y.pb = x.pb ∧ y.fmu = x.fmuAfter none := by
  have fields := Part.report_fields old x
  rw [x.anchoring_idle idle] at fields
  exact fields

/-! ### The lane and the link -/

theorem Part.laneLink_down (old : LinkState) (x : Part) (down : x.fmu.link.up = false) :
    x.laneLink old = { x with ple := x.ple.heard false } := by
  unfold Part.laneLink
  rw [if_neg (by simp [down])]
  by_cases episode : x.ple.episode = true
  · have heard : x.ple.heard false = { x.ple with episode := false, ackRaised := false, quietTail := 16, tailDue := false } :=
      (if_neg nofun).trans (if_pos episode)
    rw [if_pos episode, heard]
    rfl
  · have heard : x.ple.heard false = x.ple := (if_neg nofun).trans (if_neg episode)
    rw [if_neg episode, heard]

/-- The lane once the link is back: a record in flight makes a go-back due. -/
def Ple.back (l : Ple) : Ple :=
  if 0 < l.inFlight then { l with goBackDue := true } else l

theorem Part.laneLink_back (old : LinkState) (x : Part) (up : x.fmu.link.up = true) (down : old.up = false) :
    x.laneLink old = { x with ple := x.ple.back } := by
  unfold Part.laneLink Ple.back
  rw [if_pos up, down]
  by_cases flying : 0 < x.ple.inFlight
  · rw [if_pos flying, if_pos (by simp [flying])]
    rfl
  · rw [if_neg flying, if_neg (by simp [flying])]

theorem Part.meterLink_down (x : Part) (desk : x.dsc.role = .desk) (severed : x.fmu.link = .severed) :
    x.meterLink = { x with mtu := { x.mtu with table := x.mtu.table.map fun e => { e with age := 321 } } } :=
  if_pos ⟨desk, severed⟩

theorem Part.meterLink_up (x : Part) (alive : x.fmu.link ≠ .severed) : x.meterLink = x :=
  if_neg fun h => alive h.2

/-- The lane after echoes reads the values of the targets alone. -/
theorem Part.talkLane_congr (v b s : Part) (l : Ple) (order : List Source) (ple : s.ple = b.ple) (tka : s.tka = b.tka) :
    ({ v with ple := l } : Part).laneAfter s (({ v with ple := l } : Part).talkEchoes s order) =
      v.laneAfter b (v.talkEchoes b order) := by
  have same : ({ v with ple := l } : Part).talkEchoes s order = v.talkEchoes b order := by
    unfold Part.talkEchoes Part.talkChanged Part.session
    rw [tka]
  rw [same]
  exact Part.laneAfter_congr _ _ _ _ _ ple fun _ _ => Part.reports_withPle ..

/-! ### The loss of the last usable path -/

/-- The notices of a path whose silence takes the link. -/
def lossNotices (p : Path) (old : PathState) : List Notice :=
  [.pathState p .acquiring old .silence none, .linkState .severed .exposed none false false]

theorem pathNotice_same (p : Path) (c : PathCtl) : pathNotice p c c = none :=
  if_neg fun h => h.elim (fun ne => ne rfl) fun both => both.2 rfl

theorem pathNotice_changed (p : Path) (old new : PathCtl) (ne : new.state ≠ old.state) (cause : new.cause ≠ .role) :
    pathNotice p old new = some (.pathState p new.state old.state new.cause none) := by
  unfold pathNotice
  rw [if_pos (.inl ne), if_neg cause]

theorem chooseRef_none (a b : PathCtl) (pair : PairCfg) (cur : Option Path) (ha : a.usable = false) (hb : b.usable = false) :
    chooseRef a b pair cur = none :=
  (chooseRef_facts a b pair cur).1.mpr ⟨ha, hb⟩

/-- A report that changes the link, with nothing to complete: the notices, then the clock, then the link's readers. -/
theorem Part.report_changed (x : Part) (a b : PathCtl) (ns : List Notice) (f : Fmu)
    (idle : a.usable = true ∨ b.usable = true ∨ (a.atAlign = false ∧ b.atAlign = false))
    (after : ({ x with pa := a, pb := b } : Part).fmuAfter none = f) (link : f.link ≠ x.fmu.link)
    (told : Part.reportNotices x { x with pa := a, pb := b } none = ns) :
    ({ x with pa := a, pb := b } : Part).report x =
      ({ x with pa := a, pb := b, fmu := f, cmp := x.cmp.notifyAll ns } : Part).clockFollow.linkChanged x.fmu.link := by
  have idle' : ({ x with pa := a, pb := b } : Part).anyUsable = true ∨ (a.atAlign = false ∧ b.atAlign = false) := by
    unfold Part.anyUsable
    rcases idle with h | h | h
    · exact .inl (by simp [h])
    · exact .inl (by simp [h])
    · exact .inr h
  rw [Part.report_eq, Part.anchoring_idle _ idle']
  dsimp only
  rw [after]
  refine (if_pos link).trans ?_
  unfold Part.reported
  rw [told, after]

/-- The loss of the last usable path by silence: the notices of the path and the link, then the clock, then the link's readers. -/
theorem Part.takeSilence_lost (p : Path) (x : Part) (inv : x.LinkInv) (due : (x.path p).silenceDue = true)
    (used : (x.path p).usable = true) (other : (x.path (otherPath p)).usable = false)
    (still : (x.path (otherPath p)).atAlign = false) :
    ∃ (a b : PathCtl) (f : Fmu), f.link = .severed ∧ f.ref = none ∧
      x.takeSilence p = ({ x with
        pa := a, pb := b, fmu := f, cmp := x.cmp.notifyAll (lossNotices p (x.path p).state) } : Part).clockFollow.linkChanged .exposed := by
  have ⟨_, exposed, ref, _⟩ := inv
  have differ : x.pa.usable ≠ x.pb.usable := by
    cases p
    · rw [show x.pa.usable = true from used, show x.pb.usable = false from other]; nofun
    · rw [show x.pa.usable = false from other, show x.pb.usable = true from used]; nofun
  have link : x.fmu.link = .exposed := exposed.mpr differ
  have had : x.fmu.ref ≠ none := fun e => by
    rw [link, e] at ref
    cases ref
  let lost := PathCtl.acquire .silence (x.path p)
  have moved : lost.state ≠ (x.path p).state := fun e => by
    have : (x.path p).state = .acquiring := e.symm
    unfold PathCtl.usable at used
    rw [this] at used
    cases used
  have told := pathNotice_changed p (x.path p) lost moved nofun
  have taken : x.takeSilence p = (x.onPath p (PathCtl.acquire .silence)).report x := if_pos (by rw [due, used]; rfl)
  have links (a b : PathCtl) (ha : a.usable = false) (hb : b.usable = false) :
      (({ x with pa := a, pb := b } : Part).fmuAfter none).link = .severed ∧
      (({ x with pa := a, pb := b } : Part).fmuAfter none).ref = none ∧
      ({ x with pa := a, pb := b } : Part).linkNotices none = [.linkState .severed .exposed none false false] := by
    have after : (({ x with pa := a, pb := b } : Part).fmuAfter none).link = .severed := by
      show linkOf x.fmu.link a.usable b.usable = _
      rw [link, ha, hb]
      rfl
    have ref' : (({ x with pa := a, pb := b } : Part).fmuAfter none).ref = none := chooseRef_none _ _ _ _ ha hb
    refine ⟨after, ref', ?_⟩
    unfold Part.linkNotices
    rw [after, ref']
    show (if _ then [Notice.linkState .severed x.fmu.link none a.usable b.usable] else []) = _
    rw [if_pos (.inr (Ne.symm had)), link, ha, hb]
  rw [taken]
  cases p with
  | a =>
    obtain ⟨severed, gone, notices⟩ := links lost x.pb rfl other
    refine ⟨lost, x.pb, _, severed, gone, ?_⟩
    refine (x.report_changed lost x.pb _ _ (.inr (.inr ⟨rfl, still⟩)) rfl (by rw [severed, link]; nofun) ?_).trans (by rw [link])
    unfold Part.reportNotices
    rw [show pathNotice .a x.pa lost = _ from told, pathNotice_same, notices]
    rfl
  | b =>
    obtain ⟨severed, gone, notices⟩ := links x.pa lost other rfl
    refine ⟨x.pa, lost, _, severed, gone, ?_⟩
    refine (x.report_changed x.pa lost _ _ (.inr (.inr ⟨still, rfl⟩)) rfl (by rw [severed, link]; nofun) ?_).trans (by rw [link])
    unfold Part.reportNotices
    rw [show pathNotice .b x.pb lost = _ from told, pathNotice_same, notices]
    rfl

/-- The clock notice of the loss. -/
def Part.clockLost (x : Part) : List Notice :=
  if x.scu.lock = .locked then [.clockState ⟨.stage, none, .holdover, none⟩] else []

theorem Part.clockFollow_lost (x : Part) (stage : x.dsc.role = .stage) (gone : x.fmu.ref = none) :
    x.clockFollow = { x with
      scu := { x.scu with lock := if x.scu.lock = .locked then .holdover else x.scu.lock }
      cmp := x.cmp.notifyAll x.clockLost } := by
  rw [x.clockFollow_stage stage, gone]
  unfold Part.clockLost followRef
  by_cases locked : x.scu.lock = .locked
  · simp only [locked, if_true]
    rfl
  · simp only [locked, if_false, if_true]
    rfl

/-- The tables of talk after the paths, the FMU, the clock and the notices took a change. -/
theorem Part.TalkInv.agree_after {x y : Part} (inv : x.TalkInv) (tka : y.tka = x.tka) (mxe : y.mxe = x.mxe) : y.TalkAgree :=
  inv.agree.congr tka (congrArg Mxe.mixes mxe)

/-- What the STAGE's readers of the link make of its loss: from `s`, where the paths, the FMU and the notices `ns` are taken. -/
structure Part.StageLost (s : Part) (ns : List Notice) (f : Fmu) (y : Part) : Prop where
  fmu : y.fmu = f
  mtu : y.mtu = s.mtu
  lock : y.scu.lock = if s.scu.lock = .locked then .holdover else s.scu.lock
  lane : y.ple.queue = (y.laneAfter s (y.talkEchoes s [.foh, .mon, .stg])).queue ∧
    y.ple.marks = (y.laneAfter s (y.talkEchoes s [.foh, .mon, .stg])).marks
  episode : y.ple.sansRecords = (s.ple.heard false).sansRecords
  talk : ∃ b v : Part, b.tka = s.tka ∧ b.cmp = s.cmp.notifyAll (ns ++ s.clockLost) ∧ b.TalkSevered v ∧
    y.tka = v.tka ∧ y.mxe = v.mxe ∧ y.cmp = v.cmp

theorem Ple.heard_off (l : Ple) : l.heard false =
    if l.episode = true then { l with episode := false, ackRaised := false, quietTail := 16, tailDue := false } else l :=
  if_neg nofun

theorem Ple.heard_sansRecords (l : Ple) : (l.heard false).sansRecords = l.sansRecords.heard false := by
  rw [Ple.heard_off, Ple.heard_off]
  exact apply_ite Ple.sansRecords ..

theorem Ple.heard_records (l : Ple) : (l.heard false).queue = l.queue ∧ (l.heard false).marks = l.marks := by
  rw [Ple.heard_off]
  split <;> exact ⟨rfl, rfl⟩

theorem Part.stageLost (s : Part) (a b : PathCtl) (f : Fmu) (ns : List Notice) (inv : s.TalkInv) (stage : s.dsc.role = .stage)
    (severed : f.link = .severed) (gone : f.ref = none) :
    s.StageLost ns f (({ s with pa := a, pb := b, fmu := f, cmp := s.cmp.notifyAll ns } : Part).clockFollow.linkChanged .exposed) := by
  let w₀ : Part := { s with pa := a, pb := b, fmu := f, cmp := s.cmp.notifyAll ns }
  show s.StageLost ns f (w₀.clockFollow.linkChanged .exposed)
  rw [w₀.clockFollow_lost stage gone]
  let w : Part := { s with
    pa := a, pb := b, fmu := f
    scu := { s.scu with lock := if s.scu.lock = .locked then .holdover else s.scu.lock }
    cmp := (s.cmp.notifyAll ns).notifyAll s.clockLost }
  show s.StageLost ns f (w.linkChanged .exposed)
  rw [w.linkChanged_stage .exposed stage]
  have ⟨_, _, _, _, granted, _⟩ := inv
  have talk := w.talkLink_severed .exposed (inv.agree_after rfl rfl) severed fun t z holds opened => by
    obtain ⟨-, -, -, fits⟩ := granted t z 16 opened ((inv.granted_iff opened 16).mpr holds)
    unfold Part.eligible at fits
    simp only [Bool.and_eq_true] at fits
    exact fits.1.1
  have told : w.cmp = s.cmp.notifyAll (ns ++ s.clockLost) := (Cmp.notifyAll_append ..).symm
  generalize w.talkLink .exposed = v at talk ⊢
  have rest := talk.rest
  have vfmu : v.fmu = f := (congrArg Part.fmu rest :)
  rw [v.laneLink_down .exposed (by rw [vfmu, severed]; rfl)]
  have lane := Part.talkLane_congr v w s (v.ple.heard false) [.foh, .mon, .stg] rfl rfl
  obtain ⟨queue, marks⟩ := v.ple.heard_records
  refine ⟨vfmu, (congrArg Part.mtu rest :), (congrArg (fun p : Part => p.scu.lock) rest :), ⟨?_, ?_⟩, ?_, w, v, rfl, told, talk, rfl, rfl, rfl⟩
  · rw [lane, ← talk.lane]
    exact queue
  · rw [lane, ← talk.lane]
    exact marks
  · show (v.ple.heard false).sansRecords = _
    have kept : v.ple.sansRecords = s.ple.sansRecords := by
      rw [talk.lane]
      exact Part.laneAfter_sansRecords ..
    rw [Ple.heard_sansRecords, kept, ← Ple.heard_sansRecords]

/-- What the DESK's readers of the link make of its loss. -/
theorem Part.deskLost (s : Part) (a b : PathCtl) (f : Fmu) (ns : List Notice) (desk : s.dsc.role = .desk)
    (severed : f.link = .severed) :
    ({ s with pa := a, pb := b, fmu := f, cmp := s.cmp.notifyAll ns } : Part).clockFollow.linkChanged .exposed = { s with
      pa := a, pb := b, fmu := f, cmp := s.cmp.notifyAll ns, ple := s.ple.heard false
      mtu := { s.mtu with table := s.mtu.table.map fun e => { e with age := 321 } } } := by
  let w : Part := { s with pa := a, pb := b, fmu := f, cmp := s.cmp.notifyAll ns }
  show w.clockFollow.linkChanged .exposed = _
  rw [w.clockFollow_desk desk, w.linkChanged_desk .exposed desk, w.laneLink_down .exposed (by show f.link.up = _; rw [severed]; rfl)]
  exact Part.meterLink_down { w with ple := w.ple.heard false } desk severed

/-- The episode of the lane ends with the link. -/
theorem Ple.heard_episode (l : Ple) :
    (l.episode = true → (l.heard false).episode = false ∧ (l.heard false).ackRaised = false ∧ (l.heard false).quietTail = 16) ∧
    (l.episode = false → (l.heard false).ackRaised = l.ackRaised ∧ (l.heard false).quietTail = l.quietTail) := by
  rw [Ple.heard_off]
  refine ⟨fun on => ?_, fun off => ?_⟩
  · rw [if_pos on]; exact ⟨rfl, rfl, rfl⟩
  · rw [if_neg (by simp [off])]; exact ⟨rfl, rfl⟩

/-! ### The return of the link -/

/-- The notices of a path that completes ALIGN with no path usable. -/
def returnNotices (p : Path) (old : LinkState) : List Notice :=
  [.pathState p .inService .acquiring .bringup none, .linkState .exposed old (some p) (p == .a) (p == .b)]

theorem chooseRef_a (a b : PathCtl) (pair : PairCfg) (cur : Option Path) (ha : a.usable = true) (hb : b.usable = false) :
    chooseRef a b pair cur = some .a := by
  obtain ⟨none_, usable, -⟩ := chooseRef_facts a b pair cur
  cases chosen : chooseRef a b pair cur with
  | none => rw [(none_.mp chosen).1] at ha; cases ha
  | some q =>
    cases q with
    | a => rfl
    | b => rw [show b.usable = true from usable .b chosen] at hb; cases hb

theorem chooseRef_b (a b : PathCtl) (pair : PairCfg) (cur : Option Path) (ha : a.usable = false) (hb : b.usable = true) :
    chooseRef a b pair cur = some .b := by
  obtain ⟨none_, usable, -⟩ := chooseRef_facts a b pair cur
  cases chosen : chooseRef a b pair cur with
  | none => rw [(none_.mp chosen).2] at hb; cases hb
  | some q =>
    cases q with
    | a => rw [show a.usable = true from usable .a chosen] at ha; cases ha
    | b => rfl

/-- A report by which path `p` completes ALIGN with no path usable: the notices, then the clock, then the link's readers. -/
theorem Part.report_served (p : Path) (old x : Part) (down : x.fmu.link.up = false) (idle : x.anyUsable = false)
    (align : (x.path p).atAlign = true) (still : (x.path (otherPath p)).atAlign = false)
    (was : (old.path p).state = .acquiring) (same : old.path (otherPath p) = x.path (otherPath p)) :
    ∃ (a b : PathCtl) (f : Fmu), f.link = .exposed ∧ f.ref = some p ∧ f.anchor = some p ∧
      (∀ q, ({ x with pa := a, pb := b } : Part).path q = (x.onPath p PathCtl.serve).path q) ∧
      x.report old = ({ x with
        pa := a, pb := b, fmu := f, cmp := x.cmp.notifyAll (returnNotices p x.fmu.link) } : Part).clockFollow.linkChanged x.fmu.link := by
  have unused : x.pa.usable = false ∧ x.pb.usable = false := by
    unfold Part.anyUsable at idle
    simpa using idle
  have link : LinkState.exposed ≠ x.fmu.link := fun e => by rw [← e] at down; cases down
  rw [Part.report_eq, x.anchoring_at p idle align still]
  dsimp only
  cases p with
  | a =>
    let y : Part := { x with pa := x.pa.serve }
    have ref : (y.fmuAfter (some .a)).ref = some .a := chooseRef_a x.pa.serve x.pb x.pair x.fmu.ref rfl unused.2
    have up : (y.fmuAfter (some .a)).link = .exposed := by
      show linkOf x.fmu.link true x.pb.usable = _
      rw [unused.2]
      rfl
    refine ⟨x.pa.serve, x.pb, y.fmuAfter (some .a), up, ref, rfl, fun q => by cases q <;> rfl, ?_⟩
    show (if (y.fmuAfter (some .a)).link ≠ x.fmu.link then (Part.reported old y (some .a)).clockFollow.linkChanged x.fmu.link else _) = _
    rw [if_pos (by rw [up]; exact link)]
    have told : Part.reportNotices old y (some .a) = returnNotices .a x.fmu.link := by
      unfold Part.reportNotices Part.linkNotices
      have path := pathNotice_changed .a old.pa x.pa.serve (by rw [show old.pa.state = _ from was]; nofun) nofun
      have other : old.pb = x.pb := same
      rw [show pathNotice .a old.pa y.pa = _ from path, show old.pa.state = _ from was, other,
        show pathNotice .b x.pb y.pb = _ from pathNotice_same .b x.pb, up, ref, if_pos (.inl link),
        show y.pb.usable = false from unused.2]
      rfl
    unfold Part.reported
    rw [told]
  | b =>
    let y : Part := { x with pb := x.pb.serve }
    have ref : (y.fmuAfter (some .b)).ref = some .b := chooseRef_b x.pa x.pb.serve x.pair x.fmu.ref unused.1 rfl
    have up : (y.fmuAfter (some .b)).link = .exposed := by
      show linkOf x.fmu.link x.pa.usable true = _
      rw [unused.1]
      rfl
    refine ⟨x.pa, x.pb.serve, y.fmuAfter (some .b), up, ref, rfl, fun q => by cases q <;> rfl, ?_⟩
    show (if (y.fmuAfter (some .b)).link ≠ x.fmu.link then (Part.reported old y (some .b)).clockFollow.linkChanged x.fmu.link else _) = _
    rw [if_pos (by rw [up]; exact link)]
    have told : Part.reportNotices old y (some .b) = returnNotices .b x.fmu.link := by
      unfold Part.reportNotices Part.linkNotices
      have path := pathNotice_changed .b old.pb x.pb.serve (by rw [show old.pb.state = _ from was]; nofun) nofun
      have other : old.pa = x.pa := same
      rw [show pathNotice .b old.pb y.pb = _ from path, show old.pb.state = _ from was, other,
        show pathNotice .a x.pa y.pa = _ from pathNotice_same .a x.pa, up, ref, if_pos (.inl link),
        show y.pa.usable = false from unused.1]
      rfl
    unfold Part.reported
    rw [told]

/-- The clock notice of the return. -/
def Part.clockFound (x : Part) (p : Path) : List Notice :=
  if x.scu.lock = .locked then [] else [.clockState ⟨.stage, none, .locked, some p⟩]

theorem Part.clockFollow_found (x : Part) (p : Path) (stage : x.dsc.role = .stage) (ref : x.fmu.ref = some p) :
    x.clockFollow = { x with scu := { x.scu with lock := .locked }, cmp := x.cmp.notifyAll (x.clockFound p) } := by
  rw [x.clockFollow_stage stage, ref]
  unfold Part.clockFound followRef
  by_cases locked : x.scu.lock = .locked
  · simp only [locked, if_true]
    rfl
  · simp only [locked, Ne.symm locked, if_false]
    rfl

theorem Ple.back_records (l : Ple) : l.back.queue = l.queue ∧ l.back.marks = l.marks := by
  unfold Ple.back
  split <;> exact ⟨rfl, rfl⟩

theorem Ple.back_goBackDue (l : Ple) : l.back.goBackDue = true ↔ l.goBackDue = true ∨ 0 < l.inFlight := by
  unfold Ple.back
  split
  · next flying => simp [flying]
  · next none_ => simp [none_]

/-- What the STAGE's readers of the link make of its return: from `s`, where the paths, the FMU and the notices `ns` are taken. -/
structure Part.StageBack (s : Part) (p : Path) (ns : List Notice) (f : Fmu) (y : Part) : Prop where
  fmu : y.fmu = f
  lock : y.scu.lock = .locked
  lane : y.ple.queue = (y.laneAfter s (y.talkEchoes s [.foh, .mon, .stg])).queue ∧
    y.ple.marks = (y.laneAfter s (y.talkEchoes s [.foh, .mon, .stg])).marks
  goBack : y.ple.goBackDue = true ↔ s.ple.goBackDue = true ∨ 0 < s.ple.inFlight
  talk : ∃ b v : Part, b.tka = s.tka ∧ b.mxe = s.mxe ∧ b.fmu = f ∧ b.cmp = s.cmp.notifyAll (ns ++ s.clockFound p) ∧ b.TalkReturned v ∧
    y.tka = v.tka ∧ y.mxe = v.mxe ∧ y.cmp = v.cmp

theorem Part.stageBack (p : Path) (s : Part) (a b : PathCtl) (f : Fmu) (ns : List Notice) (old : LinkState) (inv : s.TalkInv)
    (stage : s.dsc.role = .stage) (up : f.link = .exposed) (ref : f.ref = some p) (down : old.up = false) :
    s.StageBack p ns f (({ s with pa := a, pb := b, fmu := f, cmp := s.cmp.notifyAll ns } : Part).clockFollow.linkChanged old) := by
  let w₀ : Part := { s with pa := a, pb := b, fmu := f, cmp := s.cmp.notifyAll ns }
  show s.StageBack p ns f (w₀.clockFollow.linkChanged old)
  rw [w₀.clockFollow_found p stage ref]
  let w : Part := { s with
    pa := a, pb := b, fmu := f, scu := { s.scu with lock := .locked }
    cmp := (s.cmp.notifyAll ns).notifyAll (s.clockFound p) }
  show s.StageBack p ns f (w.linkChanged old)
  rw [w.linkChanged_stage old stage]
  have alive : f.link.up = true := by rw [up]; rfl
  have talk := w.talkLink_returned old ⟨inv.1, inv.2.1⟩ alive down
  have told : w.cmp = s.cmp.notifyAll (ns ++ s.clockFound p) := (Cmp.notifyAll_append ..).symm
  generalize w.talkLink old = v at talk ⊢
  have rest := talk.rest
  have vfmu : v.fmu = f := (congrArg Part.fmu rest :)
  rw [v.laneLink_back old (by rw [vfmu]; exact alive) down]
  have lane := Part.talkLane_congr v w s v.ple.back [.foh, .mon, .stg] rfl rfl
  obtain ⟨queue, marks⟩ := v.ple.back_records
  refine ⟨vfmu, (congrArg (fun p : Part => p.scu.lock) rest :), ⟨?_, ?_⟩, ?_, w, v, rfl, rfl, rfl, told, talk, rfl, rfl, rfl⟩
  · rw [lane, ← talk.lane]
    exact queue
  · rw [lane, ← talk.lane]
    exact marks
  · refine v.ple.back_goBackDue.trans ?_
    have due : v.ple.goBackDue = s.ple.goBackDue := by
      have kept : v.ple.sansRecords = s.ple.sansRecords := by
        rw [talk.lane]
        exact Part.laneAfter_sansRecords ..
      exact (congrArg Ple.goBackDue kept :)
    have flying : v.ple.inFlight = s.ple.inFlight := by
      rw [talk.lane]
      exact Part.laneAfter_inFlight ..
    rw [due, flying]

/-- What the DESK's readers of the link make of its return. -/
theorem Part.deskBack (s : Part) (a b : PathCtl) (f : Fmu) (ns : List Notice) (old : LinkState) (desk : s.dsc.role = .desk)
    (up : f.link = .exposed) (down : old.up = false) :
    ({ s with pa := a, pb := b, fmu := f, cmp := s.cmp.notifyAll ns } : Part).clockFollow.linkChanged old = { s with
      pa := a, pb := b, fmu := f, cmp := s.cmp.notifyAll ns, ple := s.ple.back } := by
  let w : Part := { s with pa := a, pb := b, fmu := f, cmp := s.cmp.notifyAll ns }
  show w.clockFollow.linkChanged old = _
  rw [w.clockFollow_desk desk, w.linkChanged_desk old desk, w.laneLink_back old (by show f.link.up = _; rw [up]; rfl) down]
  exact Part.meterLink_up { w with ple := w.ple.back } (by show f.link ≠ _; rw [up]; nofun)

/-! ### The obligation -/

/-- The loss of the last usable path by silence, whole. -/
theorem Part.takeSilence_loss (p : Path) (s : Part) (inv : s.LinkInv) (talk : s.TalkInv) (due : (s.path p).silenceDue = true)
    (used : (s.path p).usable = true) (other : (s.path (otherPath p)).usable = false)
    (still : (s.path (otherPath p)).atAlign = false) :
    let x := s.takeSilence p
    x.fmu.link = .severed ∧ x.fmu.ref = none ∧ x.ple.sansRecords = (s.ple.heard false).sansRecords ∧
    (s.dsc.role = .desk → x.cmp = s.cmp.notifyAll (lossNotices p (s.path p).state) ∧ x.scu = s.scu ∧ x.tka = s.tka ∧
      x.mtu = { s.mtu with table := s.mtu.table.map fun e => { e with age := 321 } }) ∧
    (s.dsc.role = .stage → ∃ f, s.StageLost (lossNotices p (s.path p).state) f x) := by
  obtain ⟨a, b, f, severed, gone, taken⟩ := s.takeSilence_lost p inv due used other still
  intro x
  have hx : x = _ := taken
  cases role : s.dsc.role with
  | desk =>
    rw [s.deskLost a b f _ role severed] at hx
    rw [hx]
    exact ⟨severed, gone, rfl, fun _ => ⟨rfl, rfl, rfl, rfl⟩, nofun⟩
  | stage =>
    have lost := s.stageLost a b f (lossNotices p (s.path p).state) talk role severed gone
    rw [← hx] at lost
    exact ⟨by rw [lost.fmu, severed], by rw [lost.fmu, gone], lost.episode, nofun, fun _ => ⟨f, lost⟩⟩

/-- IDENT completed with no path usable and the far flag down. -/
theorem Part.takeIdent_served (p : Path) (s : Part) (inv : s.LinkInv) (acquiring : (s.path p).state = .acquiring)
    (ident : (s.path p).step = .ident) (counted : 8 ≤ (s.path p).count)
    (flags : ∀ fl, (s.path p).identFlags = some fl → fl.1 = false) (idle : s.anyUsable = false)
    (still : (s.path (otherPath p)).atAlign = false) :
    ∃ (a b : PathCtl) (f : Fmu), f.link = .exposed ∧ f.ref = some p ∧ s.fmu.link.up = false ∧
      s.takeIdent p = ({ s with
        pa := a, pb := b, fmu := f, cmp := s.cmp.notifyAll (returnNotices p s.fmu.link) } : Part).clockFollow.linkChanged s.fmu.link := by
  have down : s.fmu.link.up = false := by
    have ⟨protect, exposed, _, _⟩ := inv
    have unused : s.pa.usable = false ∧ s.pb.usable = false := by
      unfold Part.anyUsable at idle
      simpa using idle
    rw [unused.1, unused.2] at protect exposed
    unfold LinkState.up
    simp [protect, exposed]
  have taken : s.takeIdent p = (s.onPath p PathCtl.align).report s := by
    unfold Part.takeIdent
    rw [if_pos ⟨acquiring, ident, counted⟩]
    dsimp only
    split
    · next fl held => rw [flags fl held]; rfl
    · rfl
  have aligned : ((s.onPath p PathCtl.align).path p).atAlign = true := by
    cases p
    · exact Bool.and_eq_true_iff.mpr ⟨beq_iff_eq.mpr acquiring, rfl⟩
    · exact Bool.and_eq_true_iff.mpr ⟨beq_iff_eq.mpr acquiring, rfl⟩
  have idle' : (s.onPath p PathCtl.align).anyUsable = false := by cases p <;> exact idle
  have still' : ((s.onPath p PathCtl.align).path (otherPath p)).atAlign = false := by cases p <;> exact still
  have same : s.path (otherPath p) = (s.onPath p PathCtl.align).path (otherPath p) := by cases p <;> rfl
  have down' : (s.onPath p PathCtl.align).fmu.link.up = false := by cases p <;> exact down
  obtain ⟨a, b, f, up, ref, -, -, served⟩ := Part.report_served p s (s.onPath p PathCtl.align) down' idle' aligned still' acquiring same
  refine ⟨a, b, f, up, ref, down, (taken.trans served).trans ?_⟩
  cases p <;> rfl

/-- With the link up, the sessions that wait for a FREE FOH CUE are those that want it. -/
theorem Part.candidate_cue {s b : Part} (inv : s.TalkInv) (tka : b.tka = s.tka) (up : b.fmu.link.up = true) (t : Source) (z : Session) :
    (b.candidate 16 t z → s.session t = some z ∧ z.requested.testBit 16 = true ∧ (s.tka.cfg.cueMask < z.priority ∨ z.priority = 7)) ∧
    ((s.dest 16).state = .free →
      s.session t = some z ∧ z.requested.testBit 16 = true ∧ (s.tka.cfg.cueMask < z.priority ∨ z.priority = 7) → b.candidate 16 t z) := by
  have session : b.session t = s.session t := congrArg (fun k : Tka => (k.source t).session) tka
  have mask : b.maskOf 16 = s.tka.cfg.cueMask := by rw [← tka]; exact if_pos rfl
  have eligible : b.eligible z 16 = true ↔ z.requested.testBit 16 = true ∧ (s.tka.cfg.cueMask < z.priority ∨ z.priority = 7) := by
    unfold Part.eligible
    rw [mask, up]
    simp
  unfold Part.candidate
  rw [session, eligible]
  refine ⟨fun ⟨opened, _, fits⟩ => ⟨opened, fits⟩, fun free ⟨opened, fits⟩ => ⟨opened, ?_, fits⟩⟩
  have out : z.granted.testBit 16 = false := by
    by_contra bit
    have held := ((inv.granted_iff opened 16).mp (by simpa using bit)).1
    rw [free] at held
    cases held
  unfold Session.waits
  rw [fits.1, out]
  rfl

/-- Settles O19: the values of a report, the choice of the reference, and the loss and the return of the link. -/
theorem reportGivesLinkAndReference : Obligations.ReportGivesLinkAndReference := by
  refine ⟨fun old x idle => ?_, chooseRef_facts, fun p s inv talk due used other still => ?_,
    fun p s inv talk acquiring ident counted flags idle still => ?_⟩
  · obtain ⟨pa, pb, fmu⟩ := Part.report_values old x idle
    refine ⟨pa, pb, ?_, ?_, ?_, ?_, ?_, ?_, ?_, ?_, fun desk => ?_⟩
    · rw [fmu]; exact linkOf_cases ..
    · rw [fmu]; rfl
    · rw [fmu]; exact x.anchorAfter_none
    · rw [fmu]; rfl
    · rw [fmu]; rfl
    · rw [fmu]; rfl
    · rw [fmu]; rfl
    · rw [fmu]; rfl
    · rw [fmu]; exact Part.report_cmp_desk old x idle desk
  · obtain ⟨severed, gone, episode, desk, stage⟩ := s.part.takeSilence_loss p inv talk due used other still
    obtain ⟨ends, stays⟩ := s.part.ple.heard_episode
    have episode' : (s.part.takeSilence p).ple.episode = (s.part.ple.heard false).episode := (congrArg Ple.episode episode :)
    have ack : (s.part.takeSilence p).ple.ackRaised = (s.part.ple.heard false).ackRaised := (congrArg Ple.ackRaised episode :)
    have tail : (s.part.takeSilence p).ple.quietTail = (s.part.ple.heard false).quietTail := (congrArg Ple.quietTail episode :)
    refine ⟨s.part.takeSilence p, rfl, severed, gone, fun on => ?_, fun off => ?_, desk, fun role => ?_⟩
    · rw [episode', ack, tail]; exact ends on
    · rw [ack, tail]; exact stays off
    · obtain ⟨f, lost⟩ := stage role
      generalize s.part.takeSilence p = x at lost ⊢
      obtain ⟨b, v, btka, bcmp, severed, tka, mxe, cmp⟩ := lost.talk
      have was_dest (d : Nat) : b.dest d = s.part.dest d := congrArg (fun t : Tka => t.dests.getD d Dest.powerOn) btka
      have was_source (t : Source) : b.tka.source t = s.part.tka.source t := by rw [btka]
      have was_session (t : Source) : b.session t = s.part.session t := congrArg SourceRec.session (was_source t)
      have was_closed : b.fohClosed = s.part.fohClosed := by
        unfold Part.fohClosed
        rw [was_session, btka]
      have dest (d : Nat) : x.dest d = v.dest d := congrArg (fun t : Tka => t.dests.getD d Dest.powerOn) tka
      have source (t : Source) : x.tka.source t = v.tka.source t := by rw [tka]
      have holds (t : Source) (h : s.part.holds t 16) : b.holds t 16 := by unfold Part.holds; rw [was_dest]; exact h
      refine ⟨lost.mtu, lost.lock, fun z opened => ?_, fun absent => ?_, fun d lt => ?_, fun src z ne held opened => ?_, lost.lane.1,
        lost.lane.2, fun d lt differs => ?_, fun mon stg => ?_⟩
      · exact (source .foh).trans ((severed.closed z ((was_session _).trans opened)).trans (by rw [btka]))
      · exact (source .foh).trans ((severed.stands ((was_session _).trans absent)).trans (was_source .foh))
      · rw [dest, severed.dest d lt, was_dest]
      · obtain ⟨session, version, others, told⟩ := severed.taken src z ne (holds src held) ((was_session src).trans opened)
        rw [was_source] at version told
        refine ⟨(congrArg (fun r : SourceRec => r.session.map Session.echo) (source src)).trans session,
          (congrArg SourceRec.version (source src)).trans version,
          fun other foh apart => (source other).trans ((others other foh apart).trans (was_source other)), ?_⟩
        rw [cmp, told, bcmp, was_closed, ← Cmp.notifyAll_append, ← List.append_assoc]
        rfl
      · rw [dest, ← was_dest] at differs
        refine (Part.targetsFollow_congr _ _ _ ?_ (fun _ => ?_) (fun _ => ?_) ?_).mpr (severed.targets d lt differs)
        · rw [dest]
        · exact congrArg (fun m : Mxe => m.mixes.getD d Mix.powerOn) mxe
        · rw [tka]
        · rw [tka]
      · obtain ⟨same_mon, same_stg, told⟩ := severed.kept (fun h => mon ⟨was_dest 16 ▸ h.1, was_dest 16 ▸ h.2⟩)
          fun h => stg ⟨was_dest 16 ▸ h.1, was_dest 16 ▸ h.2⟩
        refine ⟨(source .mon).trans (same_mon.trans (was_source .mon)), (source .stg).trans (same_stg.trans (was_source .stg)), ?_⟩
        rw [cmp, told, bcmp, was_closed, ← Cmp.notifyAll_append]
        rfl
  · obtain ⟨a, b, f, up, ref, down, served⟩ := s.part.takeIdent_served p inv acquiring ident counted flags idle still
    refine ⟨s.part.takeIdent p, rfl, ?_⟩
    cases role : s.part.dsc.role with
    | desk =>
      rw [served, s.part.deskBack a b f _ _ role up down]
      exact ⟨up, s.part.ple.back_goBackDue, fun _ => ⟨rfl, rfl, rfl, rfl⟩, nofun⟩
    | stage =>
      have back := s.part.stageBack p a b f (returnNotices p s.part.fmu.link) s.part.fmu.link talk role up ref down
      rw [← served] at back
      generalize s.part.takeIdent p = x at back ⊢
      obtain ⟨b, v, btka, bmxe, bfmu, bcmp, returned, tka, mxe, cmp⟩ := back.talk
      refine ⟨by rw [back.fmu, up], back.goBack, nofun, fun _ => ?_⟩
      have was_dest (d : Nat) : b.dest d = s.part.dest d := congrArg (fun t : Tka => t.dests.getD d Dest.powerOn) btka
      have was_source (t : Source) : b.tka.source t = s.part.tka.source t := by rw [btka]
      have was_session (t : Source) : b.session t = s.part.session t := congrArg SourceRec.session (was_source t)
      have dest (d : Nat) : x.dest d = v.dest d := congrArg (fun t : Tka => t.dests.getD d Dest.powerOn) tka
      have source (t : Source) : x.tka.source t = v.tka.source t := by rw [tka]
      have wants_iff := Part.candidate_cue talk (b := b) btka (by rw [bfmu, up]; rfl)
      refine ⟨back.lock, fun d ne => ?_, back.lane.1, back.lane.2, fun idle => ?_, fun src z free opened wants first => ?_⟩
      · rw [dest, returned.dest d ne, was_dest]
      · have still : v = b := returned.stands (idle.imp (fun ne => by rw [was_dest]; exact ne)
          fun nobody t z fits => nobody t z ((wants_iff t z).1 fits).1 ((wants_iff t z).1 fits).2)
        rw [still] at tka cmp
        exact ⟨congrArg (fun t : Tka => t.dests.getD 16 Dest.powerOn) (tka.trans btka), congrArg Tka.foh (tka.trans btka),
          congrArg Tka.mon (tka.trans btka), congrArg Tka.stg (tka.trans btka), cmp.trans bcmp⟩
      · obtain ⟨held, target, session, others, told⟩ := returned.given src z (by rw [was_dest]; exact free)
          ((wants_iff src z).2 free ⟨opened, wants⟩) fun t o ne fits => first t o ne ((wants_iff t o).1 fits).1 ((wants_iff t o).1 fits).2
        rw [was_source] at told
        refine ⟨(dest 16).trans held, ?_, (congrArg (fun r : SourceRec => r.session.map Session.echo) (source src)).trans session,
          fun t ne => (source t).trans ((others t ne).trans (was_source t)), ?_⟩
        · rw [tka, target, btka]
        · rw [cmp, told, bcmp]
          exact (Cmp.notifyAll_append _ [cueGained src z (((s.part.tka.source src).version + 1) % 65536)] s.part.cmp).symm

end Sys2Proof.Machine
end

section
/-!
PROOFS. Step ALIGN (R25 to R27): how IDENT leads to it, how it completes by a report, by the distance of a frame, and at STANDBY entry.
-/

namespace Sys2Proof.Machine

/-! ### IDENT leads to ALIGN -/

/-- IDENT_STEP_COMPLETE with the far flag down: the step is ALIGN, and reported. -/
theorem Part.takeIdent_quiet (p : Path) (x : Part) (acquiring : (x.path p).state = .acquiring) (ident : (x.path p).step = .ident)
    (counted : 8 ≤ (x.path p).count) (flags : ∀ fl, (x.path p).identFlags = some fl → fl.1 = false) :
    x.takeIdent p = (x.onPath p PathCtl.align).report x := by
  unfold Part.takeIdent
  rw [if_pos ⟨acquiring, ident, counted⟩]
  dsimp only
  split
  · next fl held => rw [flags fl held]; rfl
  · rfl

theorem PathCtl.align_atAlign (c : PathCtl) (acquiring : c.state = .acquiring) : c.align.atAlign = true :=
  Bool.and_eq_true_iff.mpr ⟨beq_iff_eq.mpr acquiring, rfl⟩

/-- A path aligned with no path usable is served by the report, as the anchoring path. -/
theorem Part.report_aligned (p : Path) (x old : Part) (acquiring : (x.path p).state = .acquiring) (idle : x.anyUsable = false)
    (still : (x.path (otherPath p)).atAlign = false) :
    let y := (x.onPath p PathCtl.align).report old
    y.path p = (x.path p).align.serve ∧ y.fmu.anchor = some p ∧ y.fmu.link = .exposed ∧ y.fmu.ref = some p ∧ y.fmu.p = x.fmu.p := by
  have unused : x.pa.usable = false ∧ x.pb.usable = false := by
    unfold Part.anyUsable at idle
    simpa using idle
  have aligned : ((x.onPath p PathCtl.align).path p).atAlign = true := by
    cases p <;> exact PathCtl.align_atAlign _ acquiring
  have anchoring := (x.onPath p PathCtl.align).anchoring_at p (by cases p <;> exact idle) aligned (by cases p <;> exact still)
  obtain ⟨pa, pb, fmu⟩ := Part.report_fields old (x.onPath p PathCtl.align)
  rw [anchoring] at pa pb fmu
  cases p with
  | a =>
    refine ⟨pa, by rw [fmu]; rfl, ?_, ?_, by rw [fmu]; rfl⟩
    · rw [fmu]
      show linkOf _ true x.pb.usable = _
      rw [unused.2]
      rfl
    · rw [fmu]
      exact chooseRef_a x.pa.align.serve x.pb x.pair x.fmu.ref rfl unused.2
  | b =>
    refine ⟨pb, by rw [fmu]; rfl, ?_, ?_, by rw [fmu]; rfl⟩
    · rw [fmu]
      show linkOf _ x.pa.usable true = _
      rw [unused.1]
      rfl
    · rw [fmu]
      exact chooseRef_b x.pa x.pb.align.serve x.pair x.fmu.ref unused.1 rfl

/-! ### ALIGN completes by distance -/

/-- A full frame at ALIGN is offered; at a distance of 1 to 15 the path is served. -/
theorem Part.goodFrame_align (p : Path) (f : Frame) (x : Part) (acquiring : (x.path p).state = .acquiring)
    (align : (x.path p).step = .align) (full : f.idle = false) :
    ((∃ d, (x.arrive p f).1 = some d ∧ 1 ≤ d ∧ d ≤ 15) → x.goodFrame p f = (x.arrive p f).2.changePath p PathCtl.serve) ∧
    ((∀ d, (x.arrive p f).1 = some d → d = 0 ∨ 15 < d) → x.goodFrame p f = (x.arrive p f).2) := by
  have offered : x.goodFrame p f = match (x.arrive p f).1 with
      | some d => if 1 ≤ d ∧ d ≤ 15 then (x.arrive p f).2.changePath p PathCtl.serve else (x.arrive p f).2
      | none => (x.arrive p f).2 := by
    unfold Part.goodFrame
    rw [acquiring]
    dsimp only
    rw [align]
    exact if_neg (by simp [full])
  rw [offered]
  refine ⟨fun ⟨d, reported, near⟩ => ?_, fun far => ?_⟩
  · rw [reported]
    exact if_pos near
  · cases reported : (x.arrive p f).1 with
    | none => rfl
    | some d => exact if_neg fun near => by have := far d reported; omega

/-! ### ALIGN completes at STANDBY entry (R27, R36, R59) -/

theorem PathCtl.standby_standing (c : PathCtl) (used : c.usable = true) :
    c.standby.state = .dark ∧ c.standby.cause = .standby ∧ c.standby.standby.state = .dark ∧ c.standby.usable = false := by
  have up : c.state ≠ .disabled ∧ c.state ≠ .dark := by
    refine ⟨fun e => ?_, fun e => ?_⟩ <;>
    · unfold PathCtl.usable at used
      rw [e] at used
      cases used
  have dark : c.standby.state = .dark := by
    rw [PathCtl.standby_eq]
    exact if_neg up.1
  refine ⟨dark, ?_, ?_, ?_⟩
  · rw [PathCtl.standby_eq]
    exact if_neg fun h => h.elim up.1 up.2
  · rw [PathCtl.standby_eq c.standby]
    show (if c.standby.state = .disabled then PathState.disabled else .dark) = _
    rw [dark]
    rfl
  · unfold PathCtl.usable
    rw [dark]
    rfl

theorem pathNotice_stands (p : Path) (old new : PathCtl) (state : new.state = old.state) (dark : new.state = .dark) :
    pathNotice p old new = none :=
  if_neg fun h => h.elim (fun ne => ne state) fun both => by
    have := both.1
    rw [dark] at this
    cases this

theorem PathCtl.align_unused (c : PathCtl) (align : c.atAlign = true) : c.usable = false := by
  have acquiring : c.state = .acquiring := beq_iff_eq.mp (Bool.and_eq_true_iff.mp align).1
  unfold PathCtl.usable
  rw [acquiring]
  rfl

/-- The notices of the paths at STANDBY entry: what ALIGN's completion tells first, then what the entry tells. -/
theorem Part.pathsStandby_told (x y : Part) (a b a' b' : PathCtl) (desk : x.dsc.role = .desk) (link : x.fmu.link = .exposed)
    (aligns : x.standbyAligns = { x with
      pa := a, pb := b, cmp := x.cmp.notifyAll ((pathNotice .a x.pa a).toList ++ (pathNotice .b x.pb b).toList) })
    (ha : a.standby = a') (hb : b.standby = b') (hy : x.pathsStandby = y) :
    y.pa = a' ∧ y.pb = b' ∧ y.fmu.link = .offline ∧
    y.cmp = x.cmp.notifyAll ((pathNotice .a x.pa a).toList ++ (pathNotice .b x.pb b).toList ++
      ((pathNotice .a a a').toList ++ (pathNotice .b b b').toList) ++ [.linkState .offline .exposed none false false]) := by
  subst ha hb hy
  let c := x.cmp.notifyAll ((pathNotice .a x.pa a).toList ++ (pathNotice .b x.pb b).toList)
  let w : Part := { x with
    pa := a.standby, pb := b.standby, fmu := x.fmu.standby
    cmp := ((c.notifyAll (pathNotice .a a a.standby).toList).notifyAll (pathNotice .b b b.standby).toList).notify
      (.linkState .offline .exposed none false false) }
  have entered : x.pathsStandby = w.clockFollow.linkChanged .exposed := by
    unfold Part.pathsStandby
    dsimp only
    rw [aligns, Part.notifyPath_toList, Part.notifyPath_toList, link]
    exact if_neg nofun
  rw [entered, w.clockFollow_desk desk, w.linkChanged_offline .exposed rfl]
  refine ⟨rfl, rfl, rfl, ?_⟩
  rw [Cmp.notifyAll_append, Cmp.notifyAll_append, Cmp.notifyAll_append]
  rfl

/-- STANDBY entry at DESK with one path usable and the other, `p`, at ALIGN. -/
theorem Part.pathsStandby_align (p : Path) (x : Part) (desk : x.dsc.role = .desk) (link : x.fmu.link = .exposed)
    (align : (x.path p).atAlign = true) (used : (x.path (otherPath p)).usable = true) :
    let fallen : Notice := .pathState (otherPath p) .dark (x.path (otherPath p)).state .standby none
    let served : Notice := .pathState p .inService .acquiring .bringup none
    let firstTwo : List Notice := match (generalizing := false) p with
      | .a => [served, fallen]
      | .b => [fallen, served]
    let y := x.pathsStandby
    (y.path p).state = .dark ∧ (y.path p).cause = .standby ∧ (y.path (otherPath p)).state = .dark ∧ y.fmu.link = .offline ∧
    y.cmp = x.cmp.notifyAll (firstTwo ++ [Notice.pathState p .dark .inService .standby none,
      Notice.linkState .offline .exposed none false false]) := by
  have unused := PathCtl.align_unused _ align
  obtain ⟨dark, cause, dark', fallen⟩ := PathCtl.standby_standing _ used
  have acquiring : (x.path p).state = .acquiring := beq_iff_eq.mp (Bool.and_eq_true_iff.mp align).1
  obtain ⟨end_, cause_, -, -⟩ := PathCtl.standby_standing (x.path p).serve rfl
  have any : x.anyUsable = true := by
    unfold Part.anyUsable
    cases p
    · rw [show x.pb.usable = true from used, Bool.or_true]
    · rw [show x.pa.usable = true from used, Bool.true_or]
  have served_ := pathNotice_changed p (x.path p) (x.path p).serve (by rw [acquiring]; nofun) nofun
  have fell := pathNotice_changed (otherPath p) (x.path (otherPath p)) (x.path (otherPath p)).standby
    (by rw [dark]; intro e; unfold PathCtl.usable at used; rw [← e] at used; cases used) (by rw [cause]; nofun)
  have ended := pathNotice_changed p (x.path p).serve (x.path p).serve.standby (by rw [end_]; nofun) (by rw [cause_]; nofun)
  have stayed := pathNotice_stands (otherPath p) (x.path (otherPath p)).standby (x.path (otherPath p)).standby.standby
    (by rw [dark', dark]) dark'
  rw [dark, cause] at fell
  rw [end_, cause_] at ended
  rw [acquiring] at served_
  have still := PathCtl.standby_atAlign (x.path (otherPath p))
  cases p with
  | a =>
    have align : x.pa.atAlign = true := align
    have aligns : x.standbyAligns = { x with
        pa := x.pa.serve, pb := x.pb.standby
        cmp := x.cmp.notifyAll ((pathNotice .a x.pa x.pa.serve).toList ++ (pathNotice .b x.pb x.pb.standby).toList) } := by
      unfold Part.standbyAligns
      rw [any, align]
      have first : x.pa.standbyUsable = x.pa := if_neg (by rw [show x.pa.usable = false from unused]; nofun)
      have second : x.pb.standbyUsable = x.pb.standby := if_pos used
      have anchored := ({ x with pa := x.pa, pb := x.pb.standby } : Part).anchoring_at .a
        (by unfold Part.anyUsable; rw [show x.pa.usable = false from unused, show x.pb.standby.usable = false from fallen]; rfl)
        align still
      rw [first, second, anchored]
      show Part.notifyPath .b (Part.notifyPath .a _ x) x = _
      rw [Part.notifyPath_toList, Part.notifyPath_toList, Cmp.notifyAll_append]
      rfl
    obtain ⟨pa, pb, offline, told⟩ := x.pathsStandby_told _ _ _ _ _ desk link aligns rfl rfl rfl
    rw [show pathNotice .a x.pa x.pa.serve = _ from served_, show pathNotice .b x.pb x.pb.standby = _ from fell,
      show pathNotice .a x.pa.serve x.pa.serve.standby = _ from ended,
      show pathNotice .b x.pb.standby x.pb.standby.standby = _ from stayed] at told
    exact ⟨(congrArg PathCtl.state pa).trans end_, (congrArg PathCtl.cause pa).trans cause_, (congrArg PathCtl.state pb).trans dark', offline, told⟩
  | b =>
    have align : x.pb.atAlign = true := align
    have aligns : x.standbyAligns = { x with
        pa := x.pa.standby, pb := x.pb.serve
        cmp := x.cmp.notifyAll ((pathNotice .a x.pa x.pa.standby).toList ++ (pathNotice .b x.pb x.pb.serve).toList) } := by
      unfold Part.standbyAligns
      rw [any, align, Bool.or_true]
      have first : x.pb.standbyUsable = x.pb := if_neg (by rw [show x.pb.usable = false from unused]; nofun)
      have second : x.pa.standbyUsable = x.pa.standby := if_pos used
      have anchored := ({ x with pa := x.pa.standby, pb := x.pb } : Part).anchoring_at .b
        (by unfold Part.anyUsable; rw [show x.pb.usable = false from unused, show x.pa.standby.usable = false from fallen]; rfl)
        align still
      rw [first, second, anchored]
      show Part.notifyPath .b (Part.notifyPath .a _ x) x = _
      rw [Part.notifyPath_toList, Part.notifyPath_toList, Cmp.notifyAll_append]
      rfl
    obtain ⟨pa, pb, offline, told⟩ := x.pathsStandby_told _ _ _ _ _ desk link aligns rfl rfl rfl
    rw [show pathNotice .a x.pa x.pa.standby = _ from fell, show pathNotice .b x.pb x.pb.serve = _ from served_,
      show pathNotice .b x.pb.serve x.pb.serve.standby = _ from ended,
      show pathNotice .a x.pa.standby x.pa.standby.standby = _ from stayed] at told
    exact ⟨(congrArg PathCtl.state pb).trans end_, (congrArg PathCtl.cause pb).trans cause_, (congrArg PathCtl.state pa).trans dark', offline, told⟩

/-- Settles O17: by the report of IDENT's end, by the distance of a frame, and at STANDBY entry. -/
theorem alignStepCompletes : Obligations.AlignStepCompletes := by
  refine ⟨fun p s acquiring ident counted flags => ?_, fun p bits f s ready good full acquiring align => ?_,
    fun tag p s ready inv desk op align used => ?_⟩
  · have taken := s.part.takeIdent_quiet p acquiring ident counted flags
    refine ⟨next_part s taken, fun idle still => ⟨s.part.takeIdent p, rfl, ?_⟩⟩
    obtain ⟨path, anchor, link, ref, pointer⟩ := s.part.report_aligned p s.part acquiring idle still
    rw [taken, path]
    exact ⟨rfl, rfl, rfl, rfl, rfl, rfl, rfl, rfl, rfl, rfl, anchor, link, ref, pointer⟩
  · have taken := exec_frameReceived_good p bits f s ready good
    obtain ⟨near, far⟩ := s.part.goodFrame_align p f acquiring align full
    exact ⟨fun h => taken.trans (next_part s (near h)), fun h => taken.trans (next_part s (far h))⟩
  · have acted := exec_request_act tag (.setState 0) s ready ((s.part.refusal_setState 0).trans (if_pos (by decide)))
    have unused := PathCtl.align_unused _ align
    have ⟨_, exposed, _, _⟩ := inv
    have link : s.part.fmu.link = .exposed := exposed.mpr (by
      cases p
      · rw [show s.part.pa.usable = false from unused, show s.part.pb.usable = true from used]; nofun
      · rw [show s.part.pb.usable = false from unused, show s.part.pa.usable = true from used]; nofun)
    have entry : s.part.standbyEntry = (s.part.setOp .standby 0).pathsStandby := by
      unfold Part.standbyEntry
      rw [desk]
    refine ⟨(s.part.setOp .standby 0).pathsStandby, acted.trans (next_part s ?_), ?_⟩
    · exact (s.part.setState_operate tag op).trans (by rw [entry])
    · have entered := (s.part.setOp .standby 0).pathsStandby_align p desk link (by cases p <;> exact align)
        (by cases p <;> exact used)
      cases p <;> exact entered

end Sys2Proof.Machine
end

section
/-!
PROOFS. The restart handshake taken whole (R78 to R81, R183): both flags of a frame in service, and a far restart that IDENT hands over
before its step becomes ALIGN.
-/

namespace Sys2Proof.Machine

/-! ### The lane while a dump begins -/

/-- A source's echo is not produced while the dump's pointer stands among the channels. -/
theorem Part.echo_talk_dumping (s : Source) (n : Nat) (x : Part) (low : n < 64) (dump : x.ple.dump = .channel n) :
    x.echo (.talk (sourceNum s)) = x := by
  have behind : x.dumpPassed (.talk (sourceNum s)) = false := by
    unfold Part.dumpPassed
    rw [dump]
    show decide (83 + sourceNum s < 1 + n) = false
    exact decide_eq_false (by omega)
  unfold Part.echo
  rw [behind]
  rfl

theorem Part.talkLane_dumping (n : Nat) (x old : Part) (order : List Source) (low : n < 64) (dump : old.ple.dump = .channel n) :
    x.laneAfter old (x.talkEchoes old order) = old.ple := by
  unfold Part.talkEchoes
  generalize x.talkChanged old order = l
  induction l using List.reverseRecOn with
  | nil => rfl
  | append_singleton l s ih =>
    rw [List.map_append, Part.laneAfter_append, ih]
    exact (congrArg Part.ple (Part.echo_talk_dumping s n { x with ple := old.ple } low dump) :)

/-! ### A report that leaves the link up -/

/-- The arbiter, with the link up, gives FOH CUE or does nothing. -/
theorem Part.talkLink_up (old : LinkState) (x : Part) (up : x.fmu.link.up = true) :
    x.talkLink old = x ∨ ∃ m, Part.TalkEvent x (x.move 16 m) (x.talkLink old) .arbiter [.foh, .mon, .stg] := by
  have alive : x.fmu.link ≠ .severed := fun e => by rw [e] at up; cases up
  unfold Part.talkLink
  rw [if_neg alive]
  split
  · split
    · obtain ⟨m, moved⟩ := x.arbitrateFree_move 16
      have event := Part.published x (x.arbitrateFree 16) .arbiter none (by rw [moved]; exact x.move_sansTalk 16 m)
      rw [moved] at event ⊢
      exact .inr ⟨m, event⟩
    · exact .inl rfl
  · exact .inl rfl

/-- What a report leaves of a part whose link it leaves up, with nothing in flight and, at STAGE, a dump that begins. -/
structure Part.UpReport (x y : Part) : Prop where
  ple : y.ple = x.ple
  dsc : y.dsc = x.dsc
  mirror : y.mirror = x.mirror
  closed : ∀ s, x.session s = none → y.session s = none
  lock : x.dsc.role = .stage → y.fmu.ref.isSome = true → y.scu.lock = .locked

theorem Part.laneLink_still (old : LinkState) (x : Part) (up : x.fmu.link.up = true) (rest : x.ple.inFlight = 0) : x.laneLink old = x := by
  unfold Part.laneLink
  rw [if_pos up]
  exact if_neg (by simp [rest])

theorem Part.report_up (old x : Part) (up : (x.anchoring.1.fmuAfter x.anchoring.2).link.up = true) (rest : x.ple.inFlight = 0)
    (dumping : x.dsc.role = .stage → x.ple.dump = .channel 31) : Part.UpReport x (x.report old) := by
  obtain ⟨a, b, anchored⟩ : ∃ a b, x.anchoring.1 = { x with pa := a, pb := b } := by
    unfold Part.anchoring
    repeat' split
    all_goals exact ⟨_, _, rfl⟩
  rw [Part.report_eq]
  dsimp only
  generalize x.anchoring.2 = new at up ⊢
  rw [anchored] at up ⊢
  let w : Part := Part.reported old { x with pa := a, pb := b } new
  have up_w : w.fmu.link.up = true := up
  show Part.UpReport x (if _ then w.clockFollow.linkChanged _ else w.clockFollow)
  generalize ({ x with pa := a, pb := b } : Part).fmu.link = was
  obtain ⟨c, d, clock⟩ := w.clockFollow_eq
  have locks : w.dsc.role = .stage → w.fmu.ref.isSome = true → w.clockFollow.scu.lock = .locked := fun stage known => by
    obtain ⟨p, ref⟩ := Option.isSome_iff_exists.mp known
    rw [w.clockFollow_found p stage ref]
  have calm : Part.UpReport x w.clockFollow := by
    refine ⟨?_, ?_, ?_, fun s h => ?_, fun stage known => locks stage ?_⟩
    · rw [clock]; rfl
    · rw [clock]; rfl
    · rw [clock]; rfl
    · rw [clock]; exact h
    · rw [clock] at known; exact known
  split
  · have up_c : w.clockFollow.fmu.link.up = true := by rw [clock]; exact up_w
    generalize w.clockFollow = v at calm up_c ⊢
    have still (z : Part) (h : z.fmu.link = v.fmu.link) (h' : z.ple = x.ple) : z.laneLink was = z :=
      z.laneLink_still was (by rw [h]; exact up_c) (by rw [h']; exact rest)
    cases role : v.dsc.role with
    | desk =>
      rw [v.linkChanged_desk was role, still v rfl calm.ple, v.meterLink_up fun e => by rw [e] at up_c; cases up_c]
      exact calm
    | stage =>
      rw [v.linkChanged_stage was role]
      rcases v.talkLink_up was up_c with same | ⟨m, event⟩
      · rw [same, still v rfl calm.ple]
        exact calm
      · generalize v.talkLink was = y at event ⊢
        have dump : v.ple.dump = .channel 31 := by
          rw [calm.ple]
          exact dumping (by rw [← calm.dsc]; exact role)
        have ple : y.ple = v.ple := event.lane.trans (Part.talkLane_dumping 31 y v _ (by decide) dump)
        rw [still y (congrArg Fmu.link event.fmu) (ple.trans calm.ple)]
        refine ⟨ple.trans calm.ple, event.dsc.trans calm.dsc, ((congrArg Part.mirror event.rest :) : y.mirror = v.mirror).trans calm.mirror,
          fun s h => ?_, fun stage known => ?_⟩
        · rw [event.session]
          refine (congrArg SourceRec.session (v.move_source 16 m s)).trans ?_
          show (v.session s).map _ = none
          rw [calm.closed s h]
          rfl
        · have scu : y.scu = v.scu := (congrArg Part.scu event.rest :)
          rw [scu]
          exact calm.lock stage (by rw [← event.fmu]; exact known)
  · exact calm

/-! ### Both flags of a frame (R78, R81) -/

/-- An acknowledgement that this end waits for. -/
def Frame.acks (f : Frame) (x : Part) : Prop := f.restartAck = true ∧ x.dsc.restartFlag = true

/-- What an acknowledgement leaves, at either end. -/
theorem Part.restartAcked_keeps (x : Part) :
    x.restartAcked.dsc = { x.dsc with restartFlag := false, heldLink := none } ∧ (∀ k, x.restartAcked.path k = x.path k) ∧
    x.restartAcked.fmu = x.fmu ∧ x.restartAcked.chs = x.chs ∧ x.restartAcked.mirror = x.mirror ∧ x.restartAcked.tka = x.tka ∧
    x.restartAcked.mxe = x.mxe ∧
    x.restartAcked.cmp = { x.cmp with replies := x.cmp.replies ++ heldReplies x.dsc.heldLink .ok } ∧
    x.restartAcked.ple = match (generalizing := false) x.dsc.role with
      | .desk => x.ple.setTail
      | .stage => { x.ple.setTail with
          queue := x.dumpHead 31, marks := [], cursor := none, goBackDue := false, dump := .channel 31 } := by
  rw [Part.restartAcked_eq]
  cases x.dsc.role <;> exact ⟨rfl, fun _ => rfl, rfl, rfl, rfl, rfl, rfl, rfl, rfl⟩

theorem Part.serviceFlags_restart (f : Frame) (x : Part) (restart : f.restart = true) (calm : x.ple.episode = false) :
    (f.acks x → x.serviceFlags f = x.farRestart.restartAcked) ∧ (¬ f.acks x → x.serviceFlags f = x.farRestart) := by
  have flagged : x.serviceFlags f = if (f.restartAck && x.farRestart.dsc.restartFlag) = true then x.farRestart.restartAcked else x.farRestart := by
    unfold Part.serviceFlags Part.farFlag
    rw [restart]
    rfl
  rw [(x.farRestart_keeps calm).1] at flagged
  rw [flagged]
  exact ⟨fun h => if_pos (Bool.and_eq_true_iff.mpr h), fun h => if_neg fun e => h (Bool.and_eq_true_iff.mp e)⟩

/-- The lane after a restart, acknowledged or not in the same frame. -/
structure Part.RestartLane (x y : Part) : Prop where
  flags : y.ple.ackRaised = true ∧ y.ple.episode = true
  reset : y.ple.nextSeq = 0 ∧ y.ple.expSeq = 0 ∧ y.ple.cursor = none ∧ y.ple.resendTimer = 0 ∧ y.ple.asm = .idle ∧ y.ple.marks = []
  desk : x.dsc.role = .desk → y.ple.queue = []
  stage : x.dsc.role = .stage → y.ple.dump = .channel 31 ∧ y.ple.queue = x.dumpHead 31

theorem Part.farRestart_lane (x : Part) (calm : x.ple.episode = false) : x.RestartLane x.farRestart := by
  have ple := x.farRestart_ple calm
  cases role : x.dsc.role with
  | desk =>
    rw [role] at ple
    exact ⟨by rw [ple]; exact ⟨rfl, rfl⟩, by rw [ple]; exact ⟨rfl, rfl, rfl, rfl, rfl, rfl⟩, fun _ => by rw [ple]; rfl,
      fun h => (nomatch role.symm.trans h)⟩
  | stage =>
    rw [role] at ple
    exact ⟨by rw [ple]; exact ⟨rfl, rfl⟩, by rw [ple]; exact ⟨rfl, rfl, rfl, rfl, rfl, rfl⟩, fun h => (nomatch role.symm.trans h),
      fun _ => by rw [ple]; exact ⟨rfl, rfl⟩⟩

theorem Part.RestartLane.acked {x y : Part} (h : x.RestartLane y) (dsc : y.dsc = x.dsc) (chs : y.chs = x.chs) :
    x.RestartLane y.restartAcked := by
  obtain ⟨-, -, -, -, -, -, -, -, ple⟩ := y.restartAcked_keeps
  obtain ⟨⟨ack, episode⟩, ⟨next, exp, cursor, timer, asm, marks⟩, desk, stage⟩ := h
  rw [dsc] at ple
  have head : y.dumpHead 31 = x.dumpHead 31 := by
    unfold Part.dumpHead Part.channel
    rw [chs]
  cases role : x.dsc.role with
  | desk =>
    rw [role] at ple
    exact ⟨by rw [ple]; exact ⟨ack, episode⟩, by rw [ple]; exact ⟨next, exp, cursor, timer, asm, marks⟩,
      fun _ => by rw [ple]; exact desk role, fun h => (nomatch role.symm.trans h)⟩
  | stage =>
    rw [role] at ple
    exact ⟨by rw [ple]; exact ⟨ack, episode⟩, by rw [ple]; exact ⟨next, exp, rfl, timer, asm, rfl⟩,
      fun h => (nomatch role.symm.trans h), fun _ => by rw [ple]; exact ⟨rfl, head⟩⟩

/-- The replies of a part, given whole. -/
theorem Cmp.withReplies_self (c : Cmp) (rs : List Reply) (h : c.replies = rs) : c = { c with replies := rs ++ [] } := by
  subst h
  rw [List.append_nil]

/-- A far restart in a frame, this end's acknowledgement handled in the same frame or not. -/
structure Part.RestartTaken (x : Part) (acked : Prop) (y : Part) : Prop where
  lane : x.RestartLane y
  dsc : (acked → y.dsc = { x.dsc with restartFlag := false, heldLink := none }) ∧ (¬ acked → y.dsc = x.dsc)
  tail : (acked → y.ple.quietTail = 16) ∧ (¬ acked → y.ple.quietTail = x.ple.quietTail)
  path : ∀ k, y.path k = x.path k
  fmu : y.fmu = x.fmu
  chs : y.chs = x.chs
  mirror : y.mirror = x.farRestart.mirror
  tka : y.tka = x.farRestart.tka
  mxe : y.mxe = x.farRestart.mxe
  cmp : (acked → y.cmp = { x.farRestart.cmp with replies := x.cmp.replies ++ heldReplies x.dsc.heldLink .ok }) ∧
    (¬ acked → y.cmp = { x.farRestart.cmp with replies := x.cmp.replies ++ [] })

theorem Part.serviceFlags_taken (f : Frame) (x : Part) (restart : f.restart = true) (calm : x.ple.episode = false) :
    x.RestartTaken (f.acks x) (x.serviceFlags f) := by
  obtain ⟨acks, plain⟩ := x.serviceFlags_restart f restart calm
  obtain ⟨dsc, path, fmu, chs, -, -, replies⟩ := x.farRestart_keeps calm
  have lane := x.farRestart_lane calm
  have tail : x.farRestart.ple.quietTail = x.ple.quietTail := by
    rw [x.farRestart_ple calm]
    cases x.dsc.role <;> rfl
  by_cases acked : f.acks x
  · rw [acks acked]
    obtain ⟨dsc', path', fmu', chs', mirror', tka', mxe', cmp', ple'⟩ := x.farRestart.restartAcked_keeps
    rw [dsc, replies] at cmp'
    rw [dsc] at dsc'
    refine ⟨lane.acked dsc chs, ⟨fun _ => dsc', fun h => absurd acked h⟩, ⟨fun _ => ?_, fun h => absurd acked h⟩,
      fun k => (path' k).trans (path k), fmu'.trans fmu, chs'.trans chs, mirror', tka', mxe', ⟨fun _ => cmp', fun h => absurd acked h⟩⟩
    rw [ple']
    cases x.farRestart.dsc.role <;> rfl
  · rw [plain acked]
    exact ⟨lane, ⟨fun h => absurd h acked, fun _ => dsc⟩, ⟨fun h => absurd h acked, fun _ => tail⟩, path, fmu, chs, rfl, rfl, rfl,
      ⟨fun h => absurd h acked, fun _ => Cmp.withReplies_self _ _ replies⟩⟩

/-- The mirror and the notices after a restart at DESK. -/
theorem Part.farRestart_told (x : Part) (calm : x.ple.episode = false) (desk : x.dsc.role = .desk) :
    x.farRestart.mirror = { Mirror.powerOn with state := .invalid } ∧ x.farRestart.tka = x.tka ∧
    x.farRestart.cmp = (if x.mirror.state = .invalid then x.cmp else x.cmp.notify (.mirrorState .invalid x.mirror.state)).notify
      (.laneReset .farRestart x.ple.queue.length) := by
  rw [x.farRestart_desk calm desk]
  exact ⟨rfl, rfl, rfl⟩

/-- A part whose tables of talk are the same tells the same. -/
theorem Part.talkTold_same (y w old : Part) (cause : TalkCause) (order : List Source) (tka : y.tka = w.tka) :
    y.talkTold old cause order = w.talkTold old cause order := by
  unfold Part.talkTold Part.talkChanged Part.session
  rw [tka]

/-! ### A far restart at IDENT (R183) -/

theorem Part.LinkInv.down {x : Part} (inv : x.LinkInv) (idle : x.anyUsable = false) : x.fmu.link.up = false := by
  have ⟨protect, exposed, _, _⟩ := inv
  have unused : x.pa.usable = false ∧ x.pb.usable = false := by
    unfold Part.anyUsable at idle
    simpa using idle
  rw [unused.1, unused.2] at protect exposed
  unfold LinkState.up
  simp [protect, exposed]

/-- The link is up once anchoring found a path to serve or one was usable. -/
theorem Part.anchoring_up (p : Path) (x : Part) (h : x.anyUsable = true ∨ (x.path p).atAlign = true) :
    (x.anchoring.1.fmuAfter x.anchoring.2).link.up = true := by
  show (linkOf _ _ _).up = true
  rw [(linkOf_spec _ _ _).2.2]
  show x.anchoring.1.anyUsable = true
  unfold Part.anchoring
  by_cases used : x.anyUsable = true
  · rw [if_pos used]
    exact used
  · rw [if_neg used]
    have align := h.resolve_left used
    by_cases first : x.pa.atAlign = true
    · rw [if_pos first]
      rfl
    · rw [if_neg first]
      cases p with
      | a => exact absurd align first
      | b =>
        have second : x.pb.atAlign = true := align
        rw [if_pos second]
        exact Bool.or_true _

/-- IDENT's end with the far restart flag raised, outside an episode: the restart first, then the step. -/
theorem Part.takeIdent_restart (p : Path) (ack : Bool) (x : Part) (acquiring : (x.path p).state = .acquiring)
    (ident : (x.path p).step = .ident) (counted : 8 ≤ (x.path p).count) (flags : (x.path p).identFlags = some (true, ack)) :
    x.takeIdent p = (x.farRestart.onPath p PathCtl.align).report x.farRestart := by
  unfold Part.takeIdent
  rw [if_pos ⟨acquiring, ident, counted⟩]
  dsimp only
  rw [flags]
  rfl

theorem Part.dumpHead_inFlight (x : Part) (k : Nat) : (x.dumpHead k).filter (fun r => r.seq.isSome) = [] := by
  unfold Part.dumpHead
  simp

theorem Part.RestartLane.inFlight {x y : Part} (h : x.RestartLane y) : y.ple.inFlight = 0 := by
  unfold Ple.inFlight
  cases role : x.dsc.role with
  | desk => rw [h.desk role]; rfl
  | stage =>
    rw [(h.stage role).2]
    exact congrArg List.length (x.dumpHead_inFlight 31)

theorem Part.onPath_keeps (p : Path) (f : PathCtl → PathCtl) (x : Part) :
    (x.onPath p f).ple = x.ple ∧ (x.onPath p f).dsc = x.dsc ∧ (x.onPath p f).fmu = x.fmu ∧ (x.onPath p f).mirror = x.mirror ∧
    (x.onPath p f).cmp = x.cmp ∧ (x.onPath p f).path p = f (x.path p) ∧ (x.onPath p f).path (otherPath p) = x.path (otherPath p) := by
  cases p <;> exact ⟨rfl, rfl, rfl, rfl, rfl, rfl, rfl⟩

/-! ### The obligation -/

/-- A frame with the far restart flag outside an episode, from a part `x` whose silence timer is back at 0. -/
theorem Part.restart_frame (f : Frame) (x : Part) (restart : f.restart = true) (calm : x.ple.episode = false) :
    let acked := f.restartAck = true ∧ x.dsc.restartFlag = true
    let held : List Reply := match x.dsc.heldLink with
      | some tag => if acked then [⟨tag, .ok, .none⟩] else []
      | none => []
    let y := x.serviceFlags f
    y.dsc = (if acked then { x.dsc with restartFlag := false, heldLink := none } else x.dsc) ∧
    (∀ k, y.path k = x.path k) ∧ y.fmu = x.fmu ∧ y.chs = x.chs ∧
    y.ple.ackRaised = true ∧ y.ple.episode = true ∧ y.ple.nextSeq = 0 ∧ y.ple.expSeq = 0 ∧ y.ple.cursor = none ∧
    y.ple.resendTimer = 0 ∧ y.ple.asm = .idle ∧ y.ple.marks = [] ∧
    y.ple.quietTail = (if acked then 16 else x.ple.quietTail) ∧
    (x.dsc.role = .desk →
      y.ple.queue = [] ∧ y.mirror = { Mirror.powerOn with state := .invalid } ∧ y.tka = x.tka ∧
      y.cmp = (let c := if x.mirror.state = .invalid then x.cmp else x.cmp.notify (.mirrorState .invalid x.mirror.state)
               { c.notify (.laneReset .farRestart x.ple.queue.length) with replies := x.cmp.replies ++ held })) ∧
    (x.dsc.role = .stage →
      y.session .foh = none ∧ (x.session .foh = none → y.tka = x.tka) ∧
      (x.TalkInv →
        (∀ z, x.session .foh = some z →
          y.tka.foh = ⟨none, (x.tka.foh.version + 1) % 65536, .link⟩ ∧
          ∀ d, d < 17 → y.dest d = if z.granted.testBit d = true then ⟨.fading, some .foh, false⟩ else x.dest d) ∧
        (∀ src, src ≠ .foh → y.tka.source src = x.tka.source src) ∧
        (∀ d, d < 17 → y.dest d ≠ x.dest d → y.TargetsFollow d) ∧
        y.cmp = { (y.talkTold x .link [.foh]).notify (.laneReset .farRestart x.ple.queue.length) with
          replies := x.cmp.replies ++ held }) ∧
      y.ple.dump = .channel 31 ∧ y.ple.queue = x.dumpHead 31) := by
  intro acked held y
  have taken : x.RestartTaken acked y := x.serviceFlags_taken f restart calm
  clear_value y
  obtain ⟨⟨ack, episode⟩, ⟨next, exp, cursor, timer, asm, marks⟩, desk, stage⟩ := taken.lane
  have cmp : y.cmp = { x.farRestart.cmp with replies := x.cmp.replies ++ held } := by
    by_cases h : acked
    · rw [taken.cmp.1 h]
      refine congrArg (fun l => { x.farRestart.cmp with replies := x.cmp.replies ++ l }) ?_
      show heldReplies x.dsc.heldLink .ok = held
      unfold heldReplies
      show _ = (match x.dsc.heldLink with
        | some tag => if acked then [⟨tag, .ok, .none⟩] else []
        | none => [] : List Reply)
      cases x.dsc.heldLink with
      | none => rfl
      | some tag => exact (if_pos h).symm
    · rw [taken.cmp.2 h]
      refine congrArg (fun l => { x.farRestart.cmp with replies := x.cmp.replies ++ l }) ?_
      show [] = (match x.dsc.heldLink with
        | some tag => if acked then [⟨tag, .ok, .none⟩] else []
        | none => [] : List Reply)
      cases x.dsc.heldLink with
      | none => rfl
      | some tag => exact (if_neg h).symm
  refine ⟨?_, taken.path, taken.fmu, taken.chs, ack, episode, next, exp, cursor, timer, asm, marks, ?_, fun role => ?_, fun role => ?_⟩
  · by_cases h : acked
    · rw [taken.dsc.1 h]; exact (if_pos h).symm
    · rw [taken.dsc.2 h]; exact (if_neg h).symm
  · by_cases h : acked
    · rw [taken.tail.1 h]; exact (if_pos h).symm
    · rw [taken.tail.2 h]; exact (if_neg h).symm
  · obtain ⟨mirror, tka, told⟩ := x.farRestart_told calm role
    exact ⟨desk role, taken.mirror.trans mirror, taken.tka.trans tka, by rw [cmp, told]⟩
  · obtain ⟨closed, none_, rest⟩ := x.farRestart_talk calm role
    have dest (d : Nat) : y.dest d = x.farRestart.dest d := congrArg (fun t : Tka => t.dests.getD d Dest.powerOn) taken.tka
    have session : y.session .foh = x.farRestart.session .foh := congrArg (fun t : Tka => t.foh.session) taken.tka
    refine ⟨session.trans closed, fun h => taken.tka.trans (none_ h), fun inv => ?_, stage role⟩
    obtain ⟨foh, others, targets, told⟩ := rest inv
    refine ⟨fun z opened => ?_, fun src ne => ?_, fun d lt differs => ?_, ?_⟩
    · obtain ⟨record, dests⟩ := foh z opened
      exact ⟨by rw [taken.tka, record], fun d lt => (dest d).trans (dests d lt)⟩
    · rw [taken.tka]; exact others src ne
    · rw [dest] at differs
      refine (Part.targetsFollow_congr _ _ _ ?_ (fun _ => ?_) (fun _ => ?_) ?_).mpr (targets d lt differs)
      · rw [dest]
      · exact congrArg (fun m : Mxe => m.mixes.getD d Mix.powerOn) taken.mxe
      · rw [taken.tka]
      · rw [taken.tka]
    · rw [cmp, told, Part.talkTold_same y x.farRestart x .link [.foh] taken.tka]

/-- A frame in service whose flags begin no restart. -/
theorem Part.serviceFlags_heard (f : Frame) (x : Part) (known : f.restart = false ∨ x.ple.episode = true) :
    (¬ f.acks x → x.serviceFlags f = { x with ple := x.ple.heard f.restart }) ∧
    (f.acks x → x.serviceFlags f = ({ x with ple := x.ple.heard f.restart } : Part).restartAcked) := by
  have flagged : x.serviceFlags f = if (f.restartAck && x.dsc.restartFlag) = true then
      ({ x with ple := x.ple.heard f.restart } : Part).restartAcked else { x with ple := x.ple.heard f.restart } := by
    unfold Part.serviceFlags
    rw [x.farFlag_heard f.restart known]
  rw [flagged]
  exact ⟨fun h => if_neg fun e => h (Bool.and_eq_true_iff.mp e), fun h => if_pos (Bool.and_eq_true_iff.mpr h)⟩

/-- The same by the acknowledgement and the role. -/
theorem Part.serviceFlags_lowered (f : Frame) (x : Part) (known : f.restart = false ∨ x.ple.episode = true) :
    let y : Part := { x with ple := x.ple.heard f.restart }
    (¬ f.acks x → x.serviceFlags f = y) ∧
    (f.acks x → x.dsc.role = .desk → x.serviceFlags f = y.ackedPart) ∧
    (f.acks x → x.dsc.role = .stage → x.serviceFlags f = { y.ackedPart with ple := { y.ple.setTail with
      queue := x.dumpHead 31, marks := [], cursor := none, goBackDue := false, dump := .channel 31 } }) := by
  obtain ⟨plain, acked⟩ := x.serviceFlags_heard f known
  refine ⟨plain, fun h desk => (acked h).trans ((Part.restartAcked_eq _).trans ?_), fun h stage =>
    (acked h).trans ((Part.restartAcked_eq _).trans ?_)⟩
  · show (match x.dsc.role with | .desk => _ | .stage => _ : Part) = _
    rw [desk]
  · show (match x.dsc.role with | .desk => _ | .stage => _ : Part) = _
    rw [stage]
    rfl

/-- A far restart that IDENT hands over, whole. -/
structure Part.IdentRestart (p : Path) (x y : Part) : Prop where
  lane : x.RestartLane y
  dsc : y.dsc = x.dsc
  going : x.anyUsable = true → (y.path p).state = .acquiring ∧ (y.path p).step = .align ∧ (y.path p).count = 0
  mirror : x.dsc.role = .desk → y.mirror = { Mirror.powerOn with state := .invalid }
  told : x.dsc.role = .desk → x.anyUsable = false → (x.path (otherPath p)).atAlign = false →
    y.cmp = ((if x.mirror.state = .invalid then [] else [Notice.mirrorState .invalid x.mirror.state]) ++
      [Notice.laneReset .farRestart x.ple.queue.length] ++ returnNotices p x.fmu.link).foldl (fun c n => c.notify n) x.cmp
  closed : x.dsc.role = .stage → y.session .foh = none
  locked : x.dsc.role = .stage → x.anyUsable = false → (x.path (otherPath p)).atAlign = false → y.scu.lock = .locked
  served : x.anyUsable = false → (x.path (otherPath p)).atAlign = false →
    (y.path p).state = .inService ∧ y.fmu.anchor = some p ∧ y.fmu.link = .exposed ∧ y.fmu.ref = some p

theorem Part.takeIdent_restarted (p : Path) (ack : Bool) (x : Part) (inv : x.LinkInv) (acquiring : (x.path p).state = .acquiring)
    (ident : (x.path p).step = .ident) (counted : 8 ≤ (x.path p).count) (flags : (x.path p).identFlags = some (true, ack))
    (calm : x.ple.episode = false) : Part.IdentRestart p x (x.takeIdent p) := by
  rw [x.takeIdent_restart p ack acquiring ident counted flags]
  obtain ⟨dsc, path, fmu, -, -, -, -⟩ := x.farRestart_keeps calm
  have lane := x.farRestart_lane calm
  have mirrored (desk : x.dsc.role = .desk) := x.farRestart_told calm desk
  have talk (stage : x.dsc.role = .stage) := (x.farRestart_talk calm stage).1
  generalize x.farRestart = w at dsc path fmu lane mirrored talk ⊢
  obtain ⟨ple, dsc', fmu', mirror', cmp', own, other⟩ := w.onPath_keeps p PathCtl.align
  have acquiring' : (w.path p).state = .acquiring := by rw [path]; exact acquiring
  have used : w.anyUsable = x.anyUsable := by
    unfold Part.anyUsable
    rw [show w.pa = x.pa from path .a, show w.pb = x.pb from path .b]
  have same : (w.onPath p PathCtl.align).anyUsable = w.anyUsable := by cases p <;> rfl
  have aligned : ((w.onPath p PathCtl.align).path p).atAlign = true := by rw [own]; exact PathCtl.align_atAlign _ acquiring'
  have up := Part.report_up w (w.onPath p PathCtl.align) (Part.anchoring_up p _ (.inr aligned)) (by rw [ple]; exact lane.inFlight)
    fun stage => by
      rw [dsc', dsc] at stage
      rw [ple]
      exact (lane.stage stage).1
  have served (idle : x.anyUsable = false) (still : (x.path (otherPath p)).atAlign = false) :=
    Part.report_aligned p w w acquiring' (used.trans idle) (by rw [path]; exact still)
  have ended : ((w.onPath p PathCtl.align).report w).ple = w.ple := up.ple.trans ple
  refine ⟨⟨?_, ?_, fun desk => ?_, fun stage => ?_⟩, up.dsc.trans (dsc'.trans dsc), fun any => ?_, fun desk => ?_, fun desk idle still => ?_,
    fun stage => ?_, fun stage idle still => ?_, fun idle still => ?_⟩
  · rw [ended]; exact lane.flags
  · rw [ended]; exact lane.reset
  · rw [ended]; exact lane.desk desk
  · rw [ended]; exact lane.stage stage
  · rw [Part.report_path, Part.anchoring_idle _ (.inl (same.trans (used.trans any))), own]
    exact ⟨acquiring', rfl, rfl⟩
  · exact up.mirror.trans (mirror'.trans (mirrored desk).1)
  · have down : (w.onPath p PathCtl.align).fmu.link.up = false := by rw [fmu', fmu]; exact inv.down idle
    obtain ⟨a, b, f, exposed, -, -, -, reported⟩ := Part.report_served p w (w.onPath p PathCtl.align) down
      (same.trans (used.trans idle)) aligned (by rw [other, path]; exact still) acquiring' other.symm
    rw [reported, Part.deskBack _ a b f _ _ (by rw [dsc', dsc]; exact desk) exposed down]
    show (w.onPath p PathCtl.align).cmp.notifyAll _ = Cmp.notifyAll _ x.cmp
    rw [cmp', (mirrored desk).2.2, fmu', fmu, Cmp.notifyAll_append, Cmp.notifyAll_append]
    refine congrArg (fun c : Cmp => Cmp.notifyAll _ (Cmp.notify _ c)) ?_
    split <;> rfl
  · exact up.closed .foh (by
      have session : (w.onPath p PathCtl.align).session .foh = w.session .foh := by cases p <;> rfl
      exact session.trans (talk stage))
  · obtain ⟨-, -, -, ref, -⟩ := served idle still
    exact up.lock (by rw [dsc', dsc]; exact stage) (by rw [ref]; rfl)
  · obtain ⟨at_, anchor, link, ref, -⟩ := served idle still
    exact ⟨by rw [at_]; rfl, anchor, link, ref⟩

/-- Settles O16: the flags of a frame in service, with and without a restart, and a restart at IDENT. -/
theorem restartHandshake : Obligations.RestartHandshake := by
  refine ⟨fun p bits f s ready good far serving restart calm => ?_, fun p ack s inv acquiring ident counted flags calm => ?_,
    fun p bits f s ready good far serving known => ?_⟩
  · have taken := (exec_frameReceived_good p bits f s ready good).trans (next_part s (s.part.goodFrame_serving p f serving far))
    cases p with
    | a =>
      let x : Part := { s.part with pa := { s.part.pa with silenceTimer := 0 } }
      obtain ⟨dsc, path, rest⟩ := x.restart_frame f restart calm
      exact ⟨x.serviceFlags f, taken, dsc, fun k => (path k).trans (by cases k <;> rfl), rest⟩
    | b =>
      let x : Part := { s.part with pb := { s.part.pb with silenceTimer := 0 } }
      obtain ⟨dsc, path, rest⟩ := x.restart_frame f restart calm
      exact ⟨x.serviceFlags f, taken, dsc, fun k => (path k).trans (by cases k <;> rfl), rest⟩
  · have taken := s.part.takeIdent_restarted p ack inv acquiring ident counted flags calm
    obtain ⟨⟨up, episode⟩, ⟨next, exp, cursor, timer, asm, marks⟩, desk, stage⟩ := taken.lane
    exact ⟨s.part.takeIdent p, rfl, up, episode, next, exp, cursor, timer, asm, marks, taken.dsc, taken.going,
      fun role => ⟨desk role, taken.mirror role, fun idle still => (taken.told role idle still).trans (by rw [List.append_assoc]; rfl)⟩,
      fun role => ⟨taken.closed role, (stage role).1, (stage role).2, taken.locked role⟩, taken.served⟩
  · have taken := (exec_frameReceived_good p bits f s ready good).trans (next_part s (s.part.goodFrame_serving p f serving far))
    have arrived {y z : Part} (h : y = z) : (if f.idle = true then y else (y.arrive p f).2) = if f.idle = true then z else (z.arrive p f).2 := by
      rw [h]
    cases p with
    | a =>
      obtain ⟨plain, desk_, stage_⟩ := Part.serviceFlags_lowered f { s.part with pa := { s.part.pa with silenceTimer := 0 } } known
      exact ⟨fun h => taken.trans (next_part s (arrived (plain h))), fun h desk => taken.trans (next_part s (arrived (desk_ h desk))),
        fun h stage => taken.trans (next_part s (arrived (stage_ h stage)))⟩
    | b =>
      obtain ⟨plain, desk_, stage_⟩ := Part.serviceFlags_lowered f { s.part with pb := { s.part.pb with silenceTimer := 0 } } known
      exact ⟨fun h => taken.trans (next_part s (arrived (plain h))), fun h desk => taken.trans (next_part s (arrived (desk_ h desk))),
        fun h stage => taken.trans (next_part s (arrived (stage_ h stage)))⟩

end Sys2Proof.Machine
end

section
/-!
PROOFS. Walks over the channels (R91, R101, R102): what a step on each channel of a list leaves of the store, and the OPERATE entry of the
channels with the six that rise and the others that wait.
-/

namespace Sys2Proof.Machine

/-! ### A walk over channels -/

theorem updAt_congr {α : Type} (i : Nat) (f g : α → α) (d : α) (l : List α) (inside : i < l.length)
    (same : f (l.getD i d) = g (l.getD i d)) : updAt i f l = updAt i g l := by
  rw [updAt_eq_set i f d l inside, updAt_eq_set i g d l inside, same]

/-- A walk that changes each channel of a list by itself, and of the rest the preamp records alone. -/
theorem foldl_channels (step : Part → Nat → Part) (g : Channel → Channel) (x : Part) (l : List Nat) (once : l.Nodup)
    (inside : ∀ n ∈ l, n < x.chs.channels.length)
    (h : ∀ y n, n < y.chs.channels.length → y.dsc = x.dsc →
      ∃ a, step y n = { y with chs := { y.chs with channels := updAt n g y.chs.channels }, api := a }) :
    ∃ C a, l.foldl step x = { x with chs := { x.chs with channels := C }, api := a } ∧ C.length = x.chs.channels.length ∧
      ∀ k, (l.foldl step x).channel k = if k ∈ l then g (x.channel k) else x.channel k := by
  induction l using List.reverseRecOn with
  | nil => exact ⟨x.chs.channels, x.api, rfl, rfl, fun k => by simp⟩
  | append_singleton l n ih =>
    obtain ⟨before, -, apart⟩ := List.nodup_append.mp once
    have out : n ∉ l := fun h => apart n h n (by simp) rfl
    obtain ⟨C, a, walked, length, channel⟩ := ih before fun k hk => inside k (by simp [hk])
    rw [List.foldl_append, List.foldl_cons, List.foldl_nil]
    generalize l.foldl step x = y at walked channel ⊢
    have size : y.chs.channels.length = x.chs.channels.length := by rw [walked]; exact length
    have lt : n < y.chs.channels.length := by rw [size]; exact inside n (by simp)
    obtain ⟨b, stepped⟩ := h y n lt (by rw [walked])
    refine ⟨updAt n g y.chs.channels, b, ?_, by rw [updAt_length, size], fun k => ?_⟩
    · rw [stepped, walked]
    · rw [Part.channel_updAt y g n k lt _ (congrArg (fun p => p.chs.channels) stepped), channel, channel]
      by_cases e : k = n
      · subst e
        simp [out]
      · simp [e]

theorem channelNums_nodup : channelNums.Nodup := List.nodup_range

theorem mem_channelNums (n : Nat) : n ∈ channelNums ↔ n < 64 := List.mem_range

/-- A channel with its conditioning target evaluated. -/
def Channel.condEval (op : OpState) (c : Channel) : Channel := { c with ramp := c.ramp.retarget (condTarget op c) }

/-- Conditioning targets evaluated, over a list of channels. -/
theorem foldl_evalCond (x : Part) (l : List Nat) (once : l.Nodup) (inside : ∀ n ∈ l, n < x.chs.channels.length) :
    ∃ C, l.foldl (fun w n => Part.evalCond n w) x = { x with chs := { x.chs with channels := C } } ∧
      C.length = x.chs.channels.length ∧
      ∀ k, (l.foldl (fun w n => Part.evalCond n w) x).channel k =
        if k ∈ l then (x.channel k).condEval x.dsc.opState else x.channel k := by
  have api : (l.foldl (fun w n => Part.evalCond n w) x).api = x.api := foldl_keeps Part.api (fun w n => Part.evalCond n w) (fun _ _ => rfl) l x
  obtain ⟨C, a, walked, length, channel⟩ := foldl_channels (fun w n => Part.evalCond n w) (Channel.condEval x.dsc.opState) x l
    once inside fun y n _ dsc => ⟨y.api, by
      unfold Part.evalCond Part.onChannel
      rw [dsc]
      rfl⟩
  refine ⟨C, ?_, length, channel⟩
  rw [walked] at api ⊢
  exact congrArg (fun b => { x with chs := { x.chs with channels := C }, api := b }) api

/-- Every conditioning target evaluated. -/
theorem Part.condAll (x : Part) (size : x.chs.channels.length = 64) :
    ∃ C, channelNums.foldl (fun w n => Part.evalCond n w) x = { x with chs := { x.chs with channels := C } } ∧ C.length = 64 ∧
      ∀ k, k < 64 → (channelNums.foldl (fun w n => Part.evalCond n w) x).channel k = (x.channel k).condEval x.dsc.opState := by
  have mem := mem_channelNums
  have once := channelNums_nodup
  generalize channelNums = l at mem once ⊢
  obtain ⟨C, walked, length, channel⟩ := foldl_evalCond x l once fun n h => by rw [size]; exact (mem n).mp h
  exact ⟨C, walked, length.trans size, fun k lt => (channel k).trans (if_pos ((mem k).mpr lt))⟩

/-! ### The offers of OPERATE entry (R94, R102) -/

/-- The channels below `k` to be offered, in order. -/
def Part.offered (x : Part) (k : Nat) : List Nat :=
  (List.range k).filter fun n => (x.channel n).request && ((x.channel n).phantom == .off)

theorem Part.offered_succ (x : Part) (k : Nat) : x.offered (k + 1) =
    x.offered k ++ (if (x.channel k).request = true ∧ (x.channel k).phantom = .off then [k] else []) := by
  unfold Part.offered
  rw [List.range_succ, List.filter_append]
  congr 1
  by_cases h : (x.channel k).request = true ∧ (x.channel k).phantom = .off
  · rw [if_pos h]
    simp [h.1, h.2]
  · rw [if_neg h]
    refine List.filter_eq_nil_iff.mpr fun n hn => ?_
    rw [List.mem_singleton.mp hn]
    simpa using h

theorem Part.lt_of_mem_offered {x : Part} {k n : Nat} (h : n ∈ x.offered k) : n < k :=
  List.mem_range.mp (List.mem_filter.mp h).1

/-- A channel as the offers leave it: one of the first six offered rises, any later one waits. -/
def Channel.offer (op : OpState) (l : List Nat) (n : Nat) (c : Channel) : Channel :=
  if n ∈ l.take 6 then c.enter op .rising 12000 else if n ∈ l then c.enter op .queued 0 else c

/-- One step of the offers. -/
def Part.offerOne (w : Part) (n : Nat) : Part :=
  if (w.channel n).request = true ∧ (w.channel n).phantom = .off then w.offerPhantom n else w

/-- A part without the channels, their queue and the preamp records. -/
def Part.sansPhantoms (x : Part) : Part := { x with chs := { x.chs with channels := [], phantomQueue := [] }, api := default }

/-- A part after the first `k` channels were offered. -/
structure Part.Offered (x : Part) (k : Nat) (y : Part) : Prop where
  rest : y.sansPhantoms = x.sansPhantoms
  queue : y.chs.phantomQueue = (x.offered k).drop 6
  size : y.chs.channels.length = 64
  rising : y.rising = min 6 (x.offered k).length
  channel : ∀ n, y.channel n = (x.channel n).offer x.dsc.opState (x.offered k) n

/-- The first six of a list and the others, with one more at the end. -/
theorem take_drop_concat (l : List Nat) (k : Nat) :
    (l ++ [k]).take 6 = (if l.length < 6 then l.take 6 ++ [k] else l.take 6) ∧
    (l ++ [k]).drop 6 = (if l.length < 6 then l.drop 6 else l.drop 6 ++ [k]) := by
  rw [List.take_append, List.drop_append]
  by_cases few : l.length < 6
  · obtain ⟨m, hm⟩ : ∃ m, 6 - l.length = m + 1 := ⟨5 - l.length, by omega⟩
    rw [if_pos few, if_pos few, hm]
    simp
  · have none_ : 6 - l.length = 0 := by omega
    rw [if_neg few, if_neg few, none_]
    simp

/-- One more channel set RISING. -/
theorem count_set_eq {α : Type} [DecidableEq α] (a : α) (l : List α) (n : Nat) (inside : n < l.length) (out : l[n]? ≠ some a) :
    (l.set n a).count a = l.count a + 1 := by
  have at_ : ¬ l[n] = a := fun e => out (by rw [List.getElem?_eq_getElem inside, e])
  rw [List.count_set inside]
  simp [at_]

theorem Part.Offered.step {x y : Part} {k : Nat} (h : x.Offered k y) (lt : k < 64) : x.Offered (k + 1) (y.offerOne k) := by
  have fresh : k ∉ x.offered k := fun m => Nat.lt_irrefl _ (Part.lt_of_mem_offered m)
  have own : y.channel k = x.channel k := by
    rw [h.channel]
    unfold Channel.offer
    rw [if_neg fun m => fresh (List.mem_of_mem_take m), if_neg fresh]
  have inside : k < y.chs.channels.length := by rw [h.size]; exact lt
  have op : y.dsc.opState = x.dsc.opState := (congrArg (fun p : Part => p.dsc.opState) h.rest :)
  have grown := x.offered_succ k
  unfold Part.offerOne
  rw [own]
  by_cases due : (x.channel k).request = true ∧ (x.channel k).phantom = .off
  · rw [if_pos due] at grown ⊢
    obtain ⟨first, later⟩ := take_drop_concat (x.offered k) k
    rw [← grown] at first later
    have offers := y.offerPhantom_eq k inside (by rw [own, due.2]; rfl)
    rw [op, h.rising] at offers
    have others (n : Nat) (ne : n ≠ k) : (x.channel n).offer x.dsc.opState (x.offered (k + 1)) n = y.channel n := by
      have same : n ∈ (x.offered (k + 1)).take 6 ↔ n ∈ (x.offered k).take 6 := by
        rw [first]
        split <;> simp [ne]
      have same' : n ∈ x.offered (k + 1) ↔ n ∈ x.offered k := by rw [grown]; simp [ne]
      rw [h.channel]
      unfold Channel.offer
      simp only [same, same']
    by_cases few : (x.offered k).length < 6
    · rw [if_pos few] at first later
      rw [if_pos (by omega)] at offers
      have channel (n : Nat) := Part.channel_updAt y (Channel.enter x.dsc.opState .rising 12000) k n inside (y.offerPhantom k)
        (congrArg (fun p => p.chs.channels) offers)
      refine ⟨?_, ?_, by rw [offers]; simp [h.size], ?_, fun n => ?_⟩
      · rw [← h.rest, offers]
        rfl
      · rw [offers, later, ← h.queue]
      · have view : (y.offerPhantom k).phantomView = (y.phantomView.1.set k .rising, y.phantomView.2) := by
          unfold Part.offerPhantom Part.startRise
          rw [if_pos (by rw [h.rising]; omega)]
          exact Part.setPhantom_phantom ..
        have off : y.phantomView.1[k]? ≠ some .rising := fun e => by
          have := ((y.phantomView_get k .rising).mp e).2
          rw [own, due.2] at this
          cases this
        rw [Part.rising_eq, view, count_set_eq _ _ _ (by simpa [Part.phantomView] using inside) off, ← Part.rising_eq, h.rising, grown,
          List.length_append]
        simp only [List.length_singleton]
        omega
      · rw [channel]
        by_cases e : n = k
        · subst e
          rw [if_pos rfl, own]
          unfold Channel.offer
          rw [if_pos (by rw [first]; simp)]
        · rw [if_neg e, others n e]
    · rw [if_neg few] at first later
      rw [if_neg (by omega)] at offers
      have channel (n : Nat) := Part.channel_updAt y (Channel.enter x.dsc.opState .queued 0) k n inside (y.offerPhantom k)
        (congrArg (fun p => p.chs.channels) offers)
      refine ⟨?_, ?_, by rw [offers]; simp [h.size], ?_, fun n => ?_⟩
      · rw [← h.rest, offers]
        rfl
      · rw [offers, later, ← h.queue]
      · have view : (y.offerPhantom k).phantomView.1 = y.phantomView.1.set k .queued := by
          unfold Part.offerPhantom
          rw [if_neg (by rw [h.rising]; omega)]
          exact congrArg Prod.fst (Part.setPhantom_phantom k .queued 0 _)
        have off : y.phantomView.1[k]? ≠ some .rising := fun e => by
          have := ((y.phantomView_get k .rising).mp e).2
          rw [own, due.2] at this
          cases this
        rw [Part.rising_eq, view, count_set_ne _ _ (by decide), if_neg off, Nat.sub_zero, ← Part.rising_eq, h.rising, grown,
          List.length_append]
        simp only [List.length_singleton]
        omega
      · rw [channel]
        by_cases e : n = k
        · subst e
          rw [if_pos rfl, own]
          unfold Channel.offer
          rw [if_neg (by rw [first]; exact fun m => fresh (List.mem_of_mem_take m)), if_pos (by rw [grown]; simp)]
        · rw [if_neg e, others n e]
  · rw [if_neg due, List.append_nil] at grown
    rw [if_neg due]
    refine ⟨h.rest, ?_, h.size, ?_, ?_⟩
    · rw [grown]; exact h.queue
    · rw [grown]; exact h.rising
    · rw [grown]; exact h.channel

/-- The offers, over the first `k` channels. -/
theorem Part.offered_walk (x : Part) (k : Nat) (le : k ≤ 64) (size : x.chs.channels.length = 64) (calm : x.rising = 0)
    (empty : x.chs.phantomQueue = []) : x.Offered k ((List.range k).foldl Part.offerOne x) := by
  induction k with
  | zero =>
    exact ⟨rfl, empty, size, calm, fun n => rfl⟩
  | succ k ih =>
    rw [List.range_succ, List.foldl_append]
    exact (ih (by omega)).step (by omega)

/-! ### OPERATE entry (R8, R11) -/

theorem Part.operateEntry_stage (x : Part) (stage : x.dsc.role = .stage) :
    x.operateEntry = ((x.setOp .operate 0).pathsOperate).channelsOperate.mastersEval := by
  unfold Part.operateEntry
  rw [stage]

theorem Part.channelsOperate_eq (x : Part) :
    x.channelsOperate = channelNums.foldl Part.offerOne (channelNums.foldl (fun w n => Part.evalCond n w) x) := by
  unfold Part.channelsOperate Part.offerOne
  rfl

theorem Part.mastersEval_mixes (x : Part) : x.mastersEval.mxe.mixes =
    x.mxe.mixes.map fun m => { m with masterRamp := m.masterRamp.retarget (masterTarget x.dsc.opState m) } := rfl

theorem Part.mastersEval_chs (x : Part) : x.mastersEval.chs = x.chs := rfl

/-- OPERATE entry leaves the device state, the paths and the mixes as its rules say, whatever the channels do. -/
theorem Part.operateEntry_fields (x : Part) :
    x.operateEntry.dsc = { x.dsc with opState := .operate, wakeTimer := 0 } ∧ x.operateEntry.pa = x.pa.operate ∧
    x.operateEntry.pb = x.pb.operate ∧ x.operateEntry.fmu = x.fmu ∧ x.operateEntry.cmp.replies = x.cmp.replies ∧
    (x.dsc.role = .stage → x.operateEntry.mxe.mixes =
      x.mxe.mixes.map fun m => { m with masterRamp := m.masterRamp.retarget (masterTarget .operate m) }) := by
  have replies : x.operateEntry.cmp.replies = x.cmp.replies := (congrArg Cmp.replies x.operateEntry_port :)
  have rest := ((x.setOp .operate 0).pathsOperate).channelsOperate_sansC
  refine ⟨?_, ?_, ?_, ?_, replies, fun stage => ?_⟩
  · unfold Part.operateEntry
    cases x.dsc.role with
    | desk => rfl
    | stage => exact (congrArg Part.dsc rest :)
  · unfold Part.operateEntry
    cases x.dsc.role with
    | desk => rfl
    | stage => exact (congrArg Part.pa rest :)
  · unfold Part.operateEntry
    cases x.dsc.role with
    | desk => rfl
    | stage => exact (congrArg Part.pb rest :)
  · unfold Part.operateEntry
    cases x.dsc.role with
    | desk => rfl
    | stage => exact (congrArg Part.fmu rest :)
  · rw [x.operateEntry_stage stage, Part.mastersEval_mixes]
    generalize ((x.setOp .operate 0).pathsOperate).channelsOperate = y at rest ⊢
    have op : y.dsc.opState = .operate := (congrArg (fun p : Part => p.dsc.opState) rest :)
    have mixes : y.mxe.mixes = x.mxe.mixes := (congrArg (fun p : Part => p.mxe.mixes) rest :)
    rw [op, mixes]

/-- OPERATE entry of the channels with none RISING and none QUEUED: the first six offered rise, the others wait. -/
theorem Part.operateEntry_channels (x : Part) (stage : x.dsc.role = .stage) (size : x.chs.channels.length = 64) (calm : x.rising = 0)
    (empty : x.chs.phantomQueue = []) :
    x.operateEntry.chs.phantomQueue = (x.offered 64).drop 6 ∧
    ∀ n, n < 64 → x.operateEntry.channel n = ((x.channel n).condEval .operate).offer .operate (x.offered 64) n := by
  let w := (x.setOp .operate 0).pathsOperate
  have entered : x.operateEntry.chs =
      ((List.range 64).foldl Part.offerOne (channelNums.foldl (fun w n => Part.evalCond n w) w)).chs := by
    rw [x.operateEntry_stage stage, Part.mastersEval_chs, Part.channelsOperate_eq, ← channelNums]
  have view : (channelNums.foldl (fun w n => Part.evalCond n w) w).phantomView = w.phantomView :=
    foldl_keeps Part.phantomView _ (fun _ _ => Part.evalCond_phantom ..) ..
  obtain ⟨C, evaluated, size', channel⟩ := w.condAll size
  generalize channelNums.foldl (fun w n => Part.evalCond n w) w = y at entered view evaluated channel
  have calm' : y.rising = 0 := (Part.rising_of_view view).trans calm
  have walk := y.offered_walk 64 (Nat.le_refl _) (by rw [evaluated]; exact size') calm' (by rw [evaluated]; exact empty)
  have op : y.dsc.opState = .operate := by rw [evaluated]; rfl
  have same : y.offered 64 = x.offered 64 := by
    unfold Part.offered
    refine List.filter_congr fun n hn => ?_
    rw [channel n (List.mem_range.mp hn)]
    rfl
  generalize (List.range 64).foldl Part.offerOne y = z at entered walk
  have queue := walk.queue
  have each := walk.channel
  rw [same] at queue
  rw [op, same] at each
  refine ⟨(congrArg Chs.phantomQueue entered).trans queue, fun n lt => ?_⟩
  refine (congrArg (fun c : Chs => c.channels.getD n Channel.powerOn) entered).trans ((each n).trans ?_)
  rw [channel n lt]
  rfl

theorem List.getD_map_lt {α β : Type} (f : α → β) (l : List α) (n : Nat) (a : α) (b : β) (lt : n < l.length) :
    (l.map f).getD n b = f (l.getD n a) := by
  simp [List.getD_eq_getElem?_getD, lt]

/-- Settles O26: the state, the reply, the transmitters, the masters, and the offers in channel order. -/
theorem wakeCompletes : Obligations.WakeCompletes := by
  intro s op due
  have taken : exec .wakeComplete s = .next { s with part := s.part.operateEntry.answerHeldState .ok } :=
    next_part s (if_pos ⟨op, due⟩)
  refine ⟨_, taken, ?_⟩
  obtain ⟨dsc, pa, pb, fmu, replies, mixes⟩ := s.part.operateEntry_fields
  have channels := s.part.operateEntry_channels
  rw [Part.answerHeldState_eq]
  generalize s.part.operateEntry = y at dsc pa pb fmu replies mixes channels ⊢
  refine ⟨congrArg Dsc.opState dsc, rfl, ?_, fun p => ?_, fmu, fun stage => ⟨fun m lt => ?_, fun size calm empty => ?_⟩⟩
  · show y.cmp.replies ++ heldReplies y.dsc.heldState .ok = _
    rw [replies, dsc]
    rfl
  · have path : y.path p = (s.part.path p).operate := by
      cases p
      · exact pa
      · exact pb
    show (y.path p).state = _ ∧ (_ → (y.path p).tx = .full ∧ (y.path p).darkTimer = 0)
    rw [path]
    unfold PathCtl.operate
    refine ⟨?_, fun on => ?_⟩
    · split <;> rfl
    · rw [if_pos on]
      exact ⟨rfl, rfl⟩
  · have mix : y.mix m = { s.part.mix m with masterRamp := (s.part.mix m).masterRamp.retarget (masterTarget .operate (s.part.mix m)) } :=
      (congrArg (fun l : List Mix => l.getD m Mix.powerOn) (mixes stage)).trans (List.getD_map_lt _ _ _ _ _ lt)
    show (y.mix m).masterRamp.target = _
    rw [mix]
    exact Ramp.retarget_target ..
  · obtain ⟨queue, each⟩ := channels stage size calm empty
    refine ⟨queue, fun n lt => ?_⟩
    show (y.channel n).phantom = (if n ∈ (s.part.offered 64).take 6 then Phantom.rising
        else if n ∈ s.part.offered 64 then .queued else (s.part.channel n).phantom) ∧
      (n ∈ (s.part.offered 64).take 6 → (y.channel n).phantomTimer = 12000) ∧ (y.channel n).version = (s.part.channel n).version
    rw [each n lt]
    unfold Channel.offer
    by_cases first : n ∈ (s.part.offered 64).take 6
    · simp only [if_pos first]
      exact ⟨rfl, fun _ => rfl, rfl⟩
    · simp only [if_neg first]
      by_cases later : n ∈ s.part.offered 64
      · simp only [if_pos later]
        exact ⟨rfl, fun h => absurd h first, rfl⟩
      · simp only [if_neg later]
        exact ⟨rfl, fun h => absurd h first, rfl⟩

end Sys2Proof.Machine
end

section
/-!
PROOFS. STANDBY entry at STAGE (R91, R101, R117, R149): the phantom queue emptied with an echo for each channel, the supplies switched off,
the masters down, and every session closed.
-/

namespace Sys2Proof.Machine

/-! ### The queue is emptied (R101 step 1) -/

/-- A QUEUED channel taken off the queue: OFF, its version one higher, one echo. -/
theorem Part.dequeueStandby_eq (n : Nat) (x : Part) (inside : n < x.chs.channels.length) :
    ∃ c a, x.dequeueStandby n = { x with
      chs := { x.chs with
        channels := updAt n (Channel.endTimer x.dsc.opState .off) x.chs.channels
        phantomQueue := x.chs.phantomQueue.filter fun k => k != n }
      api := a, cmp := c
      ple := (x.dequeueStandby n).laneAfter x [.channel n] } := by
  have entered := Part.setPhantom_exact n .off 0 (x.leaveQueue n) inside
  have inside' : n < ((x.leaveQueue n).setPhantom n .off 0).chs.channels.length := by rw [entered]; exact (updAt_length ..).symm ▸ inside
  have version := Part.channelVersion_exact n .standby _ inside'
  have lane : (x.dequeueStandby n).laneAfter x [.channel n] =
      (((x.leaveQueue n).setPhantom n .off 0).channelVersion n .standby).laneAfter ((x.leaveQueue n).setPhantom n .off 0) [.channel n] := by
    refine Part.laneAfter_congr _ _ _ _ _ ?_ fun t _ => Part.reports_withCmp _ _ t
    rw [entered]
    rfl
  rw [lane]
  generalize (((x.leaveQueue n).setPhantom n .off 0).channelVersion n .standby).laneAfter ((x.leaveQueue n).setPhantom n .off 0)
    [.channel n] = l at version ⊢
  refine ⟨(x.dequeueStandby n).cmp, (x.dequeueStandby n).api, ?_⟩
  unfold Part.dequeueStandby Part.phantomDone
  rw [version, entered]
  unfold Part.notify
  dsimp only
  rw [updAt_updAt]
  rfl

/-- A part after the channels of a list left the queue. -/
structure Part.Dequeued (x : Part) (l : List Nat) (y : Part) : Prop where
  rest : ({ y with ple := x.ple, cmp := x.cmp } : Part).sansPhantoms = x.sansPhantoms
  size : y.chs.channels.length = x.chs.channels.length
  queue : y.chs.phantomQueue = x.chs.phantomQueue.filter fun k => !l.contains k
  channel : ∀ k, y.channel k = if k ∈ l then (x.channel k).endTimer x.dsc.opState .off else x.channel k
  lane : y.ple = y.laneAfter x (l.map Target.channel)

theorem Part.dequeued_walk (x : Part) (l : List Nat) (once : l.Nodup) (inside : ∀ n ∈ l, n < x.chs.channels.length) :
    x.Dequeued l (l.foldl Part.dequeueStandby x) := by
  induction l using List.reverseRecOn with
  | nil => exact ⟨rfl, rfl, (List.filter_true _).symm, fun k => (if_neg (by simp)).symm, rfl⟩
  | append_singleton l n ih =>
    obtain ⟨before, -, apart⟩ := List.nodup_append.mp once
    have out : n ∉ l := fun h => apart n h n (by simp) rfl
    have walked := ih before fun k hk => inside k (by simp [hk])
    rw [List.foldl_append, List.foldl_cons, List.foldl_nil]
    generalize l.foldl Part.dequeueStandby x = y at walked ⊢
    have lt : n < y.chs.channels.length := by rw [walked.size]; exact inside n (by simp)
    have op : y.dsc.opState = x.dsc.opState := (congrArg (fun p : Part => p.dsc.opState) walked.rest :)
    obtain ⟨c, a, stepped⟩ := y.dequeueStandby_eq n lt
    rw [op] at stepped
    have channel (k : Nat) := Part.channel_updAt y (Channel.endTimer x.dsc.opState .off) n k lt (y.dequeueStandby n)
      (congrArg (fun p => p.chs.channels) stepped)
    have own : y.channel n = x.channel n := by rw [walked.channel, if_neg out]
    refine ⟨?_, ?_, ?_, fun k => ?_, ?_⟩
    · rw [← walked.rest, stepped]
      rfl
    · rw [stepped]
      exact (updAt_length ..).trans walked.size
    · rw [congrArg (fun p : Part => p.chs.phantomQueue) stepped]
      show y.chs.phantomQueue.filter _ = _
      rw [walked.queue, List.filter_filter]
      refine List.filter_congr fun k _ => ?_
      by_cases e : k = n <;> simp [e]
    · rw [channel, own, walked.channel]
      by_cases e : k = n
      · subst e; simp
      · simp [e]
    · have lane : (y.dequeueStandby n).ple = (y.dequeueStandby n).laneAfter y [.channel n] :=
        (congrArg Part.ple stepped :)
      refine lane.trans ?_
      rw [List.map_append, Part.laneAfter_append]
      refine Part.laneAfter_congr _ _ _ _ _ ?_ fun _ _ => rfl
      refine walked.lane.trans (Part.laneAfter_congr _ _ _ _ _ rfl fun t member => ?_)
      obtain ⟨k, among, rfl⟩ := List.mem_map.mp member
      refine Part.reports_channel _ _ k ?_
      rw [channel, if_neg fun e : k = n => out (e ▸ among)]

/-! ### The supplies are switched off (R101 step 2) -/

/-- A RISING or ON channel falls; any other stands. -/
def Channel.fall (op : OpState) (c : Channel) : Channel :=
  match c.phantom with
  | .rising => c.enter op .falling 24000
  | .on => c.enter op .falling 24000
  | _ => c

theorem Part.fallStandby_eq (n : Nat) (x : Part) (inside : n < x.chs.channels.length) :
    ∃ a, x.fallStandby n = { x with
      chs := { x.chs with channels := updAt n (Channel.fall x.dsc.opState) x.chs.channels }, api := a } := by
  have same (g : Channel → Channel) (h : Channel.fall x.dsc.opState (x.channel n) = g (x.channel n)) :
      updAt n (Channel.fall x.dsc.opState) x.chs.channels = updAt n g x.chs.channels :=
    updAt_congr n _ _ Channel.powerOn _ inside h
  have stands (h : Channel.fall x.dsc.opState (x.channel n) = x.channel n) :
      updAt n (Channel.fall x.dsc.opState) x.chs.channels = x.chs.channels := updAt_self n _ Channel.powerOn _ h
  unfold Part.fallStandby Part.startFall
  cases h : (x.channel n).phantom with
  | rising =>
    rw [same (Channel.enter x.dsc.opState .falling 24000) (by unfold Channel.fall; rw [h])]
    exact ⟨_, Part.setPhantom_exact n .falling 24000 x inside⟩
  | on =>
    rw [same (Channel.enter x.dsc.opState .falling 24000) (by unfold Channel.fall; rw [h])]
    exact ⟨_, Part.setPhantom_exact n .falling 24000 x inside⟩
  | off | queued | falling =>
    rw [stands (by unfold Channel.fall; rw [h])]
    exact ⟨x.api, rfl⟩

/-! ### The channels at STANDBY entry, whole -/

/-- The channels after STANDBY entry. -/
structure Part.ChannelsDown (x y : Part) : Prop where
  rest : ({ y with ple := x.ple, cmp := x.cmp } : Part).sansPhantoms = x.sansPhantoms
  queue : y.chs.phantomQueue = []
  channel : ∀ k, k < 64 → y.channel k = Channel.condEval x.dsc.opState (Channel.fall x.dsc.opState
    (if (x.channel k).phantom = .queued then (x.channel k).endTimer x.dsc.opState .off else x.channel k))
  lane : y.ple = y.laneAfter x (x.chs.phantomQueue.map Target.channel)

theorem Part.reports_channel_echo (x y : Part) (n : Nat) (same : (x.channel n).echo = (y.channel n).echo) :
    x.reports (.channel n) = y.reports (.channel n) := by
  show (some (LaneMsg.echoChannel n (x.channel n).echo), none) = (some (LaneMsg.echoChannel n (y.channel n).echo), none)
  rw [same]

theorem Part.channelsStandby_down (x : Part) (inv : x.PhantomInv) : x.ChannelsDown x.channelsStandby := by
  obtain ⟨size, -, once, queued⟩ := inv
  have below (n : Nat) (h : n ∈ x.chs.phantomQueue) : n < 64 := ((queued n).mp h).1
  have gone := x.dequeued_walk x.chs.phantomQueue once fun n h => by rw [size]; exact below n h
  have mem := mem_channelNums
  unfold Part.channelsStandby
  dsimp only
  generalize x.chs.phantomQueue.foldl Part.dequeueStandby x = y at gone ⊢
  have size_y := gone.size.trans size
  obtain ⟨C, a, fallen, size_z, falls⟩ := foldl_channels Part.fallStandby (Channel.fall y.dsc.opState) y channelNums channelNums_nodup
    (fun n h => by rw [size_y]; exact (mem n).mp h) fun z n lt dsc => by
      rw [← dsc]
      exact z.fallStandby_eq n lt
  generalize channelNums.foldl Part.fallStandby y = z at fallen falls ⊢
  obtain ⟨D, evaluated, -, evals⟩ := z.condAll (by rw [fallen]; exact size_z.trans size_y)
  generalize channelNums.foldl (fun w n => Part.evalCond n w) z = w at evaluated evals ⊢
  have op_y : y.dsc.opState = x.dsc.opState := (congrArg (fun p : Part => p.dsc.opState) gone.rest :)
  have op_z : z.dsc.opState = x.dsc.opState := by rw [fallen]; exact op_y
  have queue_w : w.chs.phantomQueue = y.chs.phantomQueue := by rw [evaluated, fallen]
  have channel (k : Nat) (lt : k < 64) : w.channel k = Channel.condEval x.dsc.opState (Channel.fall x.dsc.opState
      (if (x.channel k).phantom = .queued then (x.channel k).endTimer x.dsc.opState .off else x.channel k)) := by
    rw [evals k lt, op_z, falls, if_pos ((mem k).mpr lt), op_y, gone.channel]
    by_cases h : k ∈ x.chs.phantomQueue
    · rw [if_pos h, if_pos ((queued k).mp h).2]
    · rw [if_neg h, if_neg fun q => h ((queued k).mpr ⟨lt, q⟩)]
  refine ⟨?_, ?_, channel, ?_⟩
  · rw [← gone.rest, evaluated, fallen]
    rfl
  · rw [queue_w, gone.queue]
    refine List.filter_eq_nil_iff.mpr fun k hk => ?_
    simp [hk]
  · have ple : w.ple = y.ple := by rw [evaluated, fallen]
    refine ple.trans (gone.lane.trans (Part.laneAfter_congr _ _ _ _ _ rfl fun t member => ?_))
    obtain ⟨k, among, rfl⟩ := List.mem_map.mp member
    refine Part.reports_channel_echo _ _ k ?_
    rw [channel k (below k among), gone.channel, if_pos among, if_pos ((queued k).mp among).2]
    rfl

/-! ### Every session closes (R149) -/

/-- A close leaves which other sessions are open and why others closed, and of the mixes the masters and the lists. -/
theorem Part.closeSession_others (s : Source) (reason : CloseReason) (cause : TalkCause) (x : Part) :
    let y := x.closeSession s reason cause
    (∀ t, t ≠ s → (y.session t).isSome = (x.session t).isSome ∧ (y.tka.source t).reason = (x.tka.source t).reason) ∧
    (y.session s = none ∧ ((x.session s).isSome = true → (y.tka.source s).reason = reason) ∧
      ((x.session s).isSome = false → (y.tka.source s).reason = (x.tka.source s).reason)) ∧
    ∀ m, (y.mix m).masterRamp = (x.mix m).masterRamp ∧ (y.mix m).contribs = (x.mix m).contribs := by
  cases opened : x.session s with
  | none =>
    intro y
    have same : y = x := x.closeSession_none s reason cause opened
    rw [same]
    exact ⟨fun _ _ => ⟨rfl, rfl⟩, ⟨opened, nofun, fun _ => rfl⟩, fun _ => ⟨rfl, rfl⟩⟩
  | some z =>
    have event := x.closeSession_event s reason cause z opened
    have own := x.closeSession_source s reason cause z opened
    intro y
    refine ⟨fun t ne => ⟨?_, ?_⟩, ⟨congrArg SourceRec.session own, fun _ => congrArg SourceRec.reason own, nofun⟩, fun m => ?_⟩
    · rw [event.session, x.shut_session, if_neg ne]
      exact Option.isSome_map
    · have kept : ((x.shut s reason z).tka.source t).reason = (x.tka.source t).reason := by
        refine (congrArg SourceRec.reason (Part.onSource_source ..)).trans ?_
        rw [if_neg ne, x.moves_source _ _ destNums_nodup]
      refine (congrArg SourceRec.reason (event.source t)).trans (Eq.trans ?_ kept)
      split <;> rfl
    · have source (f : SourceRec → SourceRec) (w : Part) : (w.onSource s f).mix m = w.mix m := by cases s <;> rfl
      rw [event.mix]
      have shut : (x.shut s reason z).mix m = (x.moves (closeMoves z) destNums).mix m := source _ _
      rw [shut, x.moves_mix _ _ destNums_nodup]
      split
      · unfold closeMoves
        split <;> exact ⟨rfl, rfl⟩
      · exact ⟨rfl, rfl⟩

theorem Part.dest_beyond (x : Part) (dests : x.tka.dests.length = 17) (d : Nat) (out : ¬ d < 17) : x.dest d = Dest.powerOn :=
  List.getD_eq_default _ _ (by omega)

/-- What the close of one source makes of agreeing tables. -/
structure Part.OneClosed (x y : Part) (s : Source) : Prop where
  agree : y.TalkAgree
  closed : y.session s = none
  others : ∀ t, t ≠ s → y.tka.source t = x.tka.source t
  dest : ∀ d, d < 17 → y.dest d = if x.holds s d then ⟨.fading, some s, false⟩ else x.dest d
  targets : ∀ d, d < 17 → (x.holds s d → y.TargetsFollow d) ∧ (¬ x.holds s d → (y.TargetsFollow d ↔ x.TargetsFollow d))
  lane : y.ple = y.laneAfter x (if (x.session s).isSome then [.talk (sourceNum s)] else [])

/-- A destination that a close does not fade keeps its ramps. -/
theorem Part.closeSession_ramps (s : Source) (reason : CloseReason) (cause : TalkCause) (x : Part) (z : Session)
    (opened : x.session s = some z) (d : Nat) (out : z.granted.testBit d = false) :
    (x.closeSession s reason cause).TargetsFollow d ↔ x.TargetsFollow d := by
  have event := x.closeSession_event s reason cause z opened
  have stays : closeMoves z d = .stay := if_neg (by simp [out])
  rw [event.targets (x.shut_cfg s reason z) d]
  exact (Part.onSource_targetsFollow ..).trans (x.moves_targetsFollow_stay (closeMoves z) destNums d stays)

theorem Part.closeSession_one (s : Source) (reason : CloseReason) (cause : TalkCause) (x : Part) (agree : x.TalkAgree) :
    x.OneClosed (x.closeSession s reason cause) s := by
  have ⟨dests, mixes, free, opened_, granted⟩ := agree
  cases opened : x.session s with
  | none =>
    have nobody (d : Nat) : ¬ x.holds s d := fun h => by
      obtain ⟨z, open_⟩ := opened_ d s h
      rw [opened] at open_
      cases open_
    rw [x.closeSession_none s reason cause opened]
    refine ⟨agree, opened, fun _ _ => rfl, fun d _ => (if_neg (nobody d)).symm, fun d _ => ⟨fun h => absurd h (nobody d), fun _ => .rfl⟩, ?_⟩
    rw [opened]
    rfl
  | some z =>
    have event := x.closeSession_event s reason cause z opened
    obtain ⟨others, -, dest, -, -⟩ := x.closeSession_alone s reason cause z agree opened
    obtain ⟨-, lane⟩ := x.closeSession_told s reason cause z agree opened
    have closed : (x.closeSession s reason cause).session s = none :=
      congrArg SourceRec.session (x.closeSession_source s reason cause z opened)
    have after := x.closeSession_after s reason cause z opened dests
    have ramps := x.closeSession_ramps s reason cause z opened
    obtain ⟨l1, l2⟩ := x.shut_lengths s reason z
    have dests_y : (x.closeSession s reason cause).tka.dests.length = 17 := by rw [event.dests, l1, dests]
    have mixes_y : (x.closeSession s reason cause).mxe.mixes.length = 16 := by rw [event.mixes, l2, mixes]
    generalize x.closeSession s reason cause = y at event others dest lane closed after ramps dests_y mixes_y ⊢
    have bit (d : Nat) : z.granted.testBit d = true ↔ x.holds s d := granted s z opened d
    have dest' (d : Nat) (lt : d < 17) : y.dest d = if x.holds s d then ⟨.fading, some s, false⟩ else x.dest d := by
      rw [dest d lt]
      by_cases holds : x.holds s d
      · rw [if_pos holds, if_pos ((bit d).mpr holds)]
      · rw [if_neg holds, if_neg fun b => holds ((bit d).mp b)]
    have beyond (d : Nat) (out : ¬ d < 17) : y.dest d = x.dest d := by
      rw [y.dest_beyond dests_y d out, x.dest_beyond dests d out]
    have held (t : Source) (d : Nat) : y.holds t d ↔ (t ≠ s ∧ x.holds t d) := by
      unfold Part.holds
      by_cases lt : d < 17
      · rw [dest' d lt]
        by_cases holds : x.holds s d
        · rw [if_pos holds]
          refine ⟨fun h => (nomatch h.1), fun h => absurd (Option.some.inj (h.2.2.symm.trans holds.2)) h.1⟩
        · rw [if_neg holds]
          exact ⟨fun h => ⟨fun e => holds (e ▸ h), h⟩, fun h => h.2⟩
      · rw [beyond d lt]
        refine ⟨fun h => ⟨fun e => ?_, h⟩, fun h => h.2⟩
        rw [x.dest_beyond dests d lt] at h
        cases h.1
    refine ⟨⟨dests_y, mixes_y, fun d => ?_, fun d t h => ?_, fun t o open_ d => ?_⟩, closed, others, dest', fun d lt => ⟨fun h => ?_, fun h => ?_⟩, ?_⟩
    · by_cases lt : d < 17
      · rw [dest' d lt]
        by_cases holds : x.holds s d
        · rw [if_pos holds]
          exact ⟨nofun, nofun⟩
        · rw [if_neg holds]
          exact free d
      · rw [beyond d lt]
        exact free d
    · obtain ⟨ne, h⟩ := (held t d).mp h
      obtain ⟨o, open_⟩ := opened_ d t h
      exact ⟨o, (congrArg SourceRec.session (others t ne)).trans open_⟩
    · have ne : t ≠ s := fun e => by rw [e, closed] at open_; cases open_
      rw [granted t o ((congrArg SourceRec.session (others t ne)).symm.trans open_) d, held t d]
      exact ⟨fun h => ⟨ne, h⟩, fun h => h.2⟩
    · exact after.2.2 mixes d lt ((bit d).mpr h)
    · exact ramps d (by
        by_contra b
        exact h ((bit d).mp (by simpa using b)))
    · rw [opened]
      exact lane

end Sys2Proof.Machine
end

section
/-!
PROOFS. STANDBY entry, whole (R8, R36, R59, R91, R101, R117, R149): the sessions closed one after another, and what the entry leaves
of the paths, the merge, the channels, the mixes, talk and the lane.
-/

namespace Sys2Proof.Machine

/-! ### Every session closes (R149) -/

/-- What no agreement of the tables is needed for: every source of a list closed, the others and the masters as they were. -/
structure Part.Emptied (x : Part) (l : List Source) (y : Part) : Prop where
  closed : ∀ t ∈ l, y.session t = none
  reason : ∀ t ∈ l, (x.session t).isSome = true → (y.tka.source t).reason = .standby
  others : ∀ t, t ∉ l → (y.session t).isSome = (x.session t).isSome
  mixes : ∀ m, (y.mix m).masterRamp = (x.mix m).masterRamp ∧ (y.mix m).contribs = (x.mix m).contribs

theorem Part.emptied_walk (x : Part) (l : List Source) (once : l.Nodup) :
    x.Emptied l (l.foldl (fun y s => y.closeSession s .standby .standby) x) := by
  induction l using List.reverseRecOn with
  | nil => exact ⟨nofun, nofun, fun _ _ => rfl, fun _ => ⟨rfl, rfl⟩⟩
  | append_singleton l s ih =>
    obtain ⟨before, -, apart⟩ := List.nodup_append.mp once
    have out : s ∉ l := fun h => apart s h s (by simp) rfl
    have walked := ih before
    rw [List.foldl_append, List.foldl_cons, List.foldl_nil]
    generalize l.foldl (fun y s => Part.closeSession s .standby .standby y) x = y at walked ⊢
    obtain ⟨others, ⟨closed, reason, -⟩, mixes⟩ := y.closeSession_others s .standby .standby
    have ne (t : Source) (h : t ∈ l) : t ≠ s := fun e => out (e ▸ h)
    refine ⟨fun t member => ?_, fun t member was => ?_, fun t gone => ?_, fun m => ?_⟩
    · rcases List.mem_append.mp member with h | h
      · have still := (others t (ne t h)).1
        rw [walked.closed t h] at still
        exact Option.isNone_iff_eq_none.mp (by simpa using still)
      · rw [List.mem_singleton.mp h]
        exact closed
    · rcases List.mem_append.mp member with h | h
      · exact (others t (ne t h)).2.trans (walked.reason t h was)
      · rw [List.mem_singleton.mp h] at was ⊢
        exact reason ((walked.others s out).trans was)
    · rw [List.mem_append, not_or, List.mem_singleton] at gone
      exact (others t gone.2).1.trans (walked.others t gone.1)
    · exact ⟨(mixes m).1.trans (walked.mixes m).1, (mixes m).2.trans (walked.mixes m).2⟩

/-- The sources of a list that had a session. -/
def Part.openOf (x : Part) (l : List Source) : List Source := l.filter fun s => (x.session s).isSome

/-- What the closes of a list of sources make of agreeing tables. -/
structure Part.AllClosed (x : Part) (l : List Source) (y : Part) : Prop where
  agree : y.TalkAgree
  others : ∀ t, t ∉ l → y.tka.source t = x.tka.source t
  dest : ∀ d, d < 17 → ((∃ s ∈ l, x.holds s d) → y.dest d = ⟨.fading, (x.dest d).holder, false⟩ ∧ y.TargetsFollow d) ∧
    ((∀ s ∈ l, ¬ x.holds s d) → y.dest d = x.dest d)
  lane : y.ple = y.laneAfter x ((x.openOf l).map fun s => .talk (sourceNum s))

theorem Part.allClosed_walk (x : Part) (l : List Source) (once : l.Nodup) (agree : x.TalkAgree) :
    x.AllClosed l (l.foldl (fun y s => y.closeSession s .standby .standby) x) := by
  induction l using List.reverseRecOn with
  | nil => exact ⟨agree, fun _ _ => rfl, fun d _ => ⟨fun ⟨_, h, _⟩ => (nomatch h), fun _ => rfl⟩, rfl⟩
  | append_singleton l s ih =>
    obtain ⟨before, -, apart⟩ := List.nodup_append.mp once
    have out : s ∉ l := fun h => apart s h s (by simp) rfl
    have walked := ih before
    rw [List.foldl_append, List.foldl_cons, List.foldl_nil]
    generalize l.foldl (fun y s => Part.closeSession s .standby .standby y) x = y at walked ⊢
    have one := y.closeSession_one s .standby .standby walked.agree
    generalize y.closeSession s .standby .standby = z at one ⊢
    have ne (t : Source) (h : t ∈ l) : t ≠ s := fun e => out (e ▸ h)
    refine ⟨one.agree, fun t gone => ?_, fun d lt => ⟨fun ⟨t, member, holds⟩ => ?_, fun nobody => ?_⟩, ?_⟩
    · rw [List.mem_append, not_or, List.mem_singleton] at gone
      exact (one.others t gone.2).trans (walked.others t gone.1)
    · rcases List.mem_append.mp member with h | h
      · obtain ⟨faded, follows⟩ := (walked.dest d lt).1 ⟨t, h, holds⟩
        have nobody : ¬ y.holds s d := fun held => by
          have := held.1
          rw [faded] at this
          cases this
        exact ⟨((one.dest d lt).trans (if_neg nobody)).trans faded, ((one.targets d lt).2 nobody).mpr follows⟩
      · rw [List.mem_singleton.mp h] at holds
        have stood : y.dest d = x.dest d := (walked.dest d lt).2 fun u hu held =>
          ne u hu (Option.some.inj (held.2.symm.trans holds.2))
        have held : y.holds s d := by
          unfold Part.holds
          rw [stood]
          exact holds
        refine ⟨?_, (one.targets d lt).1 held⟩
        rw [one.dest d lt, if_pos held, holds.2]
    · have stood : y.dest d = x.dest d := (walked.dest d lt).2 fun u hu => nobody u (by simp [hu])
      have free : ¬ y.holds s d := by
        unfold Part.holds
        rw [stood]
        exact nobody s (by simp)
      rw [one.dest d lt, if_neg free, stood]
    · have same : (y.session s).isSome = (x.session s).isSome :=
        congrArg (fun r : SourceRec => r.session.isSome) (walked.others s out)
      have more : x.openOf (l ++ [s]) = x.openOf l ++ (if (y.session s).isSome then [s] else []) := by
        rw [same]
        unfold Part.openOf
        rw [List.filter_append]
        cases had : (x.session s).isSome <;> simp [had]
      have second : z.ple = z.laneAfter y ((if (y.session s).isSome then [s] else []).map fun s => .talk (sourceNum s)) := by
        refine one.lane.trans ?_
        cases (y.session s).isSome <;> rfl
      rw [more]
      exact Part.laneAfter_twice x y z _ _ walked.lane second fun t member =>
        one.others t (ne t (List.mem_filter.mp member).1)

theorem sources_nodup : sources.Nodup := by decide

theorem mem_sources (s : Source) : s ∈ sources := by cases s <;> decide

/-- With every session closed, the sources told of are those that had one. -/
theorem Part.talkEchoes_closed (x y : Part) (closed : ∀ s, y.session s = none) :
    y.talkEchoes x [.foh, .mon, .stg] = (x.openOf sources).map fun s => .talk (sourceNum s) := by
  unfold Part.talkEchoes
  rw [Part.talkChanged_lost x y (fun s => (x.session s).isSome) fun s => ?_]
  · rfl
  · rw [closed]
    cases x.session s <;> simp

/-! ### Echoes and the records of the lane -/

/-- What an echo reads and changes of the lane. -/
def Ple.records (l : Ple) : List LaneRec × List Mark × DumpPos := (l.queue, l.marks, l.dump)

theorem Part.echo_records (t : Target) (x y : Part) (lane : x.ple.records = y.ple.records) (same : x.reports t = y.reports t) :
    (x.echo t).ple.records = (y.echo t).ple.records := by
  obtain ⟨queue, rest⟩ := Prod.mk.inj lane
  obtain ⟨marks, dump⟩ := Prod.mk.inj rest
  have passed := Part.dumpPassed_congr t x y dump same
  have built : x.buildEcho t = y.buildEcho t := congrArg Prod.fst same
  unfold Part.echo
  rw [passed, built, queue, marks]
  (repeat' split) <;> simp [Ple.records, queue, marks, dump]

/-- The records after echoes depend on the records before them. -/
theorem Part.laneAfter_records (ts : List Target) (x old old' : Part) (lane : old.ple.records = old'.ple.records) :
    (x.laneAfter old ts).records = (x.laneAfter old' ts).records := by
  induction ts using List.reverseRecOn with
  | nil => exact lane
  | append_singleton ts t ih =>
    rw [Part.laneAfter_concat ts t x old { x with ple := x.laneAfter old ts } rfl (Part.reports_withPle ..).symm,
      Part.laneAfter_concat ts t x old' { x with ple := x.laneAfter old' ts } rfl (Part.reports_withPle ..).symm]
    exact Part.echo_records t _ _ ih ((Part.reports_withPle ..).trans (Part.reports_withPle ..).symm)

/-! ### The paths and the link -/

theorem link_of_sans {x y : Part} (h : x.sansTables = y.sansTables) : x.pa = y.pa ∧ x.pb = y.pb ∧ x.fmu = y.fmu :=
  ⟨(congrArg Part.pa h :), (congrArg Part.pb h :), (congrArg Part.fmu h :)⟩

/-- STANDBY entry of the paths and the merge, at either end. -/
theorem Part.standbyEntry_link (x : Part) :
    (∀ p, x.standbyEntry.path p = ((x.setOp .standby 0).standbyAligns.path p).standby) ∧ x.standbyEntry.fmu = x.fmu.standby := by
  obtain ⟨c, d, l, entered, -⟩ := (x.setOp .standby 0).pathsStandby_eq
  have tables (y : Part) := link_of_sans ((Part.talkStandby_sans _).trans ((Part.mastersEval_sans _).trans y.channelsStandby_sans))
  have told : x.standbyEntry.pa = (x.setOp .standby 0).standbyAligns.pa.standby ∧
      x.standbyEntry.pb = (x.setOp .standby 0).standbyAligns.pb.standby ∧ x.standbyEntry.fmu = x.fmu.standby := by
    unfold Part.standbyEntry
    dsimp only
    split
    · rw [entered]
      exact ⟨rfl, rfl, rfl⟩
    · obtain ⟨pa, pb, fmu⟩ := tables (x.setOp .standby 0).pathsStandby
      rw [pa, pb, fmu, entered]
      exact ⟨rfl, rfl, rfl⟩
  refine ⟨fun p => ?_, told.2.2⟩
  cases p
  · exact told.1
  · exact told.2.1

/-- A path as STANDBY entry leaves it. -/
structure PathCtl.StoodBy (c y : PathCtl) : Prop where
  state : y.state = if c.state = .disabled then .disabled else .dark
  cause : y.cause = if c.state = .disabled ∨ c.state = .dark then c.cause else .standby
  cleared : y.tx = .off ∧ y.darkTimer = 0 ∧ y.silenceTimer = 0 ∧ y.recovery = 0 ∧ y.farRole = none ∧ y.stallReported = false ∧
    y.step = .none ∧ y.count = 0 ∧ y.stepTimer = 0 ∧ y.cfg = c.cfg

theorem PathCtl.standby_stoodBy (c : PathCtl) : c.StoodBy c.standby := by
  rw [PathCtl.standby_eq]
  exact ⟨rfl, rfl, c.standbyClear_cleared⟩

/-- A path at ALIGN is completed first, a usable one may have left use first: all come to the same. -/
theorem Part.standbyAligns_stoodBy (p : Path) (x : Part) : (x.path p).StoodBy (x.standbyAligns.path p).standby := by
  have whole := (x.path p).standby_stoodBy
  rcases x.standbyAligns_path p with same | ⟨used, twice⟩ | ⟨align, served⟩
  · rw [same]
    exact whole
  · obtain ⟨dark, cause, dark', -⟩ := PathCtl.standby_standing _ used
    have again := (x.path p).standby.standby_stoodBy
    rw [twice]
    refine ⟨dark'.trans (dark.symm.trans whole.state), ?_, again.cleared.imp id fun h => ?_⟩
    · rw [again.cause, if_pos (.inr dark)]
      exact whole.cause
    · obtain ⟨h1, h2, h3, h4, h5, h6, h7, h8, h9⟩ := h
      obtain ⟨-, -, -, -, -, -, -, -, -, cfg⟩ := whole.cleared
      exact ⟨h1, h2, h3, h4, h5, h6, h7, h8, h9.trans cfg⟩
  · have acquiring : (x.path p).state = .acquiring := beq_iff_eq.mp (Bool.and_eq_true_iff.mp align).1
    have after := (x.path p).serve.standby_stoodBy
    rw [served]
    refine ⟨after.state.trans ?_, after.cause.trans ?_, after.cleared⟩
    · rw [acquiring]
      rfl
    · rw [acquiring]
      rfl

/-! ### The tables at STAGE -/

/-- The channels, the mixes, talk and the lane as STANDBY entry leaves them. -/
structure Part.TablesDown (x y : Part) : Prop where
  queue : y.chs.phantomQueue = []
  channel : ∀ k, k < 64 → y.channel k = Channel.condEval .standby (Channel.fall .standby
    (if (x.channel k).phantom = .queued then (x.channel k).endTimer .standby .off else x.channel k))
  masters : ∀ m, m < x.mxe.mixes.length → (y.mix m).masterRamp.target = 0 ∧ (y.mix m).contribs = (x.mix m).contribs
  sessions : ∀ src, y.session src = none ∧ ((x.session src).isSome = true → (y.tka.source src).reason = .standby)
  talk : x.TalkAgree → (∀ d, d < 17 → (x.dest d).state = .held →
      y.dest d = ⟨.fading, (x.dest d).holder, false⟩ ∧ y.TargetsFollow d) ∧
    let told : List Target := x.chs.phantomQueue.map Target.channel ++ y.talkEchoes x [.foh, .mon, .stg]
    y.ple.queue = (y.laneAfter x told).queue ∧ y.ple.marks = (y.laneAfter x told).marks

/-- The closes leave the channels. -/
theorem Part.talkStandby_chs (x : Part) : x.talkStandby.chs = x.chs := by
  have kept (y : Part) (s : Source) : (y.closeSession s .standby .standby).chs = y.chs :=
    (congrArg Part.chs (y.closeSession_rest s .standby .standby).1 :)
  exact foldl_keeps Part.chs _ kept sources x

/-- The tables of talk agree whatever the mixes are, of which there are sixteen. -/
theorem Part.TalkAgree.sized {x y : Part} (agree : x.TalkAgree) (tka : y.tka = x.tka) (size : y.mxe.mixes.length = 16) :
    y.TalkAgree := by
  have ⟨dests, _, free, opened, granted⟩ := agree.congr (y := { y with mxe := x.mxe }) tka rfl
  exact ⟨dests, size, free, opened, granted⟩

/-- Who had a session is told by the sources alone. -/
theorem Part.openOf_congr (x y : Part) (l : List Source) (same : ∀ s, y.session s = x.session s) : y.openOf l = x.openOf l := by
  unfold Part.openOf
  simp only [same]

theorem Part.standbyEntry_tables (x : Part) (stage : x.dsc.role = .stage) (inv : x.PhantomInv) : x.TablesDown x.standbyEntry := by
  have staged : x.standbyEntry = ((x.setOp .standby 0).pathsStandby).channelsStandby.mastersEval.talkStandby := by
    unfold Part.standbyEntry
    rw [stage]
  rw [staged]
  obtain ⟨c, d, l, entered, queue, marks, dump⟩ := (x.setOp .standby 0).pathsStandby_eq
  have records : (x.setOp .standby 0).pathsStandby.ple.records = x.ple.records := by
    rw [entered]
    unfold Ple.records
    dsimp only
    rw [queue, marks, dump]
    rfl
  have chs : (x.setOp .standby 0).pathsStandby.chs = x.chs := by rw [entered]; rfl
  have mixes : (x.setOp .standby 0).pathsStandby.mxe.mixes = x.mxe.mixes := by rw [entered]; rfl
  have tka : (x.setOp .standby 0).pathsStandby.tka = x.tka := by rw [entered]; rfl
  have op : (x.setOp .standby 0).pathsStandby.dsc.opState = .standby := by rw [entered]; rfl
  have inv' : (x.setOp .standby 0).pathsStandby.PhantomInv := by
    rw [entered]
    exact inv
  generalize (x.setOp .standby 0).pathsStandby = b at records chs mixes tka op inv'
  have down := b.channelsStandby_down inv'
  have kept := b.channelsStandby_sansC
  generalize b.channelsStandby = c at down kept
  have tka_c : c.tka = x.tka := (congrArg Part.tka kept :).trans tka
  have mixes_c : c.mxe.mixes = x.mxe.mixes := (congrArg (fun p : Part => p.mxe.mixes) kept :).trans mixes
  have op_c : c.dsc.opState = .standby := (congrArg (fun p : Part => p.dsc.opState) kept :).trans op
  have evaluated := c.mastersEval_mixes
  rw [op_c, mixes_c] at evaluated
  have chs_m := c.mastersEval_chs
  have tka_m : c.mastersEval.tka = x.tka := tka_c
  have ple_m : c.mastersEval.ple = c.ple := rfl
  generalize c.mastersEval = m at evaluated chs_m tka_m ple_m
  have mix (k : Nat) (lt : k < x.mxe.mixes.length) :
      m.mix k = { x.mix k with masterRamp := (x.mix k).masterRamp.retarget (masterTarget .standby (x.mix k)) } :=
    (congrArg (fun l : List Mix => l.getD k Mix.powerOn) evaluated).trans (List.getD_map_lt _ _ _ _ _ lt)
  have emptied := m.emptied_walk sources sources_nodup
  have shut := m.allClosed_walk sources sources_nodup
  have chs_t := m.talkStandby_chs
  have ended : m.talkStandby = sources.foldl (fun y s => y.closeSession s .standby .standby) m := rfl
  rw [← ended] at emptied shut
  generalize m.talkStandby = t at emptied shut chs_t
  have session (s : Source) : m.session s = x.session s := congrArg (fun t : Tka => (t.source s).session) tka_m
  have dest (d : Nat) : m.dest d = x.dest d := congrArg (fun t : Tka => t.dests.getD d Dest.powerOn) tka_m
  have channel (k : Nat) : t.channel k = c.channel k :=
    congrArg (fun s : Chs => s.channels.getD k Channel.powerOn) (chs_t.trans chs_m)
  have before (k : Nat) : b.channel k = x.channel k := congrArg (fun s : Chs => s.channels.getD k Channel.powerOn) chs
  have closed (s : Source) : t.session s = none := emptied.closed s (mem_sources s)
  refine ⟨?_, fun k lt => ?_, fun k lt => ?_, fun s => ⟨closed s, fun was => ?_⟩, fun agree => ?_⟩
  · exact (congrArg Chs.phantomQueue (chs_t.trans chs_m)).trans down.queue
  · rw [channel, down.channel k lt, op, before]
  · obtain ⟨master, contribs⟩ := emptied.mixes k
    rw [master, contribs, mix k lt]
    exact ⟨Ramp.retarget_target .., rfl⟩
  · exact emptied.reason s (mem_sources s) (by rw [session]; exact was)
  · have size : m.mxe.mixes.length = 16 := by rw [evaluated, List.length_map]; exact agree.mixes
    have shut := shut (agree.sized tka_m size)
    refine ⟨fun d lt held => ?_, ?_⟩
    · obtain ⟨s, holder⟩ : ∃ s, (x.dest d).holder = some s := by
        cases h : (x.dest d).holder with
        | none => rw [(agree.free d).mpr h] at held; cases held
        | some s => exact ⟨s, rfl⟩
      have holds : m.holds s d := by
        unfold Part.holds
        rw [dest]
        exact ⟨held, holder⟩
      obtain ⟨faded, follows⟩ := (shut.dest d lt).1 ⟨s, mem_sources s, holds⟩
      exact ⟨by rw [faded, dest], follows⟩
    · intro told
      have talks : t.talkEchoes x [.foh, .mon, .stg] = (m.openOf sources).map fun s => .talk (sourceNum s) := by
        rw [x.talkEchoes_closed t closed, x.openOf_congr m sources session]
      have whole : t.ple = t.laneAfter b told := by
        show _ = t.laneAfter b (_ ++ t.talkEchoes x [.foh, .mon, .stg])
        rw [talks, Part.laneAfter_append, ← chs]
        refine shut.lane.trans (Part.laneAfter_congr _ _ _ _ _ ?_ fun _ _ => rfl)
        refine ple_m.trans (down.lane.trans (Part.laneAfter_congr _ _ _ _ _ rfl fun u member => ?_))
        obtain ⟨k, -, rfl⟩ := List.mem_map.mp member
        exact Part.reports_channel _ _ k (channel k).symm
      have same := t.laneAfter_records told b x records
      rw [← whole] at same
      obtain ⟨queue, rest⟩ := Prod.mk.inj same
      exact ⟨queue, (Prod.mk.inj rest).1⟩

/-! ### The obligation -/

/-- What STANDBY entry makes of a channel's supply and setting. -/
theorem Channel.down_facts (c : Channel) :
    let y := Channel.condEval .standby (Channel.fall .standby (if c.phantom = .queued then c.endTimer .standby .off else c))
    y.ramp.target = 0 ∧ y.request = c.request ∧ y.gainTarget = c.gainTarget ∧
    y.phantom = (match c.phantom with
      | .off => .off
      | .queued => .off
      | .rising => .falling
      | .on => .falling
      | .falling => .falling) ∧
    (c.phantom = .rising ∨ c.phantom = .on → y.phantomTimer = 24000 ∧ y.version = c.version) := by
  have silent (k : Channel) : (Channel.condEval .standby k).ramp.target = 0 := by
    unfold Channel.condEval
    exact (Ramp.retarget_target ..).trans (if_neg fun h => by cases h.2.2)
  intro y
  refine ⟨silent _, ?_⟩
  show y.request = _ ∧ _
  unfold y Channel.condEval Channel.fall
  cases h : c.phantom with
  | queued =>
    rw [if_pos rfl]
    exact ⟨rfl, rfl, rfl, fun h => h.elim nofun nofun⟩
  | off | falling =>
    rw [if_neg nofun, h]
    exact ⟨rfl, rfl, h, fun h => h.elim nofun nofun⟩
  | rising | on =>
    rw [if_neg nofun, h]
    exact ⟨rfl, rfl, rfl, fun _ => ⟨rfl, rfl⟩⟩

/-- Settles O25: the paths and the merge at either end, and at STAGE the channels, the masters and the sessions with their echoes. -/
theorem standbyEntryEffects : Obligations.StandbyEntryEffects := by
  intro tag s ready inv op
  have taken : exec (.setState tag 0) s = .next { s with part := s.part.setState tag 0 } :=
    exec_request_act tag (.setState 0) s ready ((s.part.refusal_setState 0).trans (if_pos (by decide)))
  refine ⟨s.part.standbyEntry.answer tag .ok, taken.trans (next_part s (s.part.setState_operate tag op)), ?_⟩
  obtain ⟨paths, fmu⟩ := s.part.standbyEntry_link
  have tables := s.part.standbyEntry_tables
  generalize s.part.standbyEntry = y at paths fmu tables ⊢
  refine ⟨fun p => ?_, fmu, fun stage => ?_⟩
  · have after := (s.part.setOp .standby 0).standbyAligns_stoodBy p
    rw [← paths p] at after
    exact ⟨after.state, after.cause, after.cleared⟩
  · have down := tables stage inv
    refine ⟨down.queue, fun n lt => ?_, down.masters, down.sessions, fun talk => ?_⟩
    · have channel : (y.answer tag .ok).channel n = y.channel n := rfl
      rw [channel, down.channel n lt]
      exact (s.part.channel n).down_facts
    · have same (ts : List Target) : (y.answer tag .ok).laneAfter s.part ts = y.laneAfter s.part ts :=
        Part.laneAfter_congr _ _ _ _ _ rfl fun t _ => Part.reports_withCmp y _ t
      obtain ⟨faded, queue, marks⟩ := down.talk talk.agree
      refine ⟨faded, ?_⟩
      intro told
      rw [same]
      exact ⟨queue, marks⟩

end Sys2Proof.Machine
end

section
/-!
PROOFS. A sample event up to its playout (R15, R41, R45, R68 to R72, R90): what the lane has sent, and what the blocks that produce echoes
show then; the refill of the lane depends on no more than that.
-/

namespace Sys2Proof.Machine

/-! ### The part before the playout -/

/-- The part as the playout of a sample event finds it: the timers counted, the channels conditioned, the symbols sent. -/
def Part.atLane (i : SampleInput) (x : Part) : Part := (x.takePorts i).timers.stageCondition.takeLane

theorem Part.atCompose_eq (i : SampleInput) (x : Part) :
    x.atCompose i = (((x.atLane i).playout i.expiryFirst).stageWork).meters i.emitFirst := rfl

@[simp] theorem Part.atLane_fmu (i : SampleInput) (x : Part) : (x.atLane i).fmu = x.fmu := by simp [Part.atLane]
@[simp] theorem Part.atLane_mxe (i : SampleInput) (x : Part) : (x.atLane i).mxe = x.mxe := by simp [Part.atLane]
@[simp] theorem Part.atLane_mtu (i : SampleInput) (x : Part) : (x.atLane i).mtu = x.mtu := by simp [Part.atLane]
@[simp] theorem Part.atLane_cmp (i : SampleInput) (x : Part) : (x.atLane i).cmp = x.cmp := by simp [Part.atLane]
@[simp] theorem Part.atLane_api (i : SampleInput) (x : Part) : (x.atLane i).api = x.api := by simp [Part.atLane]
@[simp] theorem Part.atLane_mirror (i : SampleInput) (x : Part) : (x.atLane i).mirror = x.mirror := by simp [Part.atLane]

theorem Part.atLane_dsc (i : SampleInput) (x : Part) : (x.atLane i).dsc =
    if x.dsc.opState = .waking then { x.dsc with wakeTimer := x.dsc.wakeTimer - 1 } else x.dsc := by
  simp only [Part.atLane, Part.takeLane_dsc, Part.stageCondition_dsc, Part.timers_dsc]
  rfl

@[simp] theorem Part.atLane_role (i : SampleInput) (x : Part) : (x.atLane i).dsc.role = x.dsc.role := by
  rw [Part.atLane_dsc]; split <;> rfl
@[simp] theorem Part.atLane_opState (i : SampleInput) (x : Part) : (x.atLane i).dsc.opState = x.dsc.opState := by
  rw [Part.atLane_dsc]; split <;> rfl
@[simp] theorem Part.atLane_restartFlag (i : SampleInput) (x : Part) : (x.atLane i).dsc.restartFlag = x.dsc.restartFlag := by
  rw [Part.atLane_dsc]; split <;> rfl

/-! ### The channels and the sources before the playout -/

/-- A channel of the STAGE end at a sample event: its timers counted, its ramp advanced (R90, R92, R94). -/
def Channel.sampled (c : Channel) : Channel := { c.walkTick.phantomTick with ramp := c.ramp.advance }

theorem Channel.powerOn_sampled : Channel.powerOn.sampled.echo = Channel.powerOn.echo := rfl

theorem Part.atLane_chs (i : SampleInput) (x : Part) : (x.atLane i).chs = match x.dsc.role with
    | .stage => { x.chs with channels := x.chs.channels.map Channel.sampled }
    | .desk => x.chs := by
  have timed := (x.takePorts i).timers_chs
  have role : (x.takePorts i).timers.dsc.role = x.dsc.role := Part.timers_role _
  unfold Part.atLane
  rw [Part.takeLane_chs]
  cases h : x.dsc.role with
  | stage =>
    rw [Part.stageCondition_stage _ (role.trans h)]
    have timed : (x.takePorts i).timers.chs = { x.chs with channels := x.chs.channels.map fun c => c.walkTick.phantomTick } := by
      rw [timed, show (x.takePorts i).dsc.role = .stage from h]; rfl
    unfold Part.condition
    dsimp only
    rw [timed]
    dsimp only
    rw [List.map_map]
    rfl
  | desk =>
    rw [Part.stageCondition_desk _ (role.trans h), timed, show (x.takePorts i).dsc.role = .desk from h]
    rfl

theorem Part.atLane_tka (i : SampleInput) (x : Part) : (x.atLane i).tka = match x.dsc.role with
    | .stage => x.latchTicks.tka
    | .desk => x.tka := by
  unfold Part.atLane
  rw [Part.takeLane_tka, Part.stageCondition_tka, Part.timers_tka]
  rfl

/-- The latch timers of all sources. -/
theorem Part.latchTicks_tka (x : Part) : x.latchTicks.tka = { x.tka with
    foh := { x.tka.foh with session := x.tka.foh.session.map (Session.latchTick x.tka.cfg.limit) }
    mon := { x.tka.mon with session := x.tka.mon.session.map (Session.latchTick x.tka.cfg.limit) }
    stg := { x.tka.stg with session := x.tka.stg.session.map (Session.latchTick x.tka.cfg.limit) } } := rfl

theorem Session.latchTick_echo (limit : Nat) (z : Session) : (z.latchTick limit).echo = z.echo := by
  unfold Session.latchTick; split <;> rfl

/-! ### What echoes and the dump read -/

/-- What the echo of every target reads is the same in two parts, and so is the role. -/
structure Part.SameEchoes (x y : Part) : Prop where
  role : y.dsc.role = x.dsc.role
  channel : ∀ n, (y.channel n).echo = (x.channel n).echo
  mix : ∀ m, y.mix m = x.mix m
  source : ∀ s, (y.tka.source s).echo = (x.tka.source s).echo
  cfg : y.tka.cfg = x.tka.cfg
  locks : y.chs.locks = x.chs.locks

theorem Part.SameEchoes.buildEcho {x y : Part} (same : x.SameEchoes y) (t : Target) : y.buildEcho t = x.buildEcho t := by
  unfold Part.buildEcho
  cases t <;> simp only [same.channel, same.mix, same.source, same.cfg, same.locks]

theorem Part.SameEchoes.nextLive {x y : Part} (same : x.SameEchoes y) (m k : Nat) : y.nextLive m k = x.nextLive m k := by
  unfold Part.nextLive
  simp only [same.mix]

theorem Part.SameEchoes.dumpNext {x y : Part} (same : x.SameEchoes y) (dump : y.ple.dump = x.ple.dump) : y.dumpNext = x.dumpNext := by
  have foh := same.source .foh
  have mon := same.source .mon
  have stg := same.source .stg
  unfold Tka.source at foh mon stg
  unfold Part.dumpNext
  rw [dump, foh, mon, stg, same.cfg, same.locks]
  simp only [same.channel, same.mix, same.nextLive]

theorem Part.SameEchoes.dumpFill {x y : Part} (same : x.SameEchoes y) (n : Nat) (ple : y.ple = x.ple) :
    (Part.dumpFill n y).ple = (Part.dumpFill n x).ple := by
  induction n generalizing x y with
  | zero => exact ple
  | succ n ih =>
    unfold Part.dumpFill
    rw [same.dumpNext (by rw [ple]), ple]
    split
    · split
      · exact ih ⟨same.role, same.channel, same.mix, same.source, same.cfg, same.locks⟩ rfl
      · exact ple
    · exact ple

theorem Part.SameEchoes.drainMarks {x y : Part} (same : x.SameEchoes y) (ms : List Mark) (ple : y.ple = x.ple) :
    (Part.drainMarks ms y).ple = (Part.drainMarks ms x).ple := by
  induction ms generalizing x y with
  | nil => unfold Part.drainMarks; rw [ple]
  | cons m ms ih =>
    have told : y.markMsg m = x.markMsg m := by
      cases m
      · exact same.buildEcho _
      · rfl
    unfold Part.drainMarks
    rw [told, ple]
    split
    · split
      · exact ih ⟨same.role, same.channel, same.mix, same.source, same.cfg, same.locks⟩ rfl
      · exact ih same ple
    · rfl

theorem Part.SameEchoes.refill {x y : Part} (same : x.SameEchoes y) (ple : y.ple = x.ple) : y.refill.ple = x.refill.ple := by
  have drained := same.drainMarks x.ple.marks ple
  obtain ⟨l, hy⟩ := Part.drainMarks_eq x.ple.marks y
  obtain ⟨k, hx⟩ := Part.drainMarks_eq x.ple.marks x
  rw [hy, hx] at drained
  have lk : l = k := drained
  subst lk
  unfold Part.refill
  rw [same.role, ple, hy, hx]
  split
  · exact ple
  · dsimp only
    split
    · exact Part.SameEchoes.dumpFill (x := { x with ple := l }) (y := { y with ple := l }) ⟨same.role, same.channel, same.mix, same.source, same.cfg, same.locks⟩ 32 rfl
    · rfl

/-- Before the playout the echoes say what they said before the event. -/
theorem Part.atLane_sameEchoes (i : SampleInput) (x : Part) : x.SameEchoes (x.atLane i) := by
  have chs := x.atLane_chs i
  have tka := x.atLane_tka i
  have mix (m : Nat) : (x.atLane i).mix m = x.mix m := congrArg (fun t : Mxe => t.mixes.getD m Mix.powerOn) (x.atLane_mxe i)
  have role := x.atLane_role i
  cases h : x.dsc.role with
  | desk =>
    rw [h] at chs tka
    have channel (n : Nat) : (x.atLane i).channel n = x.channel n := congrArg (fun c : Chs => c.channels.getD n Channel.powerOn) chs
    exact ⟨role, fun n => by rw [channel], mix, fun s => by rw [tka], by rw [tka], by rw [chs]⟩
  | stage =>
    rw [h] at chs tka
    refine ⟨role, fun n => ?_, mix, fun s => ?_, by rw [tka]; rfl, by rw [chs]⟩
    · have channel : (x.atLane i).channel n = (x.chs.channels.map Channel.sampled).getD n Channel.powerOn :=
        congrArg (fun c : Chs => c.channels.getD n Channel.powerOn) chs
      rw [channel]
      unfold Part.channel
      by_cases lt : n < x.chs.channels.length
      · rw [List.getD_map_lt Channel.sampled _ n Channel.powerOn Channel.powerOn lt]
        rfl
      · rw [List.getD_eq_default _ _ (by simpa using lt), List.getD_eq_default _ _ (by simpa using lt)]
    · rw [tka, x.latchTicks_tka]
      have told (r : SourceRec) : ({ r with session := r.session.map (Session.latchTick x.tka.cfg.limit) } : SourceRec).echo = r.echo := by
        unfold SourceRec.echo
        cases r.session <;> simp [Session.latchTick_echo]
      cases s <;> exact told _

/-! ### The lane before the playout (R41, R68, R71) -/

theorem Ple.timerTick_kept (run : Bool) (l : Ple) : (l.timerTick run).episode = l.episode ∧ (l.timerTick run).quietTail = l.quietTail ∧
    (l.timerTick run).queue = l.queue ∧ (l.timerTick run).expSeq = l.expSeq ∧ (l.timerTick run).cursor = l.cursor ∧
    (l.timerTick run).tailDue = l.tailDue ∧ (l.timerTick run).nextSeq = l.nextSeq ∧ (l.timerTick run).ackSent = l.ackSent ∧
    (l.timerTick run).ackRaised = l.ackRaised ∧ (l.timerTick run).asm = l.asm := by
  unfold Ple.timerTick
  split <;> exact ⟨rfl, rfl, rfl, rfl, rfl, rfl, rfl, rfl, rfl, rfl⟩

/-- The resend timer counted, with the link and the lane as they are. -/
def Part.timedLane (x : Part) : Ple := x.ple.timerTick (x.fmu.link.up && !x.quiet)

/-- The lane once the event's symbols were taken from it. -/
def Part.sentLane (x : Part) : Ple :=
  if x.anyFull then { (Ple.takeSyms x.quiet 4 x.timedLane).2 with ackSent := (x.ple.expSeq + 255) % 256 } else x.timedLane

theorem Ple.takeSym_kept (quiet : Bool) (l : Ple) : (l.takeSym quiet).2.expSeq = l.expSeq ∧ (l.takeSym quiet).2.episode = l.episode ∧
    (l.takeSym quiet).2.quietTail = l.quietTail ∧ (l.takeSym quiet).2.tailDue = l.tailDue ∧
    (l.takeSym quiet).2.ackRaised = l.ackRaised ∧ (l.takeSym quiet).2.ackSent = l.ackSent ∧ (l.takeSym quiet).2.asm = l.asm ∧
    (l.takeSym quiet).2.goBackDue = l.goBackDue := by
  unfold Ple.takeSym
  repeat' split
  all_goals exact ⟨rfl, rfl, rfl, rfl, rfl, rfl, rfl, rfl⟩

theorem Ple.takeSyms_kept (quiet : Bool) (n : Nat) (l : Ple) : (Ple.takeSyms quiet n l).2.expSeq = l.expSeq ∧
    (Ple.takeSyms quiet n l).2.episode = l.episode ∧ (Ple.takeSyms quiet n l).2.quietTail = l.quietTail ∧
    (Ple.takeSyms quiet n l).2.tailDue = l.tailDue ∧ (Ple.takeSyms quiet n l).2.ackRaised = l.ackRaised ∧
    (Ple.takeSyms quiet n l).2.ackSent = l.ackSent ∧ (Ple.takeSyms quiet n l).2.asm = l.asm ∧
    (Ple.takeSyms quiet n l).2.goBackDue = l.goBackDue := by
  induction n generalizing l with
  | zero => exact ⟨rfl, rfl, rfl, rfl, rfl, rfl, rfl, rfl⟩
  | succ n ih =>
    obtain ⟨h1, h2, h3, h4, h5, h6, h7, h8⟩ := ih (l.takeSym quiet).2
    obtain ⟨k1, k2, k3, k4, k5, k6, k7, k8⟩ := l.takeSym_kept quiet
    exact ⟨h1.trans k1, h2.trans k2, h3.trans k3, h4.trans k4, h5.trans k5, h6.trans k6, h7.trans k7, h8.trans k8⟩

/-- The part the symbols are taken from: its transmitters, its quiet and its lane. -/
theorem Part.beforeLane_facts (i : SampleInput) (x : Part) :
    let z := (x.takePorts i).timers.stageCondition
    z.anyFull = x.anyFull ∧ z.quiet = x.quiet ∧ z.ple = x.timedLane := by
  intro z
  have ple : z.ple = x.timedLane := by
    refine (Part.stageCondition_ple _).trans ((x.takePorts i).timers_ple.trans rfl)
  obtain ⟨episode, tail, -⟩ := x.ple.timerTick_kept (x.fmu.link.up && !x.quiet)
  have pa : z.pa.tx = x.pa.tx := by
    show (x.takePorts i).timers.stageCondition.pa.tx = _
    rw [Part.stageCondition_pa, Part.timers_pa]
    rfl
  have pb : z.pb.tx = x.pb.tx := by
    show (x.takePorts i).timers.stageCondition.pb.tx = _
    rw [Part.stageCondition_pb, Part.timers_pb]
    rfl
  have dsc : z.dsc.restartFlag = x.dsc.restartFlag := by
    show (x.takePorts i).timers.stageCondition.dsc.restartFlag = _
    rw [Part.stageCondition_dsc, Part.timers_dsc]
    split <;> rfl
  refine ⟨?_, ?_, ple⟩
  · unfold Part.anyFull
    rw [pa, pb]
  · unfold Part.quiet
    rw [ple, dsc]
    unfold Part.timedLane
    rw [episode, tail]

theorem Part.atLane_ple (i : SampleInput) (x : Part) : (x.atLane i).ple = x.sentLane := by
  obtain ⟨full, quiet, ple⟩ := x.beforeLane_facts i
  unfold Part.atLane Part.takeLane
  generalize (x.takePorts i).timers.stageCondition = z at full quiet ple ⊢
  unfold Part.sentLane
  have ack : (Ple.takeSyms x.quiet 4 x.timedLane).2.ack = (x.ple.expSeq + 255) % 256 := by
    unfold Ple.ack
    rw [(Ple.takeSyms_kept ..).1]
    unfold Part.timedLane
    rw [(x.ple.timerTick_kept _).2.2.2.1]
  rw [full, quiet, ple]
  split
  · dsimp only
    rw [ack]
  · exact ple

theorem Part.sentLane_kept (x : Part) : x.sentLane.episode = x.ple.episode ∧ x.sentLane.quietTail = x.ple.quietTail ∧
    x.sentLane.tailDue = x.ple.tailDue ∧ x.sentLane.ackRaised = x.ple.ackRaised ∧ x.sentLane.asm = x.ple.asm := by
  obtain ⟨h1, h2, -, -, -, h3, -, -, h4, h5⟩ := x.ple.timerTick_kept (x.fmu.link.up && !x.quiet)
  unfold Part.sentLane
  split
  · obtain ⟨-, k1, k2, k3, k4, -, k5, -⟩ := Ple.takeSyms_kept x.quiet 4 x.timedLane
    exact ⟨k1.trans h1, k2.trans h2, k3.trans h3, k4.trans h4, k5.trans h5⟩
  · exact ⟨h1, h2, h3, h4, h5⟩

theorem Part.atLane_quiet (i : SampleInput) (x : Part) : (x.atLane i).quiet = x.quiet := by
  obtain ⟨episode, tail, -⟩ := x.sentLane_kept
  unfold Part.quiet
  rw [x.atLane_ple, x.atLane_restartFlag, episode, tail]

end Sys2Proof.Machine
end

section
/-!
PROOFS. The playout of a sample event (R45 to R50, R68 to R72, R76, R80): the merge unit, and what the lane takes of the frame played.
-/

namespace Sys2Proof.Machine

/-! ### The merge unit -/

theorem Part.sampleWork_played (i : SampleInput) (x : Part) :
    (x.sampleWork i).bus.played = (x.fmu.playout.2.concealed x.fmu.playout.1).1 := by
  rw [Part.sampleWork_eq, Part.outputs_bus]
  show (x.atCompose i).bus.played = _
  rw [Part.atCompose_eq]
  simp [Part.playout_played]

/-- The frame of a playout: none without a pointer. -/
theorem Fmu.playout_frame (fm : Fmu) : fm.playout.1 = match (generalizing := false) fm.p with
    | some q => if (fm.slots.getD (q % 16) MergeSlot.empty).seq = some q
        then (fm.slots.getD (q % 16) MergeSlot.empty).stored else none
    | none => none := by
  unfold Fmu.playout
  cases at_ : fm.p with
  | none => rfl
  | some q => rfl

/-- A playout empties its slot, moves the pointer on and counts a gap. -/
theorem Fmu.playout_after (fm : Fmu) : fm.playout.2 = { fm with
    slots := fm.playout.2.slots
    p := fm.p.map fun q => (q + 1) % 65536
    gaps := if fm.p.isSome = true ∧ fm.playout.1.isNone = true then min 65535 (fm.gaps + 1) else fm.gaps } ∧
    ∀ j, fm.playout.2.slots.getD j MergeSlot.empty =
      if fm.p.isSome = true ∧ j = fm.p.getD 0 % 16 then MergeSlot.empty else fm.slots.getD j MergeSlot.empty := by
  cases at_ : fm.p with
  | none =>
    have same : fm.playout = (none, fm) := by
      unfold Fmu.playout
      rw [at_]
    rw [same]
    refine ⟨?_, fun j => (if_neg nofun).symm⟩
    have p : (Option.none : Option Nat).map (fun q => (q + 1) % 65536) = fm.p := at_.symm
    rw [if_neg nofun, p]
  | some q =>
    have same : fm.playout = (fm.playout.1, { fm with
        slots := updAt (q % 16) (fun _ => MergeSlot.empty) fm.slots
        p := some (inc16 q)
        gaps := if fm.playout.1.isSome then fm.gaps else satInc fm.gaps }) := by
      unfold Fmu.playout
      rw [at_]
    generalize fm.playout.1 = got at same
    rw [same]
    refine ⟨?_, fun j => ?_⟩
    · cases got <;> simp [satInc_eq, inc16]
    · show (updAt (q % 16) (fun _ => MergeSlot.empty) fm.slots).getD j MergeSlot.empty = _
      rw [updAt_getD]
      by_cases e : j = q % 16
      · subst e
        by_cases inside : q % 16 < fm.slots.length
        · simp [inside]
        · simp [inside]
      · simp [e]

/-- One playout of the merge unit with its concealment. -/
theorem Part.sampleWork_merge (i : SampleInput) (x : Part) :
    let got := x.fmu.playout.1
    let y := x.sampleWork i
    let vals : List Sample := match got with
      | some f => f.audio
      | none => x.fmu.lastGood
    y.fmu.p = x.fmu.p.map (fun q => (q + 1) % 65536) ∧
    (∀ j, y.fmu.slots.getD j MergeSlot.empty =
      if x.fmu.p.isSome = true ∧ j = x.fmu.p.getD 0 % 16 then MergeSlot.empty else x.fmu.slots.getD j MergeSlot.empty) ∧
    y.fmu.gaps = (if x.fmu.p.isSome = true ∧ got.isNone = true then min 65535 (x.fmu.gaps + 1) else x.fmu.gaps) ∧
    y.fmu.conceal = (x.fmu.conceal.retarget (if got.isSome then 65536 else 0)).advance ∧
    y.fmu.lastGood = vals ∧ y.bus.played = vals.map (fun v => (v * y.fmu.conceal.cur + 32768) / 65536) ∧
    y.fmu.ref = x.fmu.ref ∧ y.fmu.link = x.fmu.link ∧ y.fmu.delay = x.fmu.delay ∧ y.fmu.anchor = x.fmu.anchor ∧
    y.fmu.reTotal = x.fmu.reTotal := by
  intro got y vals
  have fmu : y.fmu = _ := x.sampleWork_fmu i
  have played : y.bus.played = _ := x.sampleWork_played i
  obtain ⟨after, slots⟩ := x.fmu.playout_after
  have conceal : y.fmu.conceal = (x.fmu.playout.2.conceal.retarget (if got.isSome then unity else 0)).advance := by rw [fmu]; rfl
  have last : x.fmu.playout.2.lastGood = x.fmu.lastGood := by rw [after]
  have ramp : x.fmu.playout.2.conceal = x.fmu.conceal := by rw [after]
  rw [ramp] at conceal
  refine ⟨?_, ?_, ?_, conceal, ?_, ?_, ?_⟩
  · rw [fmu]
    show x.fmu.playout.2.p = _
    rw [after]
  · rw [fmu]
    exact slots
  · rw [fmu]
    show x.fmu.playout.2.gaps = _
    rw [after]
  · rw [fmu]
    show (match got with
      | some f => f.audio
      | none => x.fmu.playout.2.lastGood) = _
    rw [last]
  · rw [played, fmu]
    show (match got with
      | some f => f.audio
      | none => x.fmu.playout.2.lastGood).map _ = _
    rw [last]
    rfl
  · rw [fmu]
    show x.fmu.playout.2.ref = _ ∧ x.fmu.playout.2.link = _ ∧ x.fmu.playout.2.delay = _ ∧ x.fmu.playout.2.anchor = _ ∧
      x.fmu.playout.2.reTotal = _
    rw [after]
    exact ⟨rfl, rfl, rfl, rfl, rfl⟩

/-! ### The lane at the playout -/

theorem Part.sampleWork_ple (i : SampleInput) (x : Part) : (x.sampleWork i).ple = ((x.atLane i).playout i.expiryFirst).ple := by
  rw [Part.sampleWork_eq, Part.outputs_ple]
  show (x.atCompose i).ple = _
  rw [Part.atCompose_eq]
  simp

theorem Ple.takeIn_kept (y : Sym) (l : Ple) : (l.takeIn y).episode = l.episode ∧ (l.takeIn y).quietTail = l.quietTail ∧
    (l.takeIn y).queue = l.queue ∧ (l.takeIn y).goBackDue = l.goBackDue ∧ (l.takeIn y).resendTimer = l.resendTimer ∧
    (l.takeIn y).tailDue = l.tailDue ∧ (l.takeIn y).nextSeq = l.nextSeq ∧ (l.takeIn y).ackSent = l.ackSent := by
  unfold Ple.takeIn Ple.breakRecord
  repeat' split
  all_goals exact ⟨rfl, rfl, rfl, rfl, rfl, rfl, rfl, rfl⟩

theorem Ple.takeInAll_kept (ys : List Sym) (l : Ple) : (l.takeInAll ys).episode = l.episode ∧ (l.takeInAll ys).quietTail = l.quietTail ∧
    (l.takeInAll ys).queue = l.queue ∧ (l.takeInAll ys).goBackDue = l.goBackDue ∧ (l.takeInAll ys).resendTimer = l.resendTimer ∧
    (l.takeInAll ys).tailDue = l.tailDue ∧ (l.takeInAll ys).nextSeq = l.nextSeq ∧ (l.takeInAll ys).ackSent = l.ackSent := by
  induction ys generalizing l with
  | nil => exact ⟨rfl, rfl, rfl, rfl, rfl, rfl, rfl, rfl⟩
  | cons y ys ih =>
    obtain ⟨h1, h2, h3, h4, h5, h6, h7, h8⟩ := ih (l.takeIn y)
    obtain ⟨k1, k2, k3, k4, k5, k6, k7, k8⟩ := l.takeIn_kept y
    exact ⟨h1.trans k1, h2.trans k2, h3.trans k3, h4.trans k4, h5.trans k5, h6.trans k6, h7.trans k7, h8.trans k8⟩

theorem Ple.takeGoBack_kept (l : Ple) : l.takeGoBack.episode = l.episode ∧ l.takeGoBack.quietTail = l.quietTail ∧
    l.takeGoBack.tailDue = l.tailDue := by
  unfold Ple.takeGoBack
  split <;> exact ⟨rfl, rfl, rfl⟩

/-- The lane with the symbols of a played frame taken, and a go-back that came due before its ack. -/
def Part.backLane (expiryFirst : Bool) (f : Frame) (x : Part) : Ple :=
  if expiryFirst then (x.sentLane.takeInAll f.syms).takeGoBack else x.sentLane.takeInAll f.syms

theorem Part.backLane_kept (e : Bool) (f : Frame) (x : Part) :
    (x.backLane e f).episode = x.ple.episode ∧ (x.backLane e f).quietTail = x.ple.quietTail ∧ (x.backLane e f).tailDue = x.ple.tailDue := by
  obtain ⟨s1, s2, s3, -⟩ := x.sentLane_kept
  obtain ⟨t1, t2, -, -, -, t3, -⟩ := x.sentLane.takeInAll_kept f.syms
  obtain ⟨b1, b2, b3⟩ := (x.sentLane.takeInAll f.syms).takeGoBack_kept
  unfold Part.backLane
  cases e
  · exact ⟨t1.trans s1, t2.trans s2, t3.trans s3⟩
  · exact ⟨b1.trans (t1.trans s1), b2.trans (t2.trans s2), b3.trans (t3.trans s3)⟩

/-- A good playout's symbols, a go-back, its ack, and the places freed filled. -/
theorem Part.playGood_ple (e : Bool) (f : Frame) (x y : Part) (same : x.SameEchoes y) (ple : y.ple = x.sentLane)
    (flag : y.dsc.restartFlag = x.dsc.restartFlag) :
    (y.playGood e f).ple = (Part.refill { x with ple := (x.backLane e f).takeAck x.quiet f.ack }).ple := by
  let z : Part := { y with ple := x.backLane e f }
  obtain ⟨episode, tail, -⟩ := x.backLane_kept e f
  have back : (if e then (y.onPle fun l => l.takeInAll f.syms).onPle Ple.takeGoBack else y.onPle fun l => l.takeInAll f.syms) = z := by
    unfold Part.onPle z Part.backLane
    rw [ple]
    cases e <;> rfl
  have still : z.quiet = x.quiet := by
    unfold Part.quiet
    show (y.dsc.restartFlag || (x.backLane e f).episode || decide (0 < (x.backLane e f).quietTail)) = _
    rw [flag, episode, tail]
  have filled : (y.playGood e f).ple = (Part.refill { y with ple := (x.backLane e f).takeAck x.quiet f.ack }).ple := by
    unfold Part.playGood
    dsimp only
    rw [back, still]
    split <;> rfl
  rw [filled]
  exact Part.SameEchoes.refill (x := { x with ple := (x.backLane e f).takeAck x.quiet f.ack })
    ⟨same.role, same.channel, same.mix, same.source, same.cfg, same.locks⟩ rfl

/-- What the lane does at the playout. -/
theorem Part.sampleWork_lane (i : SampleInput) (x : Part) :
    (x.fmu.playout.1 = none → (x.sampleWork i).ple = x.sentLane.breakRecord.tailTick) ∧
    (∀ f, x.fmu.playout.1 = some f → (x.sampleWork i).ple =
      (Part.refill { x with ple := (x.backLane i.expiryFirst f).takeAck x.quiet f.ack }).ple.tailTick) := by
  have same := x.atLane_sameEchoes i
  have ple := x.atLane_ple i
  have flag := x.atLane_restartFlag i
  have fmu := x.atLane_fmu i
  rw [x.sampleWork_ple i]
  generalize x.atLane i = y at same ple flag fmu
  unfold Part.playout
  dsimp only
  rw [fmu]
  refine ⟨fun gap => ?_, fun f good => ?_⟩
  · rw [gap]
    show y.ple.breakRecord.tailTick = _
    rw [ple]
  · rw [good]
    refine congrArg Ple.tailTick (Part.playGood_ple i.expiryFirst f x _ ?_ ple flag)
    exact ⟨same.role, same.channel, same.mix, same.source, same.cfg, same.locks⟩

/-! ### The assembler (R72) -/

theorem Ple.breakRecord_eq (l : Ple) :
    l.breakRecord = if l.asm = .idle then l else { l with asm := .idle, broken := min 65535 (l.broken + 1) } := by
  unfold Ple.breakRecord
  rw [satInc_eq]

/-- A symbol with the marker clear, by what the assembler is at. -/
theorem Ple.takeIn_data (l : Ple) (y : Sym) (clear : y.marker = false) :
    (l.asm = .idle → l.takeIn y = l) ∧
    (∀ k, l.asm = .header k → l.takeIn y = { l with asm := .sequence k y.data }) ∧
    (∀ k q, l.asm = .sequence k q →
      (40 < y.data → l.takeIn y = l.breakRecord) ∧
      (y.data = 0 → l.takeIn y = { l with asm := .idle, done := l.done ++ [⟨k, q, []⟩] }) ∧
      (1 ≤ y.data → y.data ≤ 40 → l.takeIn y = { l with asm := .body k q y.data [] })) ∧
    (∀ k q n bytes, l.asm = .body k q n bytes →
      (bytes.length + 1 < n → l.takeIn y = { l with asm := .body k q n (bytes ++ [y.data]) }) ∧
      (n ≤ bytes.length + 1 → l.takeIn y = { l with asm := .idle, done := l.done ++ [⟨k, q, bytes ++ [y.data]⟩] })) := by
  unfold Ple.takeIn
  rw [clear, if_neg Bool.false_ne_true]
  refine ⟨fun at_ => ?_, fun k at_ => ?_, fun k q at_ => ?_, fun k q n bytes at_ => ?_⟩
  · rw [at_]
  · rw [at_]
  · rw [at_]
    refine ⟨fun long => if_pos long, fun zero => ?_, fun some_ fits => ?_⟩ <;> dsimp only
    · rw [if_neg (show ¬ 40 < y.data by omega), if_pos zero]
    · rw [if_neg (show ¬ 40 < y.data by omega), if_neg (show ¬ y.data = 0 by omega)]
  · rw [at_]
    have size : (bytes ++ [y.data]).length = bytes.length + 1 := List.length_append
    exact ⟨fun more => if_pos (by omega), fun last => if_neg (by omega)⟩

/-! ### The obligation -/

theorem Part.anyFull_iff (x : Part) : x.anyFull = true ↔ x.pa.tx = .full ∨ x.pb.tx = .full := by
  unfold Part.anyFull
  simp

theorem LinkState.up_iff (l : LinkState) : l.up = true ↔ l = .protect ∨ l = .exposed := by
  cases l <;> simp [LinkState.up]

theorem Part.timedLane_eq (x : Part) : x.timedLane =
    if (x.fmu.link = .protect ∨ x.fmu.link = .exposed) ∧ x.quiet = false ∧ 0 < x.ple.inFlight then { x.ple with
      resendTimer := min 192 (x.ple.resendTimer + 1), goBackDue := x.ple.goBackDue || decide (192 ≤ x.ple.resendTimer + 1) } else x.ple := by
  have up := x.fmu.link.up_iff
  unfold Part.timedLane Ple.timerTick
  simp only [Bool.and_eq_true, Bool.not_eq_true', decide_eq_true_eq, up, and_assoc]

theorem Part.sentLane_eq (x : Part) : x.sentLane = if x.pa.tx = .full ∨ x.pb.tx = .full
    then { (Ple.takeSyms x.quiet 4 x.timedLane).2 with ackSent := (x.ple.expSeq + 255) % 256 } else x.timedLane := by
  unfold Part.sentLane
  simp only [x.anyFull_iff]

/-- Settles O6: the merge unit's playout, the lane at it, and the assembler's symbol. -/
theorem sampleEventPlaysOneFrame : Obligations.SampleEventPlaysOneFrame := by
  refine ⟨fun i s pin settled => ⟨_, exec_sampleEvent_settled i s pin settled, ?_⟩,
    fun i s pin settled => ⟨_, exec_sampleEvent_settled i s pin settled, ?_⟩, fun l y => ?_⟩
  · intro fm got
    have played : got = fm.playout.1 := fm.playout_frame.symm
    clear_value got
    subst played
    exact s.part.sampleWork_merge i
  · intro fm got
    have played : got = fm.playout.1 := fm.playout_frame.symm
    clear_value got
    subst played
    intro l runs timed sent tail
    have timed_eq : timed = s.part.timedLane := s.part.timedLane_eq.symm
    clear_value timed
    subst timed_eq
    have sent_eq : sent = s.part.sentLane := s.part.sentLane_eq.symm
    clear_value sent
    subst sent_eq
    obtain ⟨gap, good⟩ := s.part.sampleWork_lane i
    refine ⟨fun none_ => ?_, fun f some_ => ?_⟩
    · rw [gap none_, Ple.breakRecord_eq]
      rfl
    · rw [good f some_]
      intro taken back
      have same : back = s.part.backLane i.expiryFirst f := by
        unfold Part.backLane Ple.takeGoBack
        unfold back
        cases i.expiryFirst with
        | false => exact if_neg nofun
        | true =>
          simp only [true_and, if_true, satInc_eq, Bool.and_eq_true, decide_eq_true_eq]
          rfl
      rw [same]
      rfl
  · intro broken
    have same : broken = l.breakRecord := l.breakRecord_eq.symm
    clear_value broken
    subst same
    refine ⟨fun marker fill => ?_, fun marker kind => ?_, l.takeIn_data y⟩
    · unfold Ple.takeIn
      rw [marker]
      exact if_pos fill
    · unfold Ple.takeIn
      rw [marker]
      exact if_neg kind

end Sys2Proof.Machine
end

section
/-!
PROOFS. The mixes at a sample event (R118, R121 to R126, R130, R147): what one mix's computation writes, what all sixteen leave of the part,
and the event's mixes as chapter 6 states them.
-/

namespace Sys2Proof.Machine

/-! ### One mix -/

/-- The output of a mix at the event, with the clamps that acted. -/
def Part.outOf (x : Part) (m : Nat) : Sample × Bool × Bool :=
  if (x.mix m).heldAtZero x.dsc.opState then (0, false, false) else mixOutput x.bus (x.mix m).advance (x.talkSample m)

/-- A mix after the event, by its output. -/
def Mix.sampled (k : Mix) (out : Sample × Bool × Bool) : Mix :=
  { k.advance.markPhase with clip := k.clip || (out.2.1 || out.2.2) }

/-- A destination whose mix's talk ramp has ended its fade. -/
def Dest.faded (talkRamp : Ramp) (d : Dest) : Dest :=
  if d.state = .fading ∧ talkRamp.silent = true then { d with fadeDue := true } else d

/-- The notices once a mix was computed. -/
def Cmp.clipped (c : Cmp) (m : Nat) (k : Mix) (out : Sample × Bool × Bool) : Cmp :=
  if (out.2.1 || out.2.2) && !k.clip then c.notify (.clip m out.2.1 out.2.2) else c

/-- A destination marked where its fade ended. -/
theorem updAt_faded (d : Nat) (r : Ramp) (l : List Dest) :
    (if (l.getD d Dest.powerOn).state = .fading ∧ r.silent = true then updAt d (fun e => { e with fadeDue := true }) l else l) =
      updAt d (fun _ => (l.getD d Dest.powerOn).faded r) l := by
  unfold Dest.faded
  by_cases ended : (l.getD d Dest.powerOn).state = .fading ∧ r.silent = true
  · rw [if_pos ended]
    by_cases inside : d < l.length
    · refine updAt_congr d _ _ Dest.powerOn _ inside ?_
      rw [if_pos ended]
    · exact List.ext_getElem? fun j => by
        rw [updAt_get, updAt_get]
        by_cases e : j = d
        · subst e; simp [Nat.not_lt.mp inside]
        · simp [e]
  · rw [if_neg ended]
    refine (updAt_self d _ Dest.powerOn _ ?_).symm
    exact if_neg ended

theorem Part.mixCompute_eq (m : Nat) (x : Part) : x.mixCompute m = { x with
    mxe := { x.mxe with mixes := updAt m (fun _ => (x.mix m).sampled (x.outOf m)) x.mxe.mixes }
    tka := { x.tka with dests := updAt m (fun _ => (x.dest m).faded (x.mix m).talkRamp.advance) x.tka.dests }
    cmp := x.cmp.clipped m (x.mix m) (x.outOf m)
    bus := { x.bus with mixOut := x.bus.mixOut ++ [x.outOf m] } } := by
  have dests : (if (x.dest m).state = .fading ∧ (x.mix m).talkRamp.advance.silent = true
      then updAt m (fun r => { r with fadeDue := true }) x.tka.dests else x.tka.dests) =
      updAt m (fun _ => (x.dest m).faded (x.mix m).talkRamp.advance) x.tka.dests := updAt_faded m _ _
  rw [← dests]
  unfold Cmp.clipped
  by_cases ended : (x.dest m).state = .fading ∧ (x.mix m).talkRamp.advance.silent = true
  · rw [if_pos ended]
    by_cases clip : (((x.outOf m).2.1 || (x.outOf m).2.2) && !(x.mix m).clip) = true
    · rw [if_pos clip]
      exact (if_pos clip).trans (congrArg (Part.notify _) (if_pos ended))
    · rw [if_neg clip]
      exact (if_neg clip).trans (if_pos ended)
  · rw [if_neg ended]
    by_cases clip : (((x.outOf m).2.1 || (x.outOf m).2.2) && !(x.mix m).clip) = true
    · rw [if_pos clip]
      exact (if_pos clip).trans (congrArg (Part.notify _) (if_neg ended))
    · rw [if_neg clip]
      exact (if_neg clip).trans (if_neg ended)

/-! ### All mixes -/

/-- One more entry of a walk over a list. -/
theorem updAt_walk {α : Type} (f : Nat → α) (a : α) (old l : List α) (k : Nat) (size : l.length = old.length)
    (before : ∀ m, l.getD m a = if m < k ∧ m < old.length then f m else old.getD m a) (m : Nat) :
    (updAt k (fun _ => f k) l).getD m a = if m < k + 1 ∧ m < old.length then f m else old.getD m a := by
  rw [updAt_getD, before m, size]
  by_cases e : m = k
  · subst e
    by_cases inside : m < old.length
    · rw [if_pos ⟨rfl, inside⟩, if_pos ⟨Nat.lt_succ_self m, inside⟩]
    · rw [if_neg fun h => inside h.2, if_neg fun h => inside h.2, if_neg fun h => inside h.2]
  · rw [if_neg fun h => e h.1]
    simp only [show m < k + 1 ↔ m < k by omega]

/-- A part after its first `k` mixes were computed. -/
structure Part.Mixed (x : Part) (k : Nat) (y : Part) : Prop where
  whole : y = { x with
    mxe := { x.mxe with mixes := y.mxe.mixes }
    tka := { x.tka with dests := y.tka.dests }
    cmp := (List.range k).foldl (fun c m => c.clipped m (x.mix m) (x.outOf m)) x.cmp
    bus := { x.bus with mixOut := (List.range k).map x.outOf } }
  mixes : y.mxe.mixes.length = x.mxe.mixes.length
  dests : y.tka.dests.length = x.tka.dests.length
  mix : ∀ m, y.mix m = if m < k ∧ m < x.mxe.mixes.length then (x.mix m).sampled (x.outOf m) else x.mix m
  dest : ∀ d, y.dest d = if d < k ∧ d < x.tka.dests.length then (x.dest d).faded (x.mix d).talkRamp.advance else x.dest d

theorem Part.Mixed.cmp {x y : Part} {k : Nat} (h : x.Mixed k y) :
    y.cmp = (List.range k).foldl (fun c m => c.clipped m (x.mix m) (x.outOf m)) x.cmp :=
  (congrArg Part.cmp h.whole :)

/-- The output of a mix reads no other mix and no output before it. -/
theorem Part.Mixed.outOf {x y : Part} {k : Nat} (h : x.Mixed k y) : y.outOf k = x.outOf k := by
  have mix : y.mix k = x.mix k := (h.mix k).trans (if_neg fun b => Nat.lt_irrefl _ b.1)
  have dest : y.dest k = x.dest k := (h.dest k).trans (if_neg fun b => Nat.lt_irrefl _ b.1)
  have op : y.dsc.opState = x.dsc.opState := by rw [h.whole]
  have samples (s : Source) : y.tka.sampleOf s = x.tka.sampleOf s := by rw [h.whole]; rfl
  have bus : y.bus = { x.bus with mixOut := y.bus.mixOut } := by rw [h.whole]
  unfold Part.outOf Part.talkSample
  rw [mix, dest, op, bus]
  simp only [samples]
  rfl

theorem Part.Mixed.step {x y : Part} {k : Nat} (h : x.Mixed k y) : x.Mixed (k + 1) (y.mixCompute k) := by
  have mix : y.mix k = x.mix k := (h.mix k).trans (if_neg fun b => Nat.lt_irrefl _ b.1)
  have dest : y.dest k = x.dest k := (h.dest k).trans (if_neg fun b => Nat.lt_irrefl _ b.1)
  have out := h.outOf
  have stepped := Part.mixCompute_eq k y
  rw [mix, dest, out] at stepped
  have mixes : (y.mixCompute k).mxe.mixes = updAt k (fun _ => (x.mix k).sampled (x.outOf k)) y.mxe.mixes :=
    (congrArg (fun p : Part => p.mxe.mixes) stepped :)
  have dests : (y.mixCompute k).tka.dests = updAt k (fun _ => (x.dest k).faded (x.mix k).talkRamp.advance) y.tka.dests :=
    (congrArg (fun p : Part => p.tka.dests) stepped :)
  have grown {α : Type} (f : Nat → α) : (List.range (k + 1)).map f = (List.range k).map f ++ [f k] := by
    rw [List.range_succ, List.map_append]
    rfl
  refine ⟨?_, ?_, ?_, fun m => ?_, fun d => ?_⟩
  · rw [mixes, dests, grown, List.range_succ, List.foldl_append, stepped]
    rw [List.foldl_cons, List.foldl_nil]
    conv_lhs => rw [h.whole]
  · rw [mixes, updAt_length, h.mixes]
  · rw [dests, updAt_length, h.dests]
  · exact (congrArg (fun l : List Mix => l.getD m Mix.powerOn) mixes).trans
      (updAt_walk (fun m => (x.mix m).sampled (x.outOf m)) Mix.powerOn x.mxe.mixes y.mxe.mixes k h.mixes h.mix m)
  · exact (congrArg (fun l : List Dest => l.getD d Dest.powerOn) dests).trans
      (updAt_walk (fun d => (x.dest d).faded (x.mix d).talkRamp.advance) Dest.powerOn x.tka.dests y.tka.dests k h.dests h.dest d)

theorem Part.mixed_walk (x : Part) (empty : x.bus.mixOut = []) (k : Nat) : x.Mixed k ((List.range k).foldl Part.mixCompute x) := by
  induction k with
  | zero =>
    refine ⟨?_, rfl, rfl, fun m => (if_neg fun b => nomatch b.1).symm, fun d => (if_neg fun b => nomatch b.1).symm⟩
    rw [show (List.range 0).map x.outOf = x.bus.mixOut from empty.symm]
    rfl
  | succ k ih =>
    rw [List.range_succ, List.foldl_append]
    exact ih.step

/-- All sixteen mixes. -/
theorem Part.mixAll_mixed (x : Part) : ({ x with bus := { x.bus with mixOut := [] } } : Part).Mixed 16 x.mixAll :=
  Part.mixed_walk _ rfl 16

/-! ### Talk (R118, R130, R147) -/

/-- The sample a destination carries: its holder's while HELD or FADING. -/
def Dest.heard (foh mon stg : Sample) (d : Dest) : Sample :=
  match d.state, d.holder with
  | .free, _ => 0
  | _, none => 0
  | _, some .foh => foh
  | _, some .mon => mon
  | _, some .stg => stg

/-- The sample of a destination in a part whose talk samples are given. -/
theorem Part.talkSample_heard (x : Part) (d : Nat) (foh mon stg : Sample) (samples : x.tka.samples = (foh, mon, stg)) :
    x.talkSample d = (x.dest d).heard foh mon stg := by
  unfold Part.talkSample Dest.heard Tka.sampleOf
  rw [samples]
  cases (x.dest d).state <;> cases (x.dest d).holder with
  | none => rfl
  | some s => cases s <;> rfl

/-- The talk work of the event: the cue ramp advanced, the cue slot, and the end of the cue's fade. -/
theorem Part.talkSamples_eq (x : Part) : x.talkSamples = { x with
    tka := { x.tka with
      samples := (x.bus.played.getD 8 0, x.bus.talkIn.getD 0 0, x.bus.talkIn.getD 1 0)
      cue := x.tka.cue.advance
      dests := updAt 16 (fun _ => (x.dest 16).faded x.tka.cue.advance) x.tka.dests }
    bus := { x.bus with cueSlot := clampSample (roundShift
      ((x.dest 16).heard (x.bus.played.getD 8 0) (x.bus.talkIn.getD 0 0) (x.bus.talkIn.getD 1 0) * x.tka.cue.advance.cur)) } } := by
  let y : Part := { x with tka := { x.tka with
    samples := (x.bus.played.getD 8 0, x.bus.talkIn.getD 0 0, x.bus.talkIn.getD 1 0), cue := x.tka.cue.advance } }
  have heard : y.talkSample 16 = (x.dest 16).heard _ _ _ := y.talkSample_heard 16 _ _ _ rfl
  have dests : (if (x.dest 16).state = .fading ∧ x.tka.cue.advance.silent = true
      then updAt 16 (fun r => { r with fadeDue := true }) x.tka.dests else x.tka.dests) =
      updAt 16 (fun _ => (x.dest 16).faded x.tka.cue.advance) x.tka.dests := updAt_faded 16 _ _
  rw [← dests, ← heard]
  by_cases ended : (x.dest 16).state = .fading ∧ x.tka.cue.advance.silent = true
  · rw [if_pos ended]
    exact if_pos ended
  · rw [if_neg ended]
    exact if_neg ended

/-! ### The event at STAGE -/

theorem Part.sampleWork_bus (i : SampleInput) (x : Part) : (x.sampleWork i).bus = (x.atCompose i).bus := by
  rw [Part.sampleWork_eq, Part.outputs_bus]
  rfl

/-- What the mixes and the talk arbiter hold after the event is what the stage work gives them. -/
theorem Part.sampleWork_stage (i : SampleInput) (x : Part) :
    let y := ((x.atLane i).playout i.expiryFirst).stageWork
    (x.sampleWork i).tka = y.tka ∧ (x.sampleWork i).mxe = y.mxe ∧ (x.sampleWork i).cmp = y.cmp ∧
    (x.sampleWork i).bus = { y.bus with cellOut := (x.sampleWork i).bus.cellOut } := by
  intro y
  have work : x.atCompose i = y.meters i.emitFirst := rfl
  have stands := Part.meters_stands i.emitFirst y
  rw [← work] at stands
  rw [x.sampleWork_bus, Part.sampleWork_eq]
  refine ⟨?_, ?_, ?_, ?_⟩
  · rw [Part.outputs_tka]
    exact (congrArg Part.tka stands :)
  · rw [Part.outputs_mxe]
    exact (congrArg Part.mxe stands :)
  · rw [Part.outputs_cmp]
    exact (congrArg Part.cmp stands :)
  · exact (congrArg Part.bus stands :)

/-- The talk inputs as the port gives them. -/
theorem Part.playout_heard (i : SampleInput) (x : Part) :
    let y := (x.atLane i).playout i.expiryFirst
    y.bus.talkIn.getD 0 0 = slotSample (i.talk.getD 0 0) ∧ y.bus.talkIn.getD 1 0 = slotSample (i.talk.getD 1 0) := by
  intro y
  have taken : y.bus.talkIn = (List.range 2).map fun n => portSample [i.talk] 0 n := by
    show ((x.atLane i).playout i.expiryFirst).bus.talkIn = _
    rw [Part.playout_talkIn]
    unfold Part.atLane
    rw [Part.takeLane_talkIn, Part.stageCondition_talkIn, Part.timers_bus]
    rfl
  rw [taken]
  exact ⟨rfl, rfl⟩

/-- The output of a mix at the event, from what stood before it and what was conditioned and played at it. -/
def Part.eventOut (x : Part) (talk : List Slot32) (b : Bus) (m : Nat) : Sample × Bool × Bool :=
  if (x.mix m).heldAtZero x.dsc.opState then (0, false, false)
  else mixOutput b (x.mix m).advance
    ((x.dest m).heard (b.played.getD 8 0) (slotSample (talk.getD 0 0)) (slotSample (talk.getD 1 0)))

/-- The mixes, talk and the notices after a sample event at STAGE. -/
structure Part.StageSampled (x : Part) (i : SampleInput) (z : Part) : Prop where
  mixOut : z.bus.mixOut = (List.range 16).map (x.eventOut i.talk z.bus)
  cueSlot : z.bus.cueSlot = clampSample (roundShift ((x.dest 16).heard (z.bus.played.getD 8 0) (slotSample (i.talk.getD 0 0))
    (slotSample (i.talk.getD 1 0)) * x.tka.cue.advance.cur))
  mixes : z.mxe.mixes.length = x.mxe.mixes.length
  mix : ∀ m, z.mix m = if m < 16 ∧ m < x.mxe.mixes.length then (x.mix m).sampled (x.eventOut i.talk z.bus m) else x.mix m
  dest : ∀ d, d < 16 → d < x.tka.dests.length → z.dest d = (x.dest d).faded (x.mix d).talkRamp.advance
  cueDest : 16 < x.tka.dests.length → z.dest 16 = (x.dest 16).faded x.tka.cue.advance
  cue : z.tka.cue = x.tka.cue.advance
  source : ∀ s, z.tka.source s = x.latchTicks.tka.source s
  cmp : z.cmp = (List.range 16).foldl (fun c m => c.clipped m (x.mix m) (x.eventOut i.talk z.bus m)) x.cmp

theorem mixOutput_congr (b c : Bus) (m : Mix) (t : Sample) (conditioned : b.conditioned = c.conditioned) (played : b.played = c.played) :
    mixOutput b m t = mixOutput c m t := by
  have source : effectiveSource b = effectiveSource c := by
    funext offset r
    unfold effectiveSource
    rw [conditioned, played]
  unfold mixOutput busSum
  rw [source]

theorem Part.sampleWork_sampled (i : SampleInput) (x : Part) (stage : x.dsc.role = .stage) : x.StageSampled i (x.sampleWork i) := by
  obtain ⟨tka, mxe, cmp, bus⟩ := x.sampleWork_stage i
  obtain ⟨mon, stg⟩ := x.playout_heard i
  have role : ((x.atLane i).playout i.expiryFirst).dsc.role = .stage := by rw [Part.playout_dsc, x.atLane_role, stage]
  have op : ((x.atLane i).playout i.expiryFirst).dsc.opState = x.dsc.opState := by rw [Part.playout_dsc, x.atLane_opState]
  have tka_y : ((x.atLane i).playout i.expiryFirst).tka = x.latchTicks.tka := by
    rw [Part.playout_tka, x.atLane_tka, stage]
  have mxe_y : ((x.atLane i).playout i.expiryFirst).mxe = x.mxe := by rw [Part.playout_mxe, x.atLane_mxe]
  have cmp_y : ((x.atLane i).playout i.expiryFirst).cmp = x.cmp := by rw [Part.playout_cmp, x.atLane_cmp]
  generalize (x.atLane i).playout i.expiryFirst = y at tka mxe cmp bus mon stg role op tka_y mxe_y cmp_y
  generalize x.sampleWork i = z at tka mxe cmp bus ⊢
  have staged : y.stageWork = y.talkSamples.mixAll := by
    unfold Part.stageWork
    rw [role]
  rw [staged] at tka mxe cmp bus
  have spoken := y.talkSamples_eq
  rw [mon, stg] at spoken
  have mixed := y.talkSamples.mixAll_mixed
  generalize y.talkSamples = t at tka mxe cmp bus spoken mixed
  generalize t.mixAll = u at tka mxe cmp bus mixed
  have played : z.bus.played = y.bus.played := by rw [bus, mixed.whole, spoken]
  have conditioned : z.bus.conditioned = y.bus.conditioned := by rw [bus, mixed.whole, spoken]
  have mix_t (m : Nat) : t.mix m = x.mix m := by
    unfold Part.mix
    rw [spoken]
    exact congrArg (fun l : Mxe => l.mixes.getD m Mix.powerOn) mxe_y
  have dest_y (d : Nat) : y.dest d = x.dest d := (congrArg (fun l : Tka => l.dests.getD d Dest.powerOn) tka_y).trans rfl
  have dests_t : t.tka.dests = updAt 16 (fun _ => (x.dest 16).faded x.tka.cue.advance) x.tka.dests := by
    rw [spoken, dest_y, tka_y]
    rfl
  have dest_t (d : Nat) : t.dest d = if d = 16 ∧ 16 < x.tka.dests.length then (x.dest 16).faded x.tka.cue.advance else x.dest d := by
    unfold Part.dest
    rw [dests_t, updAt_getD]
    rfl
  have size_t : t.tka.dests.length = x.tka.dests.length := by rw [dests_t, updAt_length]
  have sizes : t.mxe.mixes.length = x.mxe.mixes.length := by rw [spoken, mxe_y]
  have out (m : Nat) (lt : m < 16) : ({ t with bus := { t.bus with mixOut := [] } } : Part).outOf m = x.eventOut i.talk z.bus m := by
    have samples : t.tka.samples = (z.bus.played.getD 8 0, slotSample (i.talk.getD 0 0), slotSample (i.talk.getD 1 0)) := by
      rw [played, spoken]
    have heard := ({ t with bus := { t.bus with mixOut := [] } } : Part).talkSample_heard m _ _ _ samples
    have dest : ({ t with bus := { t.bus with mixOut := [] } } : Part).dest m = x.dest m := (dest_t m).trans (if_neg (by omega))
    have op_t : t.dsc.opState = x.dsc.opState := by rw [spoken, op]
    unfold Part.outOf Part.eventOut
    rw [heard, dest, show ({ t with bus := { t.bus with mixOut := [] } } : Part).mix m = x.mix m from mix_t m,
      mixOutput_congr _ z.bus _ _ (by rw [conditioned, spoken]) (by rw [played, spoken]),
      show ({ t with bus := { t.bus with mixOut := [] } } : Part).dsc.opState = x.dsc.opState from op_t]
  have mix_z (m : Nat) : z.mix m = u.mix m := congrArg (fun l : Mxe => l.mixes.getD m Mix.powerOn) mxe
  have dest_z (d : Nat) : z.dest d = u.dest d := congrArg (fun l : Tka => l.dests.getD d Dest.powerOn) tka
  refine ⟨?_, ?_, ?_, fun m => ?_, fun d low inside => ?_, fun inside => ?_, ?_, fun s => ?_, ?_⟩
  · have outs : z.bus.mixOut = (List.range 16).map ({ t with bus := { t.bus with mixOut := [] } } : Part).outOf := by
      rw [bus, mixed.whole]
    exact outs.trans (List.map_congr_left fun m h => out m (List.mem_range.mp h))
  · have slot : z.bus.cueSlot = t.bus.cueSlot := by rw [bus, mixed.whole]
    rw [slot, spoken, played, dest_y, tka_y]
    rfl
  · rw [mxe, mixed.mixes]
    exact sizes
  · rw [mix_z, mixed.mix m, show ({ t with bus := { t.bus with mixOut := [] } } : Part).mix m = x.mix m from mix_t m,
      show ({ t with bus := { t.bus with mixOut := [] } } : Part).mxe.mixes.length = x.mxe.mixes.length from sizes]
    by_cases h : m < 16 ∧ m < x.mxe.mixes.length
    · rw [if_pos h, if_pos h, out m h.1]
    · rw [if_neg h, if_neg h]
  · have size : ({ t with bus := { t.bus with mixOut := [] } } : Part).tka.dests.length = x.tka.dests.length := size_t
    rw [dest_z, mixed.dest d, size, if_pos ⟨low, inside⟩,
      show ({ t with bus := { t.bus with mixOut := [] } } : Part).mix d = x.mix d from mix_t d,
      show ({ t with bus := { t.bus with mixOut := [] } } : Part).dest d = x.dest d from (dest_t d).trans (if_neg (by omega))]
  · rw [dest_z, mixed.dest 16, if_neg (by omega)]
    exact (dest_t 16).trans (if_pos ⟨rfl, inside⟩)
  · rw [tka, mixed.whole, spoken]
    show y.tka.cue.advance = _
    rw [tka_y]
    rfl
  · have source : z.tka.source s = y.tka.source s := by
      rw [tka, mixed.whole, spoken]
      cases s <;> rfl
    rw [source, tka_y]
  · have start : t.cmp = x.cmp := by rw [spoken, cmp_y]
    refine (cmp.trans mixed.cmp).trans ?_
    rw [← start]
    refine List.foldl_ext _ _ _ fun c m h => ?_
    rw [out m (List.mem_range.mp h), show ({ t with bus := { t.bus with mixOut := [] } } : Part).mix m = x.mix m from mix_t m]

/-! ### The mix computation, stage by stage (R123, R124) -/

theorem foldl_add_map {α : Type} (f : α → Int) (l : List α) (a : Int) : l.foldl (fun acc c => acc + f c) a = a + (l.map f).sum := by
  induction l generalizing a with
  | nil => simp
  | cons c l ih => rw [List.foldl_cons, ih, List.map_cons, List.sum_cons, Int.add_assoc]

/-- The bus sum, over the ramps as they stand once advanced. -/
theorem busSum_advance (b : Bus) (k : Mix) : busSum b k.advance =
    (k.contribs.map fun c => effectiveSource b k.offset c.ref * c.ramp.advance.cur).sum := by
  unfold busSum
  rw [foldl_add_map, Int.zero_add]
  show ((k.contribs.map Contrib.tick).map fun c => effectiveSource b k.offset c.ref * c.ramp.cur).sum = _
  rw [List.map_map]
  rfl

/-- The stages of a mix written out. -/
theorem mixOutput_advance (bus : Bus) (k : Mix) (talk : Sample) :
    let a : Int := (k.contribs.map fun c => effectiveSource bus k.offset c.ref * c.ramp.advance.cur).sum
    let b0 := (a + 32768) / 65536
    let b := clampInt (-134217728) 134217727 b0
    let level := (k.masterRamp.advance.cur * k.dimRamp.advance.cur + 32768) / 65536
    let y := (b * level + 32768) / 65536 + (talk * k.talkRamp.advance.cur + 32768) / 65536
    let out := clampInt (-8388608) 8388607 y
    mixOutput bus k.advance talk = (out, b != b0, out != y) := by
  intro a
  unfold mixOutput
  rw [busSum_advance]
  rfl

theorem Mix.heldAtZero_iff (op : OpState) (k : Mix) : k.heldAtZero op = true ↔
    (op ≠ .operate ∧ k.masterRamp.cur = 0 ∧ k.masterRamp.count = 0 ∧ k.talkRamp.cur = 0 ∧ k.talkRamp.count = 0) := by
  unfold Mix.heldAtZero Ramp.silent
  simp [and_assoc]

/-- Settles O9: the six stages of each mix, and what its ramps and its clip flag become. -/
theorem sampleEventMixes : Obligations.SampleEventMixes := by
  intro i s pin settled stage
  refine ⟨_, exec_sampleEvent_settled i s pin settled, ?_⟩
  have event := s.part.sampleWork_sampled i stage
  generalize s.part.sampleWork i = z at event
  refine ⟨by rw [event.mixOut, List.length_map, List.length_range], fun m low inside => ?_⟩
  have mix := (event.mix m).trans (if_pos ⟨low, inside⟩)
  have out : z.bus.mixOut[m]? = some (s.part.eventOut i.talk z.bus m) := by
    rw [event.mixOut, List.getElem?_map, List.getElem?_range low]
    rfl
  intro old
  have stages := mixOutput_advance z.bus old
    ((s.part.dest m).heard (z.bus.played.getD 8 0) (slotSample (i.talk.getD 0 0)) (slotSample (i.talk.getD 1 0)))
  intro a b0 b level talk y out_ held
  have held_iff : old.heldAtZero s.part.dsc.opState = true ↔ held := old.heldAtZero_iff s.part.dsc.opState
  rw [mix, out]
  have rest : (old.sampled (s.part.eventOut i.talk z.bus m)).contribs.map (fun c => (c.ref, c.code, c.live, c.ramp)) =
      old.contribs.map (fun c => (c.ref, c.code, c.live, c.ramp.advance)) := by
    show (old.contribs.map Contrib.tick).map _ = _
    rw [List.map_map]
    rfl
  refine ⟨fun rests => ?_, fun runs => ?_, rfl, rfl, rfl, rest, rfl⟩
  · have zero : s.part.eventOut i.talk z.bus m = (0, false, false) := if_pos (held_iff.mpr rests)
    rw [zero]
    exact ⟨rfl, Bool.or_false _⟩
  · have full : s.part.eventOut i.talk z.bus m = (out_, b != b0, out_ != y) :=
      (if_neg fun h => runs (held_iff.mp h)).trans stages
    rw [full]
    exact ⟨rfl, (Bool.or_assoc ..).symm⟩

end Sys2Proof.Machine
end

section
/-!
PROOFS. The meters at a sample event (R126, R153 to R157): accumulation, the cell emitted at STAGE, the cell received at DESK, the ages, and
the CLIP notices.
-/

namespace Sys2Proof.Machine

/-! ### The steps of the meter unit -/

/-- What an accumulator becomes with the value handed over for its meter. -/
def Part.took (x : Part) (n : Nat) (a : Acc) : Acc := Acc.take (x.meterInput n).1 (x.meterInput n).2 a

theorem Part.accumulate_get (x : Part) (n : Nat) : x.accumulate.mtu.accs[n]? = (x.mtu.accs[n]?).map (x.took n) := by
  show (mapFrom _ 0 x.mtu.accs)[n]? = _
  rw [mapFrom_get, Nat.zero_add]
  rfl

theorem Part.ageMeters_get (x : Part) (n : Nat) :
    x.ageMeters.mtu.table[n]? = (x.mtu.table[n]?).map fun e => ⟨e.level, e.clip, min 321 (e.age + 1)⟩ :=
  List.getElem?_map

theorem Part.applyCell_get (c : MeterCell) (x : Part) (n : Nat) : (x.applyCell c).mtu.table[n]? =
    if n = c.index then (x.mtu.table[n]?).map (MeterEntry.applyCell (x.dsc.role == .desk && x.fmu.link == .severed) c)
    else x.mtu.table[n]? :=
  updAt_get ..

/-- The emission of a cell: what it gives the accumulators, the rotation, the frame and, at STAGE, the table. -/
theorem Part.emitCell_facts (x : Part) :
    (∀ n, x.emitCell.mtu.accs[n]? = if n = x.mtu.rot then (x.mtu.accs[n]?).map fun _ => ⟨0, false⟩ else x.mtu.accs[n]?) ∧
    x.emitCell.mtu.rot = (if x.mtu.rot < 79 then x.mtu.rot + 1 else 0) ∧ x.emitCell.bus = { x.bus with cellOut := some x.mtu.cell } ∧
    (x.dsc.role = .stage → ∀ n, x.emitCell.mtu.table[n]? = if n = x.mtu.rot
      then (x.mtu.table[n]?).map (MeterEntry.applyCell false x.mtu.cell) else x.mtu.table[n]?) := by
  refine ⟨fun n => updAt_get .., rfl, rfl, fun stage n => ?_⟩
  have applied := Part.applyCell_get x.mtu.cell ({ x with
    mtu := { x.mtu with
      accs := updAt x.mtu.rot (fun _ => ⟨0, false⟩) x.mtu.accs
      rot := if x.mtu.rot < 79 then x.mtu.rot + 1 else 0 }
    bus := { x.bus with cellOut := some x.mtu.cell } }) n
  have keep : (x.dsc.role == .desk && x.fmu.link == .severed) = false := by rw [stage]; rfl
  refine applied.trans ?_
  show (if n = x.mtu.rot then (x.mtu.table[n]?).map (MeterEntry.applyCell (x.dsc.role == .desk && x.fmu.link == .severed) x.mtu.cell)
    else x.mtu.table[n]?) = _
  rw [keep]

/-- The level and clip of the cell at the rotation position. -/
theorem Mtu.cell_of (m : Mtu) (a : Acc) (at_ : m.accs[m.rot]? = some a) : m.cell.level = a.peak / 128 ∧ m.cell.clip = a.clip := by
  unfold Mtu.cell
  rw [List.getD_eq_getElem?_getD, at_]
  exact ⟨rfl, rfl⟩

/-! ### The meters at STAGE -/

/-- The meter unit after a sample event at STAGE, from the part whose samples it takes. -/
structure Part.Metered (x : Part) (emitFirst : Bool) (c : MeterCell) (z : Part) : Prop where
  cellOut : z.bus.cellOut = some c
  index : c.index = x.mtu.rot
  rot : z.mtu.rot = if x.mtu.rot < 79 then x.mtu.rot + 1 else 0
  first : emitFirst = true → ∀ n a, x.mtu.accs[n]? = some a → (n = x.mtu.rot → c.level = a.peak / 128 ∧ c.clip = a.clip) ∧
    z.mtu.accs[n]? = some (if n = x.mtu.rot then x.took n ⟨0, false⟩ else x.took n a)
  last : emitFirst = false → ∀ n a, x.mtu.accs[n]? = some a →
    (n = x.mtu.rot → c.level = (x.took n a).peak / 128 ∧ c.clip = (x.took n a).clip) ∧
    z.mtu.accs[n]? = some (if n = x.mtu.rot then ⟨0, false⟩ else x.took n a)
  table : ∀ n e, x.mtu.table[n]? = some e → z.mtu.table[n]? =
    some (if n = c.index then ⟨max e.level c.level, e.clip || c.clip, 0⟩ else ⟨e.level, e.clip, min 321 (e.age + 1)⟩)

/-- An entry aged and then, at its index, given the cell. -/
theorem aged_cell (c : MeterCell) (n rot : Nat) (e : MeterEntry) (l m : List MeterEntry) (at_ : l[n]? = some ⟨e.level, e.clip, min 321 (e.age + 1)⟩)
    (index : c.index = rot) (h : m[n]? = if n = rot then (l[n]?).map (MeterEntry.applyCell false c) else l[n]?) :
    m[n]? = some (if n = c.index then ⟨max e.level c.level, e.clip || c.clip, 0⟩ else ⟨e.level, e.clip, min 321 (e.age + 1)⟩) := by
  rw [h, at_, index]
  by_cases here : n = rot
  · rw [if_pos here, if_pos here]
    rfl
  · rw [if_neg here, if_neg here]

theorem Part.meters_stage (e : Bool) (x : Part) (stage : x.dsc.role = .stage) : ∃ c, x.Metered e c (x.meters e) := by
  have aged (n : Nat) (m : MeterEntry) (h : x.mtu.table[n]? = some m) :
      x.ageMeters.mtu.table[n]? = some ⟨m.level, m.clip, min 321 (m.age + 1)⟩ := by
    rw [x.ageMeters_get n, h]
    rfl
  cases e with
  | true =>
    have work : x.meters true = x.ageMeters.emitCell.accumulate := by
      unfold Part.meters
      rw [stage]
      rfl
    obtain ⟨accs, rot, bus, table⟩ := x.ageMeters.emitCell_facts
    have summed := x.ageMeters.emitCell.accumulate_get
    have same (n : Nat) : x.ageMeters.emitCell.took n = x.took n := rfl
    rw [work]
    refine ⟨x.ageMeters.mtu.cell, congrArg Bus.cellOut bus, rfl, rot, fun _ n a at_ => ⟨fun here => ?_, ?_⟩, nofun, fun n m at_ => ?_⟩
    · exact Mtu.cell_of _ a (here ▸ at_)
    · rw [summed, accs, same]
      by_cases here : n = x.mtu.rot
      · rw [if_pos here, if_pos (show n = x.ageMeters.mtu.rot from here), show x.ageMeters.mtu.accs[n]? = some a from at_]
        rfl
      · rw [if_neg here, if_neg (show ¬ n = x.ageMeters.mtu.rot from here), show x.ageMeters.mtu.accs[n]? = some a from at_]
        rfl
    · exact aged_cell _ n x.mtu.rot m _ _ (aged n m at_) rfl (table stage n)
  | false =>
    have work : x.meters false = x.ageMeters.accumulate.emitCell := by
      unfold Part.meters
      rw [stage]
      rfl
    obtain ⟨accs, rot, bus, table⟩ := x.ageMeters.accumulate.emitCell_facts
    have summed (n : Nat) (a : Acc) (at_ : x.mtu.accs[n]? = some a) : x.ageMeters.accumulate.mtu.accs[n]? = some (x.took n a) := by
      rw [x.ageMeters.accumulate_get, show x.ageMeters.mtu.accs[n]? = some a from at_]
      rfl
    rw [work]
    refine ⟨x.ageMeters.accumulate.mtu.cell, congrArg Bus.cellOut bus, rfl, rot, nofun, fun _ n a at_ => ⟨fun here => ?_, ?_⟩,
      fun n m at_ => ?_⟩
    · exact Mtu.cell_of _ _ (here ▸ summed n a at_)
    · rw [accs, summed n a at_]
      by_cases here : n = x.mtu.rot
      · rw [if_pos here, if_pos (show n = x.ageMeters.accumulate.mtu.rot from here)]
        rfl
      · rw [if_neg here, if_neg (show ¬ n = x.ageMeters.accumulate.mtu.rot from here)]
    · exact aged_cell _ n x.mtu.rot m _ _ (aged n m at_) rfl (table stage n)

/-! ### The meters at DESK -/

/-- The cell a playout hands over at DESK. -/
theorem Part.playout_cellIn (e : Bool) (x : Part) (desk : x.dsc.role = .desk) (none_ : x.bus.cellIn = none) :
    (x.playout e).bus.cellIn = x.fmu.playout.1.bind Frame.cell := by
  have handed (f : Frame) (y : Part) (role : y.dsc.role = .desk) : (y.playGood e f).bus.cellIn = f.cell := by
    unfold Part.playGood
    dsimp only
    obtain ⟨l, filled⟩ := Part.refill_eq ((if e = true then Part.onPle Ple.takeGoBack (Part.onPle (fun l => l.takeInAll f.syms) y)
      else Part.onPle (fun l => l.takeInAll f.syms) y).onPle (Ple.takeAck (if e = true then
        Part.onPle Ple.takeGoBack (Part.onPle (fun l => l.takeInAll f.syms) y)
        else Part.onPle (fun l => l.takeInAll f.syms) y).quiet f.ack))
    rw [filled]
    have still : (if e = true then Part.onPle Ple.takeGoBack (Part.onPle (fun l => l.takeInAll f.syms) y)
      else Part.onPle (fun l => l.takeInAll f.syms) y).dsc.role = .desk := by split <;> exact role
    dsimp only [Part.onPle] at still ⊢
    rw [still]
  unfold Part.playout
  dsimp only
  cases h : x.fmu.playout.1 with
  | none => exact none_
  | some f => exact handed f _ desk

/-- At DESK nothing is accumulated or emitted. -/
theorem Part.meters_desk_kept (e : Bool) (x : Part) (desk : x.dsc.role = .desk) :
    (x.meters e).mtu.accs = x.mtu.accs ∧ (x.meters e).mtu.rot = x.mtu.rot := by
  unfold Part.meters
  rw [desk]
  dsimp only
  split <;> exact ⟨rfl, rfl⟩

/-- The meter table after a sample event at DESK. -/
theorem Part.meters_desk (e : Bool) (x : Part) (desk : x.dsc.role = .desk) (n : Nat) (m : MeterEntry) (at_ : x.mtu.table[n]? = some m) :
    (∀ c, x.bus.cellIn = some c → c.index = n → (x.meters e).mtu.table[n]? =
      some ⟨max m.level c.level, m.clip || c.clip, if x.fmu.link = .severed then min 321 (m.age + 1) else 0⟩) ∧
    ((∀ c, x.bus.cellIn = some c → c.index ≠ n) → (x.meters e).mtu.table[n]? = some ⟨m.level, m.clip, min 321 (m.age + 1)⟩) := by
  have aged : x.ageMeters.mtu.table[n]? = some ⟨m.level, m.clip, min 321 (m.age + 1)⟩ := by
    rw [x.ageMeters_get n, at_]
    rfl
  have role : x.ageMeters.dsc.role = .desk := desk
  unfold Part.meters
  rw [desk]
  dsimp only
  cases cell : x.bus.cellIn with
  | none => exact ⟨nofun, fun _ => aged⟩
  | some c =>
    refine ⟨fun c' same here => ?_, fun apart => ?_⟩
    · cases same
      refine (Part.applyCell_get c x.ageMeters n).trans ?_
      rw [if_pos here.symm, aged, role]
      show some (MeterEntry.mk _ _ (if (x.fmu.link == LinkState.severed) = true then _ else 0)) = _
      simp only [beq_iff_eq]
    · refine (Part.applyCell_get c x.ageMeters n).trans ?_
      rw [if_neg fun h => apart c rfl h.symm, aged]

/-! ### The obligation -/

theorem Part.sampleWork_mtu (i : SampleInput) (x : Part) : (x.sampleWork i).mtu = (x.atCompose i).mtu := by
  rw [Part.sampleWork_eq, Part.outputs_mtu]
  rfl

/-- A notice of CLIP where a clamp acts and the flag is clear. -/
theorem Cmp.clipped_eq (c : Cmp) (m : Nat) (k : Mix) (out : Sample × Bool × Bool) : c.clipped m k out =
    if (out.2.1 = true ∨ out.2.2 = true) ∧ k.clip = false then c.notify (.clip m out.2.1 out.2.2) else c := by
  unfold Cmp.clipped
  simp only [Bool.and_eq_true, Bool.or_eq_true, Bool.not_eq_true']

/-- What an accumulator takes, written out. -/
theorem Part.took_eq (x : Part) (n : Nat) (a : Acc) : x.took n a =
    (let v : Sample × Bool := if n < 64 then x.bus.conditioned.getD n (0, false)
      else ((x.bus.mixOut.getD (n - 64) (0, false, false)).1,
        (x.bus.mixOut.getD (n - 64) (0, false, false)).2.1 || (x.bus.mixOut.getD (n - 64) (0, false, false)).2.2)
     ⟨max a.peak (min 8388607 v.1.natAbs), a.clip || v.2⟩) := rfl

/-- Settles O10: the meters at STAGE, the meters at DESK, and the CLIP notices. -/
theorem sampleEventEmitsMeterCell : Obligations.SampleEventEmitsMeterCell := by
  refine ⟨fun i s pin settled stage => ?_, fun i s pin settled desk => ⟨_, exec_sampleEvent_settled i s pin settled, ?_⟩,
    fun i s pin settled stage => ⟨_, exec_sampleEvent_settled i s pin settled, ?_⟩⟩
  · let y := ((s.part.atLane i).playout i.expiryFirst).stageWork
    have role : y.dsc.role = .stage := by
      show ((s.part.atLane i).playout i.expiryFirst).stageWork.dsc.role = _
      rw [Part.stageWork_dsc, Part.playout_dsc, Part.atLane_role, stage]
    have before : y.mtu = s.part.mtu := by
      show ((s.part.atLane i).playout i.expiryFirst).stageWork.mtu = _
      rw [Part.stageWork_mtu, Part.playout_mtu, Part.atLane_mtu]
    have bus : (s.part.sampleWork i).bus = { y.bus with cellOut := (s.part.sampleWork i).bus.cellOut } :=
      (s.part.sampleWork_stage i).2.2.2
    have mtu : (s.part.sampleWork i).mtu = (y.meters i.emitFirst).mtu := s.part.sampleWork_mtu i
    have cellOut : (s.part.sampleWork i).bus.cellOut = (y.meters i.emitFirst).bus.cellOut := congrArg Bus.cellOut (s.part.sampleWork_bus i)
    obtain ⟨c, metered⟩ := y.meters_stage i.emitFirst role
    refine ⟨_, c, exec_sampleEvent_settled i s pin settled, ?_⟩
    generalize s.part.sampleWork i = z at bus mtu cellOut
    generalize y = y at before bus mtu cellOut metered
    have took (n : Nat) (a : Acc) : y.took n a = z.took n a := by
      rw [Part.took_eq, Part.took_eq, bus]
    refine ⟨cellOut.trans metered.cellOut, metered.index.trans (by rw [before]), ?_, ?_, ?_⟩
    · rw [mtu, metered.rot, before]
    · intro tk n a at_
      have at_ : y.mtu.accs[n]? = some a := by rw [before]; exact at_
      refine ⟨fun early => ?_, fun late => ?_⟩
      · obtain ⟨cell, acc⟩ := metered.first early n a at_
        rw [took, took] at acc
        rw [before] at cell acc
        rw [mtu]
        exact ⟨cell, acc⟩
      · obtain ⟨cell, acc⟩ := metered.last late n a at_
        rw [took] at cell acc
        rw [before] at cell acc
        rw [mtu]
        exact ⟨cell, acc⟩
    · intro n e at_
      rw [mtu]
      exact metered.table n e (by rw [before]; exact at_)
  · let x := s.part.atLane i
    have role : (x.playout i.expiryFirst).dsc.role = .desk := by
      show ((s.part.atLane i).playout i.expiryFirst).dsc.role = _
      rw [Part.playout_dsc, Part.atLane_role, desk]
    have still : (x.playout i.expiryFirst).stageWork = x.playout i.expiryFirst := by
      unfold Part.stageWork
      rw [role]
    obtain ⟨-, -, cmp, -⟩ := s.part.sampleWork_stage i
    have mtu : (s.part.sampleWork i).mtu = ((x.playout i.expiryFirst).stageWork.meters i.emitFirst).mtu := s.part.sampleWork_mtu i
    have before : (x.playout i.expiryFirst).mtu = s.part.mtu := (Part.playout_mtu ..).trans (s.part.atLane_mtu i)
    have cell : (x.playout i.expiryFirst).bus.cellIn = s.part.fmu.playout.1.bind Frame.cell := by
      have none_ : x.bus.cellIn = none := by
        show (s.part.atLane i).bus.cellIn = none
        unfold Part.atLane
        rw [Part.takeLane_cellIn, Part.stageCondition_cellIn, Part.timers_bus]
        rfl
      rw [x.playout_cellIn i.expiryFirst ((s.part.atLane_role i).trans desk) none_, show x.fmu = s.part.fmu from s.part.atLane_fmu i]
    have link : (x.playout i.expiryFirst).fmu.link = s.part.fmu.link := by
      rw [Part.playout_fmu, show x.fmu = s.part.fmu from s.part.atLane_fmu i]
      show s.part.fmu.playout.2.link = _
      rw [s.part.fmu.playout_after.1]
    have told : (x.playout i.expiryFirst).cmp = s.part.cmp := (Part.playout_cmp ..).trans (s.part.atLane_cmp i)
    have unsummed : ((x.playout i.expiryFirst).meters i.emitFirst).mtu.accs = s.part.mtu.accs ∧
        ((x.playout i.expiryFirst).meters i.emitFirst).mtu.rot = s.part.mtu.rot := by
      rw [← before]
      exact Part.meters_desk_kept i.emitFirst _ role
    have table := (x.playout i.expiryFirst).meters_desk i.emitFirst role
    rw [still] at mtu
    replace cmp : (s.part.sampleWork i).cmp = s.part.cmp := cmp.trans ((congrArg Part.cmp still).trans told)
    generalize x.playout i.expiryFirst = y at role mtu before cell link unsummed table
    generalize s.part.sampleWork i = z at cmp mtu
    rw [mtu]
    refine ⟨unsummed.1, unsummed.2, cmp, ?_⟩
    intro fm got
    have played : got = fm.playout.1 := fm.playout_frame.symm
    clear_value got
    subst played
    intro n e at_ age
    obtain ⟨here, apart⟩ := table n e (by rw [before]; exact at_)
    refine ⟨fun f c played of_ at_n => ?_, fun other => apart fun c of_ => ?_⟩
    · have handed : y.bus.cellIn = some c := by
        rw [cell, show s.part.fmu.playout.1 = some f from played]
        exact of_
      rw [here c handed at_n, link]
    · obtain ⟨f, played, has⟩ := Option.bind_eq_some_iff.mp (cell.symm.trans of_)
      exact other f c played has
  · have event := s.part.sampleWork_sampled i stage
    generalize s.part.sampleWork i = z at event
    rw [event.cmp]
    refine List.foldl_ext _ _ _ fun c m h => ?_
    have out : z.bus.mixOut.getD m (0, false, false) = s.part.eventOut i.talk z.bus m := by
      rw [List.getD_eq_getElem?_getD, event.mixOut, List.getElem?_map, List.getElem?_range (List.mem_range.mp h)]
      rfl
    rw [Cmp.clipped_eq, ← out]

end Sys2Proof.Machine
end

section
/-!
PROOFS. The timers at a sample event (R8, R12, R17, R21 to R23, R31, R38, R71, R80, R90 to R94, R115, R121, R122, R139, R144): what each counts,
and which steps the event brings due.
-/

namespace Sys2Proof.Machine

/-! ### The channels (R90, R92, R94) -/

theorem Part.sampleWork_chs (i : SampleInput) (x : Part) : (x.sampleWork i).chs = (x.atLane i).chs := by
  rw [Part.sampleWork_eq, Part.outputs_chs]
  show (x.atCompose i).chs = _
  rw [Part.atCompose_eq]
  simp

/-- A channel after the event: one that stands in no entry reads as at power-on, before and after. -/
theorem Part.sampleWork_channel (i : SampleInput) (x : Part) (stage : x.dsc.role = .stage) (n : Nat) :
    (x.sampleWork i).channel n = if n < x.chs.channels.length then (x.channel n).sampled else Channel.powerOn := by
  have chs := x.atLane_chs i
  rw [stage] at chs
  have channel : (x.sampleWork i).channel n = (x.chs.channels.map Channel.sampled).getD n Channel.powerOn :=
    congrArg (fun c : Chs => c.channels.getD n Channel.powerOn) ((x.sampleWork_chs i).trans chs)
  rw [channel]
  by_cases inside : n < x.chs.channels.length
  · rw [if_pos inside]
    exact List.getD_map_lt _ _ _ _ _ inside
  · rw [if_neg inside]
    exact List.getD_eq_default _ _ (by simpa using inside)

/-- A channel that stands in no entry. -/
theorem Part.channel_beyond (x : Part) (n : Nat) (beyond : ¬ n < x.chs.channels.length) : x.channel n = Channel.powerOn :=
  List.getD_eq_default _ _ (by simpa using beyond)

/-- The conditioned samples of the event. -/
theorem Part.sampleWork_conditioned (i : SampleInput) (x : Part) (stage : x.dsc.role = .stage) (n : Nat)
    (inside : n < x.chs.channels.length) (audio : n < 64) :
    let raw := slotSample ((i.ports.getD (n / 8) []).getD (n % 8) 0)
    (x.sampleWork i).bus.conditioned[n]? = some (conditionSample (x.channel n).sampled raw, atExtreme raw) := by
  intro raw
  have bus : (x.sampleWork i).bus.conditioned = (x.takePorts i).timers.stageCondition.bus.conditioned := by
    rw [x.sampleWork_bus, Part.atCompose_eq, Part.meters_conditioned, Part.stageWork_conditioned, Part.playout_conditioned]
    unfold Part.atLane
    rw [Part.takeLane_conditioned]
  have role : (x.takePorts i).timers.dsc.role = .stage := (Part.timers_role _).trans stage
  have chs : (x.takePorts i).timers.chs.channels = x.chs.channels.map fun c => c.walkTick.phantomTick := by
    rw [Part.timers_chs, show (x.takePorts i).dsc.role = .stage from stage]
    rfl
  have mic : (x.takePorts i).timers.bus.mic = (List.range 64).map fun n => portSample i.ports (n / 8) (n % 8) := by
    rw [Part.timers_bus]
    show (List.range (micCount x.dsc.role)).map _ = _
    rw [stage]
    rfl
  have at_ : (x.takePorts i).timers.bus.mic.getD n 0 = raw := by
    rw [mic, List.getD_eq_getElem?_getD, List.getElem?_map, List.getElem?_range audio]
    rfl
  have entry : x.chs.channels[n]? = some (x.channel n) := by
    rw [List.getElem?_eq_getElem inside]
    exact congrArg some (List.getD_eq_getElem _ _ inside).symm
  rw [bus, Part.stageCondition_stage _ role]
  show (mapFrom _ 0 _)[n]? = _
  rw [mapFrom_get, chs, List.map_map, List.getElem?_map, entry, Nat.zero_add]
  show some (conditionSample (x.channel n).sampled _, atExtreme _) = _
  rw [at_]

/-- Settles O8: the ramp, the timers and the conditioned sample of each channel. -/
theorem sampleEventConditionsChannels : Obligations.SampleEventConditionsChannels := by
  intro i s pin settled stage
  refine ⟨_, exec_sampleEvent_settled i s pin settled, fun n => ?_, fun n inside audio => ?_⟩
  · rw [s.part.sampleWork_channel i stage n]
    by_cases inside : n < s.part.chs.channels.length
    · rw [if_pos inside]
      exact ⟨rfl, rfl, rfl, rfl, rfl⟩
    · rw [if_neg inside, s.part.channel_beyond n inside]
      exact ⟨rfl, rfl, rfl, rfl, rfl⟩
  · rw [s.part.sampleWork_conditioned i stage n inside audio, s.part.sampleWork_channel i stage n, if_pos inside]
    rfl

end Sys2Proof.Machine
end

section
/-!
PROOFS. The lane at a sample event (R68 to R71, R76, R80): the symbols taken, the resend timer, the ack of a good playout and the quiet tail,
field by field.
-/

namespace Sys2Proof.Machine

/-! ### The symbols and the timer (R68, R71) -/

/-- A lane with its resend timer and go-back mark replaced. -/
def Ple.withTimer (t : Nat) (g : Bool) (l : Ple) : Ple := { l with resendTimer := t, goBackDue := g }

theorem Ple.timerTick_withTimer (run : Bool) (l : Ple) : ∃ t g, l.timerTick run = l.withTimer t g := by
  unfold Ple.timerTick
  split
  · exact ⟨_, _, rfl⟩
  · exact ⟨l.resendTimer, l.goBackDue, rfl⟩

/-! One symbol, by where the cursor stands. -/

theorem Ple.takeSym_quiet (l : Ple) : l.takeSym true = (Sym.idle, l) := rfl

theorem Ple.takeSym_under (l : Ple) (i pos : Nat) (r : LaneRec) (cursor : l.cursor = some (i, pos)) (under : l.queue[i]? = some r) :
    l.takeSym false = ((recordSyms r.msg (r.seq.getD 0)).getD pos Sym.idle, { l with
      cursor := if pos + 1 < (recordSyms r.msg (r.seq.getD 0)).length then some (i, pos + 1) else l.cursorAfter i }) := by
  unfold Ple.takeSym
  rw [if_neg Bool.false_ne_true, cursor]
  dsimp only
  rw [under]

theorem Ple.takeSym_lost (l : Ple) (i pos : Nat) (cursor : l.cursor = some (i, pos)) (beyond : l.queue[i]? = none) :
    l.takeSym false = (Sym.idle, { l with cursor := none }) := by
  unfold Ple.takeSym
  rw [if_neg Bool.false_ne_true, cursor]
  dsimp only
  rw [beyond]

theorem Ple.takeSym_fresh (l : Ple) (i : Nat) (cursor : l.cursor = none)
    (found : findFrom (fun r : LaneRec => r.seq.isNone) 0 l.queue = some i) (few : l.inFlight < 12) :
    l.takeSym false = (⟨true, (l.queue.getD i default).msg.kind⟩, { l with
      queue := updAt i (fun r => { r with seq := some l.nextSeq }) l.queue
      nextSeq := inc8 l.nextSeq
      cursor := some (i, 1)
      resendTimer := if l.inFlight = 0 then 0 else l.resendTimer }) := by
  unfold Ple.takeSym
  rw [if_neg Bool.false_ne_true, cursor]
  dsimp only
  rw [found]
  exact if_pos few

theorem Ple.takeSym_rest (l : Ple) (cursor : l.cursor = none)
    (still : findFrom (fun r : LaneRec => r.seq.isNone) 0 l.queue = none ∨ ¬ l.inFlight < 12) : l.takeSym false = (Sym.idle, l) := by
  unfold Ple.takeSym
  rw [if_neg Bool.false_ne_true, cursor]
  dsimp only
  split
  · next found => exact if_neg (still.resolve_left (by rw [found]; nofun))
  · rfl

/-- A record goes in flight only from rest. -/
theorem Ple.takeSym_cases (l : Ple) : (∃ y c, l.takeSym false = (y, { l with cursor := c })) ∨
    (l.cursor = none ∧ l.inFlight < 12 ∧ ∃ i, findFrom (fun r : LaneRec => r.seq.isNone) 0 l.queue = some i) := by
  cases cursor : l.cursor with
  | some at_ =>
    obtain ⟨i, pos⟩ := at_
    cases under : l.queue[i]? with
    | some r => exact .inl ⟨_, _, l.takeSym_under i pos r cursor under⟩
    | none => exact .inl ⟨_, _, l.takeSym_lost i pos cursor under⟩
  | none =>
    by_cases few : l.inFlight < 12
    · cases found : findFrom (fun r : LaneRec => r.seq.isNone) 0 l.queue with
      | some i => exact .inr ⟨rfl, few, i, rfl⟩
      | none =>
        refine .inl ⟨Sym.idle, none, (l.takeSym_rest cursor (.inl found)).trans ?_⟩
        rw [← cursor]
    · refine .inl ⟨Sym.idle, none, (l.takeSym_rest cursor (.inr few)).trans ?_⟩
      rw [← cursor]

/-- The symbols do not read the timer. -/
theorem Ple.takeSym_withTimer (quiet : Bool) (t : Nat) (g : Bool) (l : Ple) :
    ∃ u, (l.withTimer t g).takeSym quiet = ((l.takeSym quiet).1, (l.takeSym quiet).2.withTimer u g) := by
  cases quiet with
  | true => exact ⟨t, rfl⟩
  | false =>
    cases cursor : l.cursor with
    | some at_ =>
      obtain ⟨i, pos⟩ := at_
      cases under : l.queue[i]? with
      | some r =>
        rw [l.takeSym_under i pos r cursor under, (l.withTimer t g).takeSym_under i pos r cursor under]
        exact ⟨t, rfl⟩
      | none =>
        rw [l.takeSym_lost i pos cursor under, (l.withTimer t g).takeSym_lost i pos cursor under]
        exact ⟨t, rfl⟩
    | none =>
      by_cases few : l.inFlight < 12
      · cases found : findFrom (fun r : LaneRec => r.seq.isNone) 0 l.queue with
        | some i =>
          rw [l.takeSym_fresh i cursor found few, (l.withTimer t g).takeSym_fresh i cursor found few]
          exact ⟨_, rfl⟩
        | none =>
          rw [l.takeSym_rest cursor (.inl found), (l.withTimer t g).takeSym_rest cursor (.inl found)]
          exact ⟨t, rfl⟩
      · rw [l.takeSym_rest cursor (.inr few), (l.withTimer t g).takeSym_rest cursor (.inr few)]
        exact ⟨t, rfl⟩

theorem Ple.takeSyms_withTimer (quiet : Bool) (n t : Nat) (g : Bool) (l : Ple) :
    ∃ u, Ple.takeSyms quiet n (l.withTimer t g) = ((Ple.takeSyms quiet n l).1, (Ple.takeSyms quiet n l).2.withTimer u g) := by
  induction n generalizing t l with
  | zero => exact ⟨t, rfl⟩
  | succ n ih =>
    obtain ⟨u, first⟩ := l.takeSym_withTimer quiet t g
    obtain ⟨v, rest⟩ := ih u (l.takeSym quiet).2
    refine ⟨v, ?_⟩
    unfold Ple.takeSyms
    dsimp only
    rw [first]
    dsimp only
    rw [rest]

theorem Ple.takeSyms_length (quiet : Bool) (n : Nat) (l : Ple) : (Ple.takeSyms quiet n l).1.length = n := by
  induction n generalizing l with
  | zero => rfl
  | succ n ih => exact congrArg (· + 1) (ih _)

/-! ### The records in flight -/

theorem Ple.inFlight_pos (l : Ple) : 0 < l.inFlight ↔ ∃ r ∈ l.queue, r.seq.isSome = true := by
  unfold Ple.inFlight
  rw [List.length_pos_iff_exists_mem]
  simp [List.mem_filter]

/-- A record that a symbol's header takes goes in flight, the first of them returning the timer to 0; the timer else stands. -/
theorem Ple.takeSym_timer (quiet : Bool) (l : Ple) (busy : 0 < l.inFlight) :
    (l.takeSym quiet).2.resendTimer = l.resendTimer ∧ 0 < (l.takeSym quiet).2.inFlight := by
  cases quiet with
  | true => exact ⟨rfl, busy⟩
  | false =>
    rcases l.takeSym_cases with ⟨y, c, still⟩ | ⟨rest, few, i, found⟩
    · rw [still]
      exact ⟨rfl, busy⟩
    · rw [l.takeSym_fresh i rest found few]
      refine ⟨if_neg (by omega), (Ple.inFlight_pos _).mpr ?_⟩
      obtain ⟨r, member, sent⟩ := l.inFlight_pos.mp busy
      obtain ⟨j, at_j⟩ := List.mem_iff_getElem?.mp member
      by_cases here : j = i
      · exact ⟨{ r with seq := some l.nextSeq }, List.mem_of_getElem? (i := j) ((updAt_get ..).trans (by rw [if_pos here, at_j]; rfl)), rfl⟩
      · exact ⟨r, List.mem_of_getElem? (i := j) ((updAt_get ..).trans (by rw [if_neg here, at_j])), sent⟩

theorem Ple.takeSyms_timer (quiet : Bool) (n : Nat) (l : Ple) (busy : 0 < l.inFlight) :
    (Ple.takeSyms quiet n l).2.resendTimer = l.resendTimer := by
  induction n generalizing l with
  | zero => rfl
  | succ n ih =>
    obtain ⟨stands, still⟩ := l.takeSym_timer quiet busy
    exact (ih _ still).trans stands

/-- Nothing to send: the timer and the empty queue stand. -/
theorem Ple.takeSyms_idle (quiet : Bool) (n : Nat) (l : Ple) (idle : quiet = true ∨ l.queue = []) :
    (Ple.takeSyms quiet n l).2.resendTimer = l.resendTimer := by
  have one (k : Ple) (idle : quiet = true ∨ k.queue = []) :
      (k.takeSym quiet).2.resendTimer = k.resendTimer ∧ (k.takeSym quiet).2.queue = k.queue := by
    cases q : quiet with
    | true => exact ⟨rfl, rfl⟩
    | false =>
      rcases k.takeSym_cases with ⟨y, c, still⟩ | ⟨-, -, i, found⟩
      · rw [still]
        exact ⟨rfl, rfl⟩
      · rw [idle.resolve_left (by rw [q]; nofun)] at found
        cases found
  induction n generalizing l with
  | zero => rfl
  | succ n ih =>
    obtain ⟨timer, queue⟩ := one l idle
    exact (ih _ (idle.imp id fun e => queue.trans e)).trans timer

/-- From rest with records unsent and none in flight, the first symbol takes one, and the timer is 0. -/
theorem Ple.takeSyms_first (n : Nat) (l : Ple) (none_ : l.inFlight = 0) (some_ : l.queue ≠ []) (rest : l.cursor = none) :
    (Ple.takeSyms false (n + 1) l).2.resendTimer = 0 := by
  obtain ⟨r, more, queue⟩ := List.exists_cons_of_ne_nil some_
  have unsent : r.seq.isNone = true := by
    by_contra sent
    have := l.inFlight_pos.mpr ⟨r, by simp [queue], Option.isSome_iff_ne_none.mpr (by simpa using sent)⟩
    omega
  have found : findFrom (fun r : LaneRec => r.seq.isNone) 0 l.queue = some 0 := by
    rw [queue]
    exact findFrom_append _ 0 [] r more nofun unsent
  have taken : (l.takeSym false).2 = { l with
      queue := updAt 0 (fun r => { r with seq := some l.nextSeq }) l.queue
      nextSeq := inc8 l.nextSeq, cursor := some (0, 1), resendTimer := 0 } := by
    rw [l.takeSym_fresh 0 rest found (by omega), if_pos none_]
  have busy : 0 < (l.takeSym false).2.inFlight := (Ple.inFlight_pos _).mpr ⟨{ r with seq := some l.nextSeq }, by
    rw [taken, queue]
    exact List.mem_cons_self, rfl⟩
  refine (Ple.takeSyms_timer false n _ busy).trans ?_
  rw [taken]

/-! ### The places freed are filled (R76) -/

/-- What a refill leaves of the lane: all but the queue, the marks and the dump pointer. -/
def Ple.sansDump (l : Ple) : Ple := { l with queue := [], marks := [], dump := .idle }

theorem Ple.offer_sansDump (msg : LaneMsg) (l : Ple) : (l.offer msg).sansDump = l.sansDump := by
  unfold Ple.offer
  split <;> rfl

theorem Part.drainMarks_sansDump (ms : List Mark) (x : Part) : (Part.drainMarks ms x).ple.sansDump = x.ple.sansDump := by
  induction ms generalizing x with
  | nil => rfl
  | cons m ms ih =>
    unfold Part.drainMarks
    split
    · split
      · exact (ih _).trans (Ple.offer_sansDump ..)
      · exact ih x
    · rfl

theorem Part.dumpFill_sansDump (n : Nat) (x : Part) : (Part.dumpFill n x).ple.sansDump = x.ple.sansDump := by
  induction n generalizing x with
  | zero => rfl
  | succ n ih =>
    unfold Part.dumpFill
    split
    · split
      · next msg pos _ => exact (ih _).trans (Ple.offer_sansDump msg x.ple)
      · rfl
    · rfl

theorem Part.refill_sansDump (x : Part) : x.refill.ple.sansDump = x.ple.sansDump := by
  unfold Part.refill
  split
  · rfl
  · dsimp only
    split
    · exact (Part.dumpFill_sansDump ..).trans (Part.drainMarks_sansDump ..)
    · exact Part.drainMarks_sansDump ..

/-! ### The lane after the event -/

theorem Ple.takeAck_kept (quiet : Bool) (ack : Nat) (l : Ple) : (l.takeAck quiet ack).quietTail = l.quietTail ∧
    (l.takeAck quiet ack).tailDue = l.tailDue ∧ (l.takeAck quiet ack).nextSeq = l.nextSeq ∧
    (l.takeAck quiet ack).ackSent = l.ackSent ∧ (l.takeAck quiet ack).ackRaised = l.ackRaised := by
  unfold Ple.takeAck
  repeat' split
  all_goals exact ⟨rfl, rfl, rfl, rfl, rfl⟩

/-- An ack while quiet, or that names no record in the queue. -/
theorem Ple.takeAck_idle (quiet : Bool) (ack : Nat) (l : Ple) (idle : quiet = true ∨ ∀ r ∈ l.queue, r.seq ≠ some ack) :
    l.takeAck quiet ack = l := by
  cases quiet with
  | true => rfl
  | false => exact l.takeAck_unnamed ack (idle.resolve_left nofun)

/-- An ack that names a record in the queue returns the timer to 0 and calls a go-back back. -/
theorem Ple.takeAck_timer (ack : Nat) (l : Ple) (named : ∃ r ∈ l.queue, r.seq = some ack) :
    (l.takeAck false ack).resendTimer = 0 ∧ (l.takeAck false ack).goBackDue = false := by
  unfold Ple.takeAck
  cases found : findFrom (fun r : LaneRec => r.seq == some ack) 0 l.queue with
  | some i => exact ⟨rfl, rfl⟩
  | none =>
    obtain ⟨r, member, at_⟩ := named
    have := (findFrom_eq_none_iff _ _ _).mp found r member
    rw [at_] at this
    simp at this

/-- The lane just before the quiet tail counts: at a gap, and at a good playout. -/
def Part.playedLane (i : SampleInput) (x : Part) : Ple :=
  match x.fmu.playout.1 with
  | none => x.sentLane.breakRecord
  | some f => (Part.refill { x with ple := (x.backLane i.expiryFirst f).takeAck x.quiet f.ack }).ple

theorem Part.sampleWork_playedLane (i : SampleInput) (x : Part) : (x.sampleWork i).ple = (x.playedLane i).tailTick := by
  obtain ⟨gap, good⟩ := x.sampleWork_lane i
  unfold Part.playedLane
  cases h : x.fmu.playout.1 with
  | none => exact gap h
  | some f => exact good f h

theorem Ple.breakRecord_kept (l : Ple) : l.breakRecord.quietTail = l.quietTail ∧ l.breakRecord.tailDue = l.tailDue ∧
    l.breakRecord.nextSeq = l.nextSeq ∧ l.breakRecord.ackSent = l.ackSent ∧ l.breakRecord.resendTimer = l.resendTimer ∧
    l.breakRecord.goBackDue = l.goBackDue ∧ l.breakRecord.queue = l.queue ∧ l.breakRecord.cursor = l.cursor ∧
    l.breakRecord.ackRaised = l.ackRaised := by
  unfold Ple.breakRecord
  split <;> exact ⟨rfl, rfl, rfl, rfl, rfl, rfl, rfl, rfl, rfl⟩

theorem Part.backLane_sent (e : Bool) (f : Frame) (x : Part) : (x.backLane e f).nextSeq = x.sentLane.nextSeq ∧
    (x.backLane e f).ackSent = x.sentLane.ackSent ∧ (x.backLane e f).queue = x.sentLane.queue := by
  obtain ⟨-, -, queue, -, -, -, next, ack⟩ := x.sentLane.takeInAll_kept f.syms
  have back (l : Ple) : l.takeGoBack.nextSeq = l.nextSeq ∧ l.takeGoBack.ackSent = l.ackSent ∧ l.takeGoBack.queue = l.queue := by
    unfold Ple.takeGoBack
    split <;> exact ⟨rfl, rfl, rfl⟩
  obtain ⟨b1, b2, b3⟩ := back (x.sentLane.takeInAll f.syms)
  unfold Part.backLane
  cases e
  · exact ⟨next, ack, queue⟩
  · exact ⟨b1.trans next, b2.trans ack, b3.trans queue⟩

/-- What the playout leaves of the lane whatever it plays. -/
theorem Part.playedLane_kept (i : SampleInput) (x : Part) : (x.playedLane i).quietTail = x.ple.quietTail ∧
    (x.playedLane i).tailDue = x.ple.tailDue ∧ (x.playedLane i).nextSeq = x.sentLane.nextSeq ∧
    (x.playedLane i).ackSent = x.sentLane.ackSent := by
  unfold Part.playedLane
  split
  · obtain ⟨-, s1, s2, -⟩ := x.sentLane_kept
    obtain ⟨b1, b2, b3, b4, -⟩ := x.sentLane.breakRecord_kept
    exact ⟨b1.trans s1, b2.trans s2, b3, b4⟩
  · next f _ =>
    have filled := Part.refill_sansDump { x with ple := (x.backLane i.expiryFirst f).takeAck x.quiet f.ack }
    obtain ⟨a1, a2, a3, a4, -⟩ := (x.backLane i.expiryFirst f).takeAck_kept x.quiet f.ack
    obtain ⟨-, k1, k2⟩ := x.backLane_kept i.expiryFirst f
    obtain ⟨n1, n2, -⟩ := x.backLane_sent i.expiryFirst f
    exact ⟨(congrArg Ple.quietTail filled :).trans (a1.trans k1), (congrArg Ple.tailDue filled :).trans (a2.trans k2),
      (congrArg Ple.nextSeq filled :).trans (a3.trans n1), (congrArg Ple.ackSent filled :).trans (a4.trans n2)⟩

theorem Ple.tailTick_kept (l : Ple) : l.tailTick.resendTimer = l.resendTimer ∧ l.tailTick.goBackDue = l.goBackDue ∧
    l.tailTick.nextSeq = l.nextSeq ∧ l.tailTick.ackSent = l.ackSent ∧ l.tailTick.queue = l.queue ∧ l.tailTick.cursor = l.cursor ∧
    l.tailTick.ackRaised = l.ackRaised := by
  unfold Ple.tailTick
  repeat' split
  all_goals exact ⟨rfl, rfl, rfl, rfl, rfl, rfl, rfl⟩

end Sys2Proof.Machine
end

section
/-!
PROOFS. What a sample event counts and what it brings due (R8, R12, R17, R21 to R23, R31, R38, R71, R80, R92, R115, R121, R122, R139, R144),
block by block.
-/

namespace Sys2Proof.Machine

/-! ### The paths and the clock -/

/-- A path after the event: its timers and windows, and what its transmitter sent. -/
theorem Part.sampleWork_path (i : SampleInput) (x : Part) (p : Path) :
    (x.sampleWork i).path p = ((x.path p).tick x.dsc.opState).transmit (x.atCompose i).compose := by
  cases p
  · exact x.sampleWork_pa i
  · exact x.sampleWork_pb i

/-- A transmitter sends, and counts its bursts; the rest of its path stands. -/
theorem PathCtl.transmit_eq (f : Frame) (c : PathCtl) : c.transmit f = { c with
    sentFrame := match c.tx with
      | .off => none
      | .full => some f
      | .burst => if c.burstCounter < 192 then some f.toIdle else none
    burstCounter := c.burstCounter + (if c.tx = .burst then 1 else 0) } := by
  unfold PathCtl.transmit
  cases c.tx <;> rfl

/-! ### The preamp records -/

theorem Part.sampleWork_api (i : SampleInput) (x : Part) :
    (x.sampleWork i).api.queue = x.api.queue.tail ∧ (x.sampleWork i).api.sent = x.api.queue.head? := by
  have before : (x.atCompose i).sendFrame.placePorts.api.queue = x.api.queue := by
    have same : (x.atCompose i).api = x.api := by
      rw [Part.atCompose_eq]
      simp
    have placed (y : Part) : y.placePorts.api.queue = y.api.queue := by
      unfold Part.placePorts
      split <;> rfl
    exact (placed _).trans (congrArg Api.queue same)
  rw [Part.sampleWork_eq]
  generalize (x.atCompose i).sendFrame.placePorts = y at before
  unfold Part.sendPreamp
  cases waiting : x.api.queue with
  | nil =>
    rw [waiting] at before
    rw [before]
    exact ⟨before, rfl⟩
  | cons r rest =>
    rw [before, waiting]
    exact ⟨rfl, rfl⟩

/-! ### The lane (R71, R80) -/

/-- With the link up, the lane not quiet and a record in flight the timer runs. -/
def Part.laneRuns (x : Part) : Prop := (x.fmu.link = .protect ∨ x.fmu.link = .exposed) ∧ x.quiet = false ∧ 0 < x.ple.inFlight

theorem Part.timedLane_still (x : Part) (still : ¬ x.laneRuns) : x.timedLane = x.ple := x.timedLane_eq.trans (if_neg still)

/-- The lane once the symbols were taken, but for its timer: the timer counts first. -/
theorem Part.sentLane_queue (x : Part) :
    x.sentLane.queue = (if x.pa.tx = .full ∨ x.pb.tx = .full then (Ple.takeSyms x.quiet 4 x.ple).2 else x.ple).queue ∧
    x.sentLane.cursor = (if x.pa.tx = .full ∨ x.pb.tx = .full then (Ple.takeSyms x.quiet 4 x.ple).2 else x.ple).cursor ∧
    x.sentLane.nextSeq = (if x.pa.tx = .full ∨ x.pb.tx = .full then (Ple.takeSyms x.quiet 4 x.ple).2 else x.ple).nextSeq := by
  obtain ⟨t, g, timed⟩ := x.ple.timerTick_withTimer (x.fmu.link.up && !x.quiet)
  obtain ⟨u, taken⟩ := Ple.takeSyms_withTimer x.quiet 4 t g x.ple
  rw [x.sentLane_eq, show x.timedLane = x.ple.withTimer t g from timed, taken]
  split <;> exact ⟨rfl, rfl, rfl⟩

theorem Part.sentLane_runs (x : Part) (runs : x.laneRuns) : x.sentLane.resendTimer = min 192 (x.ple.resendTimer + 1) ∧
    x.sentLane.goBackDue = (x.ple.goBackDue || decide (192 ≤ x.ple.resendTimer + 1)) := by
  have timed : x.timedLane = { x.ple with
      resendTimer := min 192 (x.ple.resendTimer + 1), goBackDue := x.ple.goBackDue || decide (192 ≤ x.ple.resendTimer + 1) } :=
    x.timedLane_eq.trans (if_pos runs)
  have busy : 0 < x.timedLane.inFlight := by
    rw [timed]
    exact runs.2.2
  have timer := Ple.takeSyms_timer x.quiet 4 x.timedLane busy
  obtain ⟨-, -, -, -, -, -, -, mark⟩ := Ple.takeSyms_kept x.quiet 4 x.timedLane
  rw [x.sentLane_eq]
  split
  · exact ⟨timer.trans (by rw [timed]), mark.trans (by rw [timed])⟩
  · rw [timed]
    exact ⟨rfl, rfl⟩

theorem Part.sentLane_still (x : Part) (still : ¬ x.laneRuns) : x.sentLane.goBackDue = x.ple.goBackDue ∧
    (0 < x.ple.inFlight ∨ x.quiet = true ∨ ¬ (x.pa.tx = .full ∨ x.pb.tx = .full) ∨ x.ple.queue = [] →
      x.sentLane.resendTimer = x.ple.resendTimer) ∧
    (x.ple.inFlight = 0 → x.quiet = false → (x.pa.tx = .full ∨ x.pb.tx = .full) → x.ple.queue ≠ [] → x.ple.cursor = none →
      x.sentLane.resendTimer = 0) := by
  obtain ⟨-, -, -, -, -, -, -, mark⟩ := Ple.takeSyms_kept x.quiet 4 x.ple
  rw [x.sentLane_eq, x.timedLane_still still]
  by_cases full : x.pa.tx = .full ∨ x.pb.tx = .full
  · rw [if_pos full]
    refine ⟨mark, fun idle => ?_, fun none_ loud _ some_ rest => ?_⟩
    · rcases idle with busy | quiet | other | empty
      · exact Ple.takeSyms_timer x.quiet 4 x.ple busy
      · exact Ple.takeSyms_idle x.quiet 4 x.ple (.inl quiet)
      · exact absurd full other
      · exact Ple.takeSyms_idle x.quiet 4 x.ple (.inr empty)
    · rw [loud]
      exact Ple.takeSyms_first 3 x.ple none_ some_ rest
  · rw [if_neg full]
    exact ⟨rfl, fun _ => rfl, fun _ _ h => absurd h full⟩

/-- The ack of a good playout names a record in the queue, with the lane not quiet. -/
def Part.acks (x : Part) (f : Frame) : Prop := x.quiet = false ∧ ∃ r ∈ x.sentLane.queue, r.seq = some f.ack

theorem Part.playedLane_unnamed (i : SampleInput) (x : Part)
    (plain : ∀ f, x.fmu.playout.1 = some f → i.expiryFirst = false ∧ ¬ x.acks f) :
    (x.playedLane i).resendTimer = x.sentLane.resendTimer ∧ (x.playedLane i).goBackDue = x.sentLane.goBackDue := by
  unfold Part.playedLane
  split
  · obtain ⟨-, -, -, -, timer, mark, -⟩ := x.sentLane.breakRecord_kept
    exact ⟨timer, mark⟩
  · next f played =>
    obtain ⟨early, unnamed⟩ := plain f played
    have filled := Part.refill_sansDump { x with ple := (x.backLane i.expiryFirst f).takeAck x.quiet f.ack }
    obtain ⟨-, -, queue, mark, timer, -⟩ := x.sentLane.takeInAll_kept f.syms
    have back : x.backLane i.expiryFirst f = x.sentLane.takeInAll f.syms := by
      unfold Part.backLane
      rw [early]
      rfl
    have ack : (x.backLane i.expiryFirst f).takeAck x.quiet f.ack = x.sentLane.takeInAll f.syms := by
      rw [back]
      refine Ple.takeAck_idle _ _ _ ?_
      cases quiet : x.quiet with
      | true => exact .inl rfl
      | false => exact .inr fun r member at_ => unnamed ⟨quiet, r, queue ▸ member, at_⟩
    exact ⟨(congrArg Ple.resendTimer filled :).trans ((congrArg Ple.resendTimer ack).trans timer),
      (congrArg Ple.goBackDue filled :).trans ((congrArg Ple.goBackDue ack).trans mark)⟩

theorem Part.playedLane_named (i : SampleInput) (x : Part) (f : Frame) (played : x.fmu.playout.1 = some f) (named : x.acks f) :
    (x.playedLane i).resendTimer = 0 ∧ (x.playedLane i).goBackDue = false := by
  have filled := Part.refill_sansDump { x with ple := (x.backLane i.expiryFirst f).takeAck x.quiet f.ack }
  obtain ⟨quiet, r, member, at_⟩ := named
  obtain ⟨-, -, queue⟩ := x.backLane_sent i.expiryFirst f
  have ack : ((x.backLane i.expiryFirst f).takeAck x.quiet f.ack).resendTimer = 0 ∧
      ((x.backLane i.expiryFirst f).takeAck x.quiet f.ack).goBackDue = false := by
    rw [quiet]
    exact (x.backLane i.expiryFirst f).takeAck_timer f.ack ⟨r, queue ▸ member, at_⟩
  unfold Part.playedLane
  rw [played]
  exact ⟨(congrArg Ple.resendTimer filled :).trans ack.1, (congrArg Ple.goBackDue filled :).trans ack.2⟩

/-! ### The tables at STAGE -/

theorem Dest.faded_due (r : Ramp) (d : Dest) :
    (d.faded r).fadeDue = true ↔ d.fadeDue = true ∨ (d.state = .fading ∧ r.cur = 0 ∧ r.count = 0) := by
  unfold Dest.faded Ramp.silent
  split
  · next h => simpa using .inr ⟨h.1, by simpa using h.2⟩
  · next h => exact ⟨.inl, fun due => due.resolve_right fun z => h ⟨z.1, by simpa using z.2⟩⟩

/-- The phases found ended after a mix's output. -/
theorem Mix.sampled_due (k : Mix) (out : Sample × Bool × Bool) :
    ((k.sampled out).leavingDue = true ↔ k.phase = .leaving ∧ ∀ c ∈ k.contribs, c.ref.bank = .input → c.ramp.advance.cur = 0) ∧
    ((k.sampled out).arrivingDue = true ↔ k.phase = .arriving ∧ ∀ c ∈ k.contribs, c.ref.bank = .input → c.live = true →
      c.ramp.advance.count = 0 ∧ c.ramp.advance.cur = c.ramp.advance.target) := by
  have bank (r : SrcRef) : (r.bank = .input → False) ↔ r.bank = .ret := by cases r.bank <;> simp
  refine ⟨?_, ?_⟩
  · show (k.phase == Phase.leaving && (k.contribs.map Contrib.tick).all fun c => c.ref.bank == .ret || c.ramp.cur == 0) = true ↔ _
    simp only [Bool.and_eq_true, beq_iff_eq, List.all_map, List.all_eq_true, Function.comp_apply, Bool.or_eq_true, ← bank]
    refine and_congr Iff.rfl (forall₂_congr fun c _ => ?_)
    show ((c.ref.bank = .input → False) ∨ c.ramp.advance.cur = 0) ↔ _
    exact (Decidable.imp_iff_not_or).symm
  · show (k.phase == Phase.arriving && (k.contribs.map Contrib.tick).all fun c => c.ref.bank == .ret || !c.live ||
      (c.ramp.count == 0 && c.ramp.cur == c.ramp.target)) = true ↔ _
    simp only [Bool.and_eq_true, beq_iff_eq, List.all_map, List.all_eq_true, Function.comp_apply, Bool.or_eq_true, ← bank,
      Bool.not_eq_true']
    refine and_congr Iff.rfl (forall₂_congr fun c _ => ?_)
    show (((c.ref.bank = .input → False) ∨ c.live = false) ∨ c.ramp.advance.count = 0 ∧ c.ramp.advance.cur = c.ramp.advance.target) ↔ _
    cases c.live <;> simp [Decidable.imp_iff_not_or]

/-! ### The obligation, block by block -/

/-- The timers of the paths, the sessions and the wake. -/
theorem Part.sampleWork_counts (i : SampleInput) (x : Part) :
    let y := x.sampleWork i
    y.dsc = (if x.dsc.opState = .waking then { x.dsc with wakeTimer := x.dsc.wakeTimer - 1 } else x.dsc) ∧
    (∀ p, (y.path p).state = (x.path p).state ∧ (y.path p).step = (x.path p).step ∧
      (y.path p).stepTimer = (x.path p).stepTimer + (if (x.path p).state = .acquiring then 1 else 0) ∧
      (y.path p).silenceTimer = (x.path p).silenceTimer + (if (x.path p).usable then 1 else 0) ∧
      (y.path p).burstCounter = (x.path p).burstCounter + (if (x.path p).tx = .burst then 1 else 0)) ∧
    (x.dsc.role = .stage → ∀ src, (y.session src).map (fun z => (z.echo, z.order, z.latchTimer)) =
      (x.session src).map (fun z => (z.echo, z.order, if z.latched then z.latchTimer + 1 else z.latchTimer))) ∧
    (x.dsc.role = .desk → y.tka = x.tka ∧ y.chs = x.chs ∧ y.mxe = x.mxe) := by
  refine ⟨x.sampleWork_dsc i, fun p => ?_, fun stage src => ?_, fun desk => ?_⟩
  · rw [x.sampleWork_path i p, PathCtl.transmit_eq]
    unfold PathCtl.tick
    dsimp only
    refine ⟨rfl, rfl, ?_, ?_, rfl⟩
    · split <;> rfl
    · split <;> rfl
  · have source := (x.sampleWork_sampled i stage).source src
    have session : (x.sampleWork i).session src = (x.session src).map (Session.latchTick x.tka.cfg.limit) := by
      refine (congrArg SourceRec.session source).trans ?_
      rw [x.latchTicks_tka]
      cases src <;> rfl
    rw [session, Option.map_map]
    refine congrArg (fun f => (x.session src).map f) (funext fun z => ?_)
    show ((z.latchTick x.tka.cfg.limit).echo, (z.latchTick x.tka.cfg.limit).order, (z.latchTick x.tka.cfg.limit).latchTimer) = _
    rw [Session.latchTick_echo]
    unfold Session.latchTick
    cases z.latched <;> rfl
  · obtain ⟨tka, mxe, -, -⟩ := x.sampleWork_stage i
    have still : ((x.atLane i).playout i.expiryFirst).stageWork = (x.atLane i).playout i.expiryFirst := by
      unfold Part.stageWork
      rw [Part.playout_dsc, x.atLane_role, desk]
    rw [still] at tka mxe
    have tka' := x.atLane_tka i
    have chs' := x.atLane_chs i
    rw [desk] at tka' chs'
    exact ⟨tka.trans ((Part.playout_tka ..).trans tka'), (x.sampleWork_chs i).trans chs',
      mxe.trans ((Part.playout_mxe ..).trans (x.atLane_mxe i))⟩

/-- The windows, the silence and the dark timer of a path. -/
theorem Part.sampleWork_windows (i : SampleInput) (x : Part) (p : Path) :
    let c := x.path p
    let y := (x.sampleWork i).path p
    let limit := match (generalizing := false) c.cfg.silenceSel with
      | 0 => 24
      | 1 => 48
      | 2 => 96
      | _ => 192
    (y.lightDue = true ↔ 47 ≤ c.lightPos) ∧ y.lightPos = (if c.lightPos < 47 then c.lightPos + 1 else 0) ∧
    (y.errDue = true ↔ 4799 ≤ c.errPos) ∧ y.errPos = (if c.errPos < 4799 then c.errPos + 1 else 0) ∧
    (c.cfg.silenceSel ≤ 3 → (y.silenceDue = true ↔ c.usable = true ∧ limit ≤ c.silenceTimer + 1)) ∧
    y.darkTimer = (if c.state = .dark ∧ x.dsc.opState = .operate ∧ c.cfg.enabled = true then min 96000 (c.darkTimer + 1) else c.darkTimer) := by
  intro c y limit
  have path : y = (c.tick x.dsc.opState).transmit (x.atCompose i).compose := x.sampleWork_path i p
  rw [PathCtl.transmit_eq] at path
  clear_value y
  subst path
  have same (low : c.cfg.silenceSel ≤ 3) : silenceLimit c.cfg.silenceSel = limit := by
    unfold limit silenceLimit
    interval_cases c.cfg.silenceSel <;> rfl
  refine ⟨decide_eq_true_iff, rfl, decide_eq_true_iff, rfl, fun low => ?_, rfl⟩
  show (c.usable && decide (silenceLimit c.cfg.silenceSel ≤ c.silenceTimer + 1)) = true ↔ _
  rw [same low, Bool.and_eq_true, decide_eq_true_iff]

/-- The quiet tail after the event. -/
theorem Part.sampleWork_tail (i : SampleInput) (x : Part) :
    let l := (x.sampleWork i).ple
    (x.ple.quietTail = 0 → l.quietTail = 0 ∧ l.tailDue = x.ple.tailDue) ∧
    (x.ple.quietTail = 1 → l.quietTail = 1 ∧ l.tailDue = true) ∧
    (1 < x.ple.quietTail → l.quietTail = x.ple.quietTail - 1 ∧ l.tailDue = x.ple.tailDue) := by
  obtain ⟨tail, due, -⟩ := x.playedLane_kept i
  rw [x.sampleWork_playedLane i]
  generalize x.playedLane i = k at tail due
  unfold Ple.tailTick
  rw [← tail, ← due]
  refine ⟨fun zero => ?_, fun one => ?_, fun more => ?_⟩
  · rw [if_neg (by omega), if_neg (by omega)]
    exact ⟨zero, rfl⟩
  · rw [if_neg (by omega), if_pos one]
    exact ⟨one, rfl⟩
  · rw [if_pos more]
    exact ⟨rfl, rfl⟩

/-- The resend timer and the go-back after the event. -/
theorem Part.sampleWork_resend (i : SampleInput) (x : Part) :
    let l := (x.sampleWork i).ple
    let full := x.pa.tx = .full ∨ x.pb.tx = .full
    ((∀ f, x.fmu.playout.1 = some f → i.expiryFirst = false ∧ ¬ x.acks f) →
      (x.laneRuns → l.resendTimer = min 192 (x.ple.resendTimer + 1) ∧
        (l.goBackDue = true ↔ x.ple.goBackDue = true ∨ 192 ≤ x.ple.resendTimer + 1)) ∧
      (¬ x.laneRuns → l.goBackDue = x.ple.goBackDue) ∧
      (¬ x.laneRuns → 0 < x.ple.inFlight ∨ x.quiet = true ∨ ¬ full ∨ x.ple.queue = [] → l.resendTimer = x.ple.resendTimer) ∧
      (x.ple.inFlight = 0 → x.quiet = false → full → x.ple.queue ≠ [] → x.ple.cursor = none → l.resendTimer = 0)) ∧
    (∀ f, x.fmu.playout.1 = some f → i.expiryFirst = false → x.acks f → l.resendTimer = 0 ∧ l.goBackDue = false) := by
  obtain ⟨timer, mark, -⟩ := (x.playedLane i).tailTick_kept
  rw [x.sampleWork_playedLane i]
  intro l full
  refine ⟨fun plain => ?_, fun f played _ named => ?_⟩
  · obtain ⟨timer', mark'⟩ := x.playedLane_unnamed i plain
    rw [show l.resendTimer = x.sentLane.resendTimer from timer.trans timer', show l.goBackDue = x.sentLane.goBackDue from mark.trans mark']
    refine ⟨fun runs => ?_, fun still => (x.sentLane_still still).1, fun still => (x.sentLane_still still).2.1, fun none_ => ?_⟩
    · obtain ⟨counted, due⟩ := x.sentLane_runs runs
      rw [counted, due]
      exact ⟨rfl, by rw [Bool.or_eq_true, decide_eq_true_iff]⟩
    · exact (x.sentLane_still fun runs => by have := runs.2.2; omega).2.2 none_
  · obtain ⟨timer', mark'⟩ := x.playedLane_named i f played named
    exact ⟨timer.trans timer', mark.trans mark'⟩

/-- What the event brings due in the tables at STAGE. -/
theorem Part.sampleWork_due (i : SampleInput) (x : Part) (stage : x.dsc.role = .stage) :
    let y := x.sampleWork i
    (∀ n, n < x.chs.channels.length → ((y.channel n).walkDue = true ↔
      (x.channel n).walkTimer ≤ 1 ∧ (x.channel n).gain ≠ (x.channel n).gainTarget)) ∧
    (∀ src z, x.session src = some z → ∃ w, y.session src = some w ∧
      (w.latchDue = true ↔ z.latchDue = true ∨ (z.latched = true ∧ x.tka.cfg.limit * 48000 ≤ z.latchTimer + 1))) ∧
    (∀ m, m < 16 → m < x.mxe.mixes.length →
      let z := x.mix m
      (y.mix m).contribs.map (fun c => c.freeDue) = z.contribs.map (fun c => !c.live && decide (c.ramp.advance.cur = 0)) ∧
      ((y.mix m).leavingDue = true ↔ z.phase = .leaving ∧ ∀ c ∈ z.contribs, c.ref.bank = .input → c.ramp.advance.cur = 0) ∧
      ((y.mix m).arrivingDue = true ↔ z.phase = .arriving ∧ ∀ c ∈ z.contribs, c.ref.bank = .input → c.live = true →
        c.ramp.advance.count = 0 ∧ c.ramp.advance.cur = c.ramp.advance.target) ∧
      (m < x.tka.dests.length → ((y.dest m).fadeDue = true ↔ (x.dest m).fadeDue = true ∨
        ((x.dest m).state = .fading ∧ z.talkRamp.advance.cur = 0 ∧ z.talkRamp.advance.count = 0)))) ∧
    (16 < x.tka.dests.length → ((y.dest 16).fadeDue = true ↔ (x.dest 16).fadeDue = true ∨
      ((x.dest 16).state = .fading ∧ x.tka.cue.advance.cur = 0 ∧ x.tka.cue.advance.count = 0))) := by
  have event := x.sampleWork_sampled i stage
  have channel := x.sampleWork_channel i stage
  intro y
  refine ⟨fun n inside => ?_, fun src z opened => ?_, fun m low inside => ?_, fun inside => ?_⟩
  · rw [channel n, if_pos inside]
    show (decide ((x.channel n).walkTimer ≤ 1) && (x.channel n).gain != (x.channel n).gainTarget) = true ↔ _
    rw [Bool.and_eq_true, decide_eq_true_iff, bne_iff_ne]
  · have session : y.session src = (x.session src).map (Session.latchTick x.tka.cfg.limit) := by
      refine (congrArg SourceRec.session (event.source src)).trans ?_
      rw [x.latchTicks_tka]
      cases src <;> rfl
    refine ⟨z.latchTick x.tka.cfg.limit, by rw [session, opened]; rfl, ?_⟩
    unfold Session.latchTick
    cases z.latched with
    | false => exact ⟨.inl, fun due => due.resolve_right fun l => by cases l.1⟩
    | true =>
      show (z.latchDue || decide (x.tka.cfg.limit * 48000 ≤ z.latchTimer + 1)) = true ↔ _
      rw [Bool.or_eq_true, decide_eq_true_iff]
      simp
  · rw [event.mix m, if_pos ⟨low, inside⟩]
    obtain ⟨leaving, arriving⟩ := (x.mix m).sampled_due (x.eventOut i.talk (x.sampleWork i).bus m)
    refine ⟨?_, leaving, arriving, fun held => ?_⟩
    · show ((x.mix m).contribs.map Contrib.tick).map _ = _
      rw [List.map_map]
      rfl
    · rw [event.dest m low held]
      exact Dest.faded_due ..
  · rw [event.cueDest inside]
    exact Dest.faded_due ..

/-- Settles O11: the timers, the preamp record sent, and what comes due on the paths, the clock, the lane and in the tables. -/
theorem sampleEventCountsTimers : Obligations.SampleEventCountsTimers := by
  refine ⟨fun i s pin settled => ⟨_, exec_sampleEvent_settled i s pin settled, s.part.sampleWork_counts i⟩,
    fun i s pin settled => ⟨_, exec_sampleEvent_settled i s pin settled, s.part.sampleWork_api i⟩,
    fun i s pin settled => ⟨_, exec_sampleEvent_settled i s pin settled, s.part.sampleWork_windows i, s.part.sampleWork_scu i⟩,
    fun i s pin settled => ⟨_, exec_sampleEvent_settled i s pin settled, ?_⟩,
    fun i s pin settled stage => ⟨_, exec_sampleEvent_settled i s pin settled, s.part.sampleWork_due i stage⟩⟩
  obtain ⟨zero, one, more⟩ := s.part.sampleWork_tail i
  refine ⟨zero, one, more, ?_⟩
  intro fm got
  have played : got = fm.playout.1 := fm.playout_frame.symm
  clear_value got
  subst played
  intro full l sent names runs
  have named (f : Frame) : names f ↔ s.part.acks f := by
    unfold Part.acks
    rw [s.part.sentLane_queue.1]
  obtain ⟨plain, acked⟩ := s.part.sampleWork_resend i
  exact ⟨fun h => plain fun f played => ⟨(h f played).1, fun a => (h f played).2 ((named f).mpr a)⟩,
    fun f played early a => acked f played early ((named f).mp a)⟩

end Sys2Proof.Machine
end

section
/-!
PROOFS. The frame of a sample event (R16, R37, R38, R41, R64, R68, R130, R147): what it is composed of, how each transmitter sends it, the lane's
symbols, and the output ports.
-/

namespace Sys2Proof.Machine

/-! ### The lane's symbols (R64, R68) -/

/-- One symbol: none while quiet, under the cursor, from rest, and idle fill. -/
theorem Ple.takeSym_rules (l : Ple) : l.takeSym true = (⟨true, 0⟩, l) ∧
    (∀ i pos r seq y, l.cursor = some (i, pos) → l.queue[i]? = some r → r.seq = some seq → (recordSyms r.msg seq)[pos]? = some y →
      l.takeSym false = (y, { l with
        cursor := if pos + 1 < (recordSyms r.msg seq).length then some (i, pos + 1)
          else if ((l.queue[i + 1]?).bind LaneRec.seq).isSome = true then some (i + 1, 0) else none })) ∧
    (∀ sent r rest, l.cursor = none → l.queue = sent ++ r :: rest → (∀ o ∈ sent, o.seq ≠ none) → r.seq = none → l.inFlight < 12 →
      l.takeSym false = (⟨true, r.msg.kind⟩, { l with
        queue := sent ++ ⟨r.msg, some l.nextSeq⟩ :: rest
        nextSeq := (l.nextSeq + 1) % 256
        cursor := some (sent.length, 1)
        resendTimer := if l.inFlight = 0 then 0 else l.resendTimer })) ∧
    (l.cursor = none → (∀ r ∈ l.queue, r.seq ≠ none) ∨ 12 ≤ l.inFlight → l.takeSym false = (⟨true, 0⟩, l)) := by
  refine ⟨rfl, fun i pos r seq y cursor under sequence symbol => ?_, fun sent r rest cursor queue earlier unsent few => ?_,
    fun cursor still => ?_⟩
  · have next : l.cursorAfter i = if ((l.queue[i + 1]?).bind LaneRec.seq).isSome = true then some (i + 1, 0) else none := by
      unfold Ple.cursorAfter
      cases l.queue[i + 1]? <;> rfl
    rw [l.takeSym_under i pos r cursor under, sequence, next]
    show ((recordSyms r.msg seq).getD pos Sym.idle, _) = _
    rw [List.getD_eq_getElem?_getD, symbol]
    rfl
  · have found : findFrom (fun r : LaneRec => r.seq.isNone) 0 l.queue = some sent.length := by
      rw [queue]
      refine (findFrom_append _ 0 sent r rest (fun o member => ?_) (by rw [unsent]; rfl)).trans (by rw [Nat.zero_add])
      simpa using Option.isSome_iff_ne_none.mpr (earlier o member)
    have header : l.queue.getD sent.length default = r := by
      rw [queue, List.getD_eq_getElem?_getD, List.getElem?_append_right (Nat.le_refl _), Nat.sub_self]
      rfl
    rw [l.takeSym_fresh sent.length cursor found few, header]
    have taken : updAt sent.length (fun r => { r with seq := some l.nextSeq }) l.queue = sent ++ ⟨r.msg, some l.nextSeq⟩ :: rest := by
      rw [queue, updAt_append]
    rw [taken]
    rfl
  · refine l.takeSym_rest cursor (still.imp (fun sent => findFrom_none _ 0 _ fun r member => ?_) (by omega))
    simpa using Option.isSome_iff_ne_none.mpr (sent r member)

/-! ### What the frame is composed of -/

theorem Part.atCompose_tx (i : SampleInput) (x : Part) : (x.atCompose i).pa.tx = x.pa.tx ∧ (x.atCompose i).pb.tx = x.pb.tx := by
  have pa : (x.atCompose i).pa = x.pa.tick x.dsc.opState := by simp [Part.atCompose, Part.timers_pa]
  have pb : (x.atCompose i).pb = x.pb.tick x.dsc.opState := by simp [Part.atCompose, Part.timers_pb]
  rw [pa, pb]
  exact ⟨rfl, rfl⟩

theorem Part.atCompose_dsc (i : SampleInput) (x : Part) : (x.atCompose i).dsc = (x.atLane i).dsc := by
  rw [Part.atCompose_eq]
  simp

theorem Part.atCompose_ple (i : SampleInput) (x : Part) : (x.atCompose i).ple = (x.playedLane i).tailTick := by
  rw [← x.sampleWork_playedLane i, x.sampleWork_ple i, Part.atCompose_eq]
  simp

theorem Part.atCompose_txSeq (i : SampleInput) (x : Part) : (x.atCompose i).fmu.txSeq = x.fmu.txSeq := by
  rw [Part.atCompose_eq]
  simp only [Part.meters_fmu, Part.stageWork_fmu, Part.playout_fmu, Part.atLane_fmu]
  show x.fmu.playout.2.txSeq = _
  rw [x.fmu.playout_after.1]

theorem Part.atCompose_syms (i : SampleInput) (x : Part) : (x.atCompose i).bus.syms =
    if x.pa.tx = .full ∨ x.pb.tx = .full then (Ple.takeSyms x.quiet 4 x.timedLane).1 else [] := by
  have taken : (x.atCompose i).bus.syms = (x.takePorts i).timers.stageCondition.takeLane.bus.syms := by
    rw [Part.atCompose_eq]
    simp [Part.atLane]
  obtain ⟨full, quiet, ple⟩ := x.beforeLane_facts i
  have empty : (x.takePorts i).timers.stageCondition.bus.syms = [] := by
    rw [Part.stageCondition_syms, Part.timers_bus]
    rfl
  rw [taken]
  generalize (x.takePorts i).timers.stageCondition = z at full quiet ple empty
  unfold Part.takeLane
  rw [full, quiet, ple]
  by_cases h : x.pa.tx = .full ∨ x.pb.tx = .full
  · rw [if_pos h, if_pos (x.anyFull_iff.mpr h)]
  · rw [if_neg h, if_neg fun f => h (x.anyFull_iff.mp f)]
    exact empty

theorem Ple.takeInAll_ackRaised (ys : List Sym) (l : Ple) : (l.takeInAll ys).ackRaised = l.ackRaised := by
  refine foldl_keeps Ple.ackRaised _ (fun k y => ?_) ys l
  unfold Ple.takeIn Ple.breakRecord
  repeat' split
  all_goals rfl

theorem Part.playedLane_ackRaised (i : SampleInput) (x : Part) : (x.playedLane i).ackRaised = x.ple.ackRaised := by
  obtain ⟨-, -, -, raised, -⟩ := x.sentLane_kept
  unfold Part.playedLane
  split
  · obtain ⟨-, -, -, -, -, -, -, -, broken⟩ := x.sentLane.breakRecord_kept
    exact broken.trans raised
  · next f _ =>
    have filled := Part.refill_sansDump { x with ple := (x.backLane i.expiryFirst f).takeAck x.quiet f.ack }
    obtain ⟨-, -, -, -, acked⟩ := (x.backLane i.expiryFirst f).takeAck_kept x.quiet f.ack
    have back : (x.backLane i.expiryFirst f).ackRaised = x.sentLane.ackRaised := by
      have one (l : Ple) : l.takeGoBack.ackRaised = l.ackRaised := by
        unfold Ple.takeGoBack
        split <;> rfl
      unfold Part.backLane
      split
      · exact (one _).trans (Ple.takeInAll_ackRaised ..)
      · exact Ple.takeInAll_ackRaised ..
    exact (congrArg Ple.ackRaised filled :).trans (acked.trans (back.trans raised))

/-- The ack of the records applied before the event, when a transmitter is FULL. -/
theorem Part.sentLane_ackSent (x : Part) :
    x.sentLane.ackSent = if x.pa.tx = .full ∨ x.pb.tx = .full then (x.ple.expSeq + 255) % 256 else x.ple.ackSent := by
  obtain ⟨-, -, -, -, -, -, -, sent, -⟩ := x.ple.timerTick_kept (x.fmu.link.up && !x.quiet)
  rw [x.sentLane_eq]
  split
  · rfl
  · exact sent

/-- The fields of the frame that do not depend on the end. -/
theorem Part.compose_header (i : SampleInput) (x : Part) :
    let f := (x.atCompose i).compose
    let full := x.pa.tx = .full ∨ x.pb.tx = .full
    f.seq = x.fmu.txSeq ∧ f.role = x.dsc.role ∧ f.restart = x.dsc.restartFlag ∧ f.restartAck = x.ple.ackRaised ∧ f.idle = false ∧
    f.ack = (if full then (x.ple.expSeq + 255) % 256 else x.ple.ackSent) ∧
    f.syms = (if full then (Ple.takeSyms x.quiet 4 x.timedLane).1 else []) := by
  have ple := x.atCompose_ple i
  obtain ⟨-, -, -, ack, -, -, raised⟩ := (x.playedLane i).tailTick_kept
  obtain ⟨-, -, -, sent⟩ := x.playedLane_kept i
  have dsc := x.atCompose_dsc i
  refine ⟨x.atCompose_txSeq i, ?_, ?_, ?_, rfl, ?_, x.atCompose_syms i⟩
  · exact (congrArg Dsc.role dsc).trans (x.atLane_role i)
  · exact (congrArg Dsc.restartFlag dsc).trans (x.atLane_restartFlag i)
  · exact (congrArg Ple.ackRaised ple).trans (raised.trans (x.playedLane_ackRaised i))
  · exact (congrArg Ple.ackSent ple).trans (ack.trans (sent.trans x.sentLane_ackSent))

theorem Part.atCompose_anyFull (i : SampleInput) (x : Part) : (x.atCompose i).anyFull = x.anyFull := by
  obtain ⟨pa, pb⟩ := x.atCompose_tx i
  unfold Part.anyFull
  rw [pa, pb]

/-- The microphones and the talk inputs as the frame finds them. -/
theorem Part.atCompose_inputs (i : SampleInput) (x : Part) :
    (x.atCompose i).bus.mic = ((List.range (micCount x.dsc.role)).map fun n => portSample i.ports (n / 8) (n % 8)) ∧
    (x.atCompose i).bus.talkIn = ((List.range 2).map fun n => portSample [i.talk] 0 n) ∧ (x.atCompose i).mirror = x.mirror := by
  rw [Part.atCompose_eq]
  refine ⟨?_, ?_, by simp⟩
  · rw [Part.meters_mic, Part.stageWork_mic, Part.playout_mic]
    unfold Part.atLane
    rw [Part.takeLane_mic, Part.stageCondition_mic, Part.timers_bus]
    rfl
  · rw [Part.meters_talkIn, Part.stageWork_talkIn, Part.playout_talkIn]
    unfold Part.atLane
    rw [Part.takeLane_talkIn, Part.stageCondition_talkIn, Part.timers_bus]
    rfl

/-- The audio and the cell of the frame, by the end. -/
theorem Part.compose_body (i : SampleInput) (x : Part) :
    let f := (x.atCompose i).compose
    let b := (x.sampleWork i).bus
    (x.dsc.role = .stage → f.audio = b.conditioned.map (fun v => v.1) ++ [b.cueSlot] ∧ f.cell = if x.anyFull then b.cellOut else none) ∧
    (x.dsc.role = .desk → f.cell = none ∧ f.audio = (List.range 8).map (fun n => slotSample ((i.ports.getD 0 []).getD n 0)) ++
      [if x.mirror.fohOpen then slotSample (i.talk.getD 0 0) else 0]) := by
  have role : (x.atCompose i).dsc.role = x.dsc.role := (congrArg Dsc.role (x.atCompose_dsc i)).trans (x.atLane_role i)
  have full := x.atCompose_anyFull i
  obtain ⟨mic, talkIn, mirror⟩ := x.atCompose_inputs i
  intro f b
  have bus : b = (x.atCompose i).bus := x.sampleWork_bus i
  unfold f Part.compose Part.frameAudio
  rw [bus]
  dsimp only
  rw [role, full]
  refine ⟨fun stage => ?_, fun desk => ?_⟩
  · rw [stage]
    exact ⟨rfl, rfl⟩
  · rw [desk] at mic ⊢
    refine ⟨rfl, ?_⟩
    dsimp only
    rw [mic, talkIn, mirror]
    refine congrArg (· ++ _) (List.map_congr_left fun n h => ?_)
    have low : n < 8 := List.mem_range.mp h
    unfold portSample
    rw [Nat.div_eq_of_lt low, Nat.mod_eq_of_lt low]

theorem Part.sampleWork_conditionedLength (i : SampleInput) (x : Part) (stage : x.dsc.role = .stage) :
    (x.sampleWork i).bus.conditioned.length = x.chs.channels.length := by
  have role : (x.takePorts i).timers.dsc.role = .stage := (Part.timers_role _).trans stage
  have chs : (x.takePorts i).timers.chs.channels = x.chs.channels.map fun c => c.walkTick.phantomTick := by
    rw [Part.timers_chs, show (x.takePorts i).dsc.role = .stage from stage]
    rfl
  rw [x.sampleWork_bus, Part.atCompose_eq, Part.meters_conditioned, Part.stageWork_conditioned, Part.playout_conditioned]
  unfold Part.atLane
  rw [Part.takeLane_conditioned, Part.stageCondition_stage _ role]
  show (mapFrom _ 0 _).length = _
  rw [mapFrom_length, chs, List.length_map, List.length_map]

/-! ### The output ports (R15, R16) -/

/-- A sample as a port slot: its 24 bits above 8 zero bits, whatever lies above them. -/
theorem sampleSlot_eq (v : Sample) : sampleSlot v = BitVec.ofInt 32 (v * 256) := by
  have wide : ∀ u : Int, u % 16777216 * 256 = (u * 256) % 4294967296 := fun u => by omega
  have low : ∀ u : Int, 0 ≤ u % 16777216 ∧ u % 16777216 < 16777216 := fun u => by omega
  obtain ⟨nonneg, small⟩ := low v
  have same := wide v
  refine BitVec.eq_of_toNat_eq ?_
  unfold sampleSlot natOfSample
  rw [BitVec.toNat_ofNat, BitVec.toNat_ofInt, Nat.mod_eq_of_lt (by omega)]
  show ((v % 16777216 : Int)).toNat * 256 = ((v * 256 : Int) % 4294967296).toNat
  rw [← same]
  omega

theorem portOf_slot (vals : List Sample) (p k : Nat) (low : k < 8) :
    (portOf vals p).getD k 0 = BitVec.ofInt 32 (vals.getD (8 * p + k) 0 * 256) := by
  unfold portOf
  rw [List.getD_eq_getElem?_getD, List.getElem?_map, List.getElem?_range low]
  exact sampleSlot_eq _

theorem ports_slot (vals : List Sample) (n p k : Nat) (port : p < n) (low : k < 8) :
    (((List.range n).map (portOf vals)).getD p []).getD k 0 = BitVec.ofInt 32 (vals.getD (8 * p + k) 0 * 256) := by
  have at_ : ((List.range n).map (portOf vals)).getD p [] = portOf vals p := by
    rw [List.getD_eq_getElem?_getD, List.getElem?_map, List.getElem?_range port]
    rfl
  rw [at_]
  exact portOf_slot vals p k low

/-- The ports after the event, by the end. -/
theorem Part.sampleWork_ports (i : SampleInput) (x : Part) :
    let y := x.sampleWork i
    (x.dsc.role = .stage → y.api.portsOut = (List.range 2).map (portOf (y.bus.mixOut.map fun o => o.1))) ∧
    (x.dsc.role = .desk → y.api.portsOut = (List.range 8).map (portOf (y.bus.played.take 64)) ∧
      y.api.talkOut = portOf [y.bus.played.getD 64 0] 0) := by
  have role : (x.atCompose i).dsc.role = x.dsc.role := (congrArg Dsc.role (x.atCompose_dsc i)).trans (x.atLane_role i)
  have sent (z : Part) : z.sendPreamp.api.portsOut = z.api.portsOut ∧ z.sendPreamp.api.talkOut = z.api.talkOut := by
    unfold Part.sendPreamp
    split <;> exact ⟨rfl, rfl⟩
  intro y
  have bus : y.bus = (x.atCompose i).bus := x.sampleWork_bus i
  obtain ⟨ports, talk⟩ := sent (x.atCompose i).sendFrame.placePorts
  have placed : y.api.portsOut = (x.atCompose i).sendFrame.placePorts.api.portsOut ∧
      y.api.talkOut = (x.atCompose i).sendFrame.placePorts.api.talkOut := ⟨ports, talk⟩
  rw [placed.1, placed.2, bus]
  generalize x.atCompose i = z at role
  replace role : z.sendFrame.dsc.role = x.dsc.role := role
  have bus : z.bus = z.sendFrame.bus := rfl
  rw [bus]
  generalize z.sendFrame = w at role
  unfold Part.placePorts
  rw [role]
  refine ⟨fun stage => ?_, fun desk => ?_⟩
  · rw [stage]
  · rw [desk]
    exact ⟨rfl, rfl⟩

/-- The output ports and the cue slot as the slots carry them. -/
theorem Part.sampleWork_slots (i : SampleInput) (x : Part) :
    let y := x.sampleWork i
    let slot (v : Sample) : Slot32 := BitVec.ofInt 32 (v * 256)
    (x.dsc.role = .stage → y.api.portsOut.length = 2 ∧
      ∀ p k, p < 2 → k < 8 → (y.api.portsOut.getD p []).getD k 0 = slot (y.bus.mixOut.getD (8 * p + k) (0, false, false)).1) ∧
    (x.dsc.role = .desk → y.api.portsOut.length = 8 ∧
      (∀ p k, p < 8 → k < 8 → (y.api.portsOut.getD p []).getD k 0 = slot (y.bus.played.getD (8 * p + k) 0)) ∧
      y.api.talkOut.length = 8 ∧ y.api.talkOut.getD 0 0 = slot (y.bus.played.getD 64 0) ∧
      ∀ k, 1 ≤ k → k < 8 → y.api.talkOut.getD k 0 = 0) := by
  obtain ⟨stage_, desk_⟩ := x.sampleWork_ports i
  refine ⟨fun stage => ?_, fun desk => ?_⟩
  · rw [stage_ stage]
    refine ⟨rfl, fun p k port low => ?_⟩
    rw [ports_slot _ 2 p k port low]
    generalize (x.sampleWork i).bus.mixOut = l
    have first : (l.map fun o => o.1).getD (8 * p + k) 0 = (l.getD (8 * p + k) (0, false, false)).1 := by
      rw [List.getD_eq_getElem?_getD, List.getElem?_map, List.getD_eq_getElem?_getD]
      cases l[8 * p + k]? <;> rfl
    rw [first]
  · obtain ⟨ports, talk⟩ := desk_ desk
    rw [ports, talk]
    refine ⟨rfl, fun p k port low => ?_, rfl, portOf_slot _ 0 0 (by decide), fun k above low => ?_⟩
    · rw [ports_slot _ 8 p k port low]
      generalize (x.sampleWork i).bus.played = l
      rw [List.getD_eq_getElem?_getD, List.getElem?_take, if_pos (by omega), List.getD_eq_getElem?_getD]
    · rw [portOf_slot _ 0 k low, List.getD_eq_default _ _ (by simpa using above)]
      rfl

/-! ### The obligation -/

/-- A gap leaves the queue and the cursor as the symbols left them. -/
theorem Part.sampleWork_gap (i : SampleInput) (x : Part) (gap : x.fmu.playout.1 = none) :
    (x.sampleWork i).ple.queue = x.sentLane.queue ∧ (x.sampleWork i).ple.cursor = x.sentLane.cursor := by
  obtain ⟨-, -, -, -, queue, cursor, -⟩ := (x.playedLane i).tailTick_kept
  obtain ⟨-, -, -, -, -, -, queue', cursor', -⟩ := x.sentLane.breakRecord_kept
  have broken : x.playedLane i = x.sentLane.breakRecord := by
    unfold Part.playedLane
    rw [gap]
  rw [x.sampleWork_playedLane i, queue, cursor, broken]
  exact ⟨queue', cursor'⟩

/-- The lane after the event, as the symbols and the playout leave it. -/
theorem Part.sampleWork_sent (i : SampleInput) (x : Part) :
    let full := x.pa.tx = .full ∨ x.pb.tx = .full
    let sent := if full then (Ple.takeSyms x.quiet 4 x.timedLane).2 else x.ple
    let l := (x.sampleWork i).ple
    l.nextSeq = sent.nextSeq ∧ l.ackSent = (if full then (x.ple.expSeq + 255) % 256 else x.ple.ackSent) ∧
    ((∀ q, x.fmu.p = some q → (x.fmu.slots.getD (q % 16) MergeSlot.empty).seq ≠ some q) →
      l.queue = sent.queue ∧ l.cursor = sent.cursor) := by
  obtain ⟨-, -, next, ack⟩ := x.playedLane_kept i
  obtain ⟨-, -, next', ack', -⟩ := (x.playedLane i).tailTick_kept
  obtain ⟨-, -, queue_t, -, cursor_t, -, next_t, -⟩ := x.ple.timerTick_kept (x.fmu.link.up && !x.quiet)
  intro full sent l
  have sentLane : x.sentLane.nextSeq = sent.nextSeq ∧ x.sentLane.queue = sent.queue ∧ x.sentLane.cursor = sent.cursor := by
    rw [x.sentLane_eq]
    unfold sent
    by_cases h : full
    · rw [if_pos h, if_pos h]
      exact ⟨rfl, rfl, rfl⟩
    · rw [if_neg h, if_neg h]
      exact ⟨next_t, queue_t, cursor_t⟩
  have lane : l = (x.playedLane i).tailTick := x.sampleWork_playedLane i
  refine ⟨?_, ?_, fun gap => ?_⟩
  · exact (congrArg Ple.nextSeq lane).trans (next'.trans (next.trans sentLane.1))
  · exact (congrArg Ple.ackSent lane).trans (ack'.trans (ack.trans x.sentLane_ackSent))
  · have none_ : x.fmu.playout.1 = none := by
      rw [x.fmu.playout_frame]
      cases at_ : x.fmu.p with
      | none => rfl
      | some q => exact if_neg (gap q at_)
    obtain ⟨queue, cursor⟩ := x.sampleWork_gap i none_
    exact ⟨queue.trans sentLane.2.1, cursor.trans sentLane.2.2⟩

/-- Settles O7: the frame and how it is sent, the lane's symbols, and the ports with the cue slot. -/
theorem sampleEventSendsOneFrame : Obligations.SampleEventSendsOneFrame := by
  refine ⟨fun i s pin settled => ⟨_, (s.part.atCompose i).compose, exec_sampleEvent_settled i s pin settled, ?_⟩,
    ⟨fun _ _ => rfl, fun _ _ => rfl, Ple.takeSym_rules⟩, fun i s pin settled => ⟨_, exec_sampleEvent_settled i s pin settled, ?_⟩⟩
  · obtain ⟨seq, role, restart, raised, idle, ack, syms⟩ := s.part.compose_header i
    obtain ⟨next, ackSent, gap⟩ := s.part.sampleWork_sent i
    obtain ⟨stage_, desk_⟩ := s.part.compose_body i
    have length := s.part.sampleWork_conditionedLength i
    have path := s.part.sampleWork_path i
    have txSeq : (s.part.sampleWork i).fmu.txSeq = (s.part.fmu.txSeq + 1) % 65536 := by
      rw [s.part.sampleWork_fmu i]
      show (s.part.fmu.playout.2.txSeq + 1) % 65536 = _
      rw [s.part.fmu.playout_after.1]
    generalize (s.part.atCompose i).compose = f at seq role restart raised idle ack syms stage_ desk_ path
    refine ⟨txSeq, seq, role, restart, raised, idle, fun full => ?_, fun a b => ?_, ⟨next, ?_, gap⟩, fun stage => ?_, desk_, fun p => ?_⟩
    · rw [ack, syms, if_pos full, if_pos full]
      exact ⟨rfl, Ple.takeSyms_length .., rfl⟩
    · have none_ : ¬ (s.part.pa.tx = .full ∨ s.part.pb.tx = .full) := fun h => h.elim a b
      rw [ack, syms, if_neg none_, if_neg none_]
      refine ⟨rfl, rfl, ?_⟩
      cases end_ : s.part.dsc.role with
      | stage => exact (stage_ end_).2.trans (if_neg fun h => none_ (s.part.anyFull_iff.mp h))
      | desk => exact (desk_ end_).1
    · rw [ackSent, ack]
      split <;> rfl
    · obtain ⟨audio, cell⟩ := stage_ stage
      exact ⟨length stage, audio, fun full => cell.trans (if_pos (s.part.anyFull_iff.mpr full))⟩
    · rw [path p, PathCtl.transmit_eq]
      refine ⟨rfl, ?_⟩
      show (match (s.part.path p).tx with
        | .off => none
        | .full => some f
        | .burst => if (s.part.path p).burstCounter < 192 then some f.toIdle else none) = _
      cases (s.part.path p).tx <;> rfl
  · obtain ⟨stage_, desk_⟩ := s.part.sampleWork_slots i
    have sampled := s.part.sampleWork_sampled i
    intro slot
    refine ⟨fun stage => ?_, desk_⟩
    obtain ⟨length, slots⟩ := stage_ stage
    have event := sampled stage
    refine ⟨length, slots, event.cue, ?_⟩
    intro talk
    have heard : talk = (s.part.dest 16).heard ((s.part.sampleWork i).bus.played.getD 8 0) (slotSample (i.talk.getD 0 0))
        (slotSample (i.talk.getD 1 0)) := rfl
    rw [event.cueSlot, event.cue, heard]
    rfl

end Sys2Proof.Machine
end

section
/-!
PROOFS. Echoes at the DESK end (R83, R84, R89, R127, R150): an accepted echo replaces its entry and tells its notice, any other is ignored; the
marks of a dump.
-/

namespace Sys2Proof.Machine

/-! ### Acceptance -/

/-- An echo of a version is accepted: the mirror is not INVALID and the entry is unknown or older. -/
def Mirror.takes {α : Type} (m : Mirror) (version : α → Nat) (old : Option α) (v : Nat) : Prop :=
  m.state ≠ .invalid ∧ ∀ o, old = some o → 1 ≤ (v + 65536 - version o % 65536) % 65536 ∧ (v + 65536 - version o % 65536) % 65536 ≤ 32767

theorem Mirror.accepts_takes {α : Type} (m : Mirror) (version : α → Nat) (old : Option α) (v : Nat) :
    m.accepts (old.map version) v = true ↔ m.takes version old v := by
  rw [Mirror.accepts_iff]
  cases old <;> simp [Mirror.takes]

/-- An entry replaced; beyond the list nothing changes. -/
theorem updAt_const {α : Type} (i : Nat) (a : α) (l : List α) : updAt i (fun _ => a) l = l.set i a := by
  refine List.ext_getElem? fun j => ?_
  rw [updAt_get, List.getElem?_set]
  by_cases e : j = i
  · subst e
    by_cases inside : j < l.length
    · simp [inside]
    · simp [inside]
  · rw [if_neg e, if_neg fun h => e h.symm]

theorem List.getElem?_of_getD {α : Type} (l : List α) (n : Nat) (d : α) (inside : n < l.length) : l[n]? = some (l.getD n d) := by
  rw [List.getElem?_eq_getElem inside, List.getD_eq_getElem _ _ inside]

/-! ### One echo of each kind -/

/-- A notice told in VALID alone. -/
theorem Part.echoNotice_eq (n : Notice) (x : Part) :
    x.echoNotice n = { x with cmp := if x.mirror.state = .valid then x.cmp.notify n else x.cmp } := by
  unfold Part.echoNotice
  split <;> rfl

theorem Part.echoedChannel_rule (x : Part) (ch : Nat) (e : ChanEcho) (inside : ch < x.mirror.channels.length) :
    let old := x.mirror.channels.getD ch none
    let notices : List Notice := .channelChanged ch e .echo ::
      (match (generalizing := false) old with
        | some o => if (e.phantom = .on ∨ e.phantom = .off) ∧ o.phantom ≠ e.phantom then [.phantomDoneDesk ch e.phantom] else []
        | none => [])
    (¬ x.mirror.takes ChanEcho.version old e.version → x.applyMsg (.echoChannel ch e) = x) ∧
    (x.mirror.takes ChanEcho.version old e.version → x.applyMsg (.echoChannel ch e) = { x with
      mirror := { x.mirror with channels := x.mirror.channels.set ch (some e) }
      cmp := if x.mirror.state = .valid then notices.foldl (fun c n => c.notify n) x.cmp else x.cmp }) := by
  have entry := List.getElem?_of_getD x.mirror.channels ch none inside
  have accepts := x.mirror.accepts_takes ChanEcho.version (x.mirror.channels.getD ch none) e.version
  show (_ → x.echoedChannel ch e = x) ∧ (_ → x.echoedChannel ch e = _)
  unfold Part.echoedChannel
  rw [entry]
  generalize x.mirror.channels.getD ch none = old at accepts
  dsimp only
  refine ⟨fun stale => if_neg fun a => stale (accepts.mp a), fun fresh => (if_pos (accepts.mpr fresh)).trans ?_⟩
  rw [updAt_const, Part.echoNotice_eq]
  unfold Part.deskPhantomDone
  cases old with
  | none =>
    dsimp only
    split <;> rfl
  | some o =>
    dsimp only
    by_cases done : (e.phantom = .on ∨ e.phantom = .off) ∧ o.phantom ≠ e.phantom
    · rw [if_pos done, if_pos done, Part.echoNotice_eq]
      dsimp only
      split <;> rfl
    · rw [if_neg done, if_neg done]
      split <;> rfl

theorem Part.echoedMix_rule (x : Part) (m : Nat) (e : MixEcho) (inside : m < x.mirror.mixes.length) :
    let old := x.mirror.mixes.getD m none
    (¬ x.mirror.takes MixEcho.version old e.version → x.applyMsg (.echoMix m e) = x) ∧
    (x.mirror.takes MixEcho.version old e.version → x.applyMsg (.echoMix m e) = { x with
      mirror := { x.mirror with mixes := x.mirror.mixes.set m (some e) }
      cmp := if x.mirror.state = .valid then x.cmp.notify (.mixChanged m e .echo) else x.cmp }) := by
  have entry := List.getElem?_of_getD x.mirror.mixes m none inside
  have accepts := x.mirror.accepts_takes MixEcho.version (x.mirror.mixes.getD m none) e.version
  show (_ → x.echoedMix m e = x) ∧ (_ → x.echoedMix m e = _)
  unfold Part.echoedMix
  rw [entry]
  dsimp only
  refine ⟨fun stale => if_neg fun a => stale (accepts.mp a), fun fresh => (if_pos (accepts.mpr fresh)).trans ?_⟩
  rw [updAt_const, Part.echoNotice_eq]

/-- A source reference has an entry when its index is in the bank's range. -/
theorem refOf_isSome (r : SrcRef) : (refOf (bankNum r.bank) r.idx).isSome = true ↔ match (generalizing := false) r.bank with
    | .input => r.idx ≤ 63
    | .ret => r.idx ≤ 7 := by
  unfold refOf bankNum
  cases r.bank with
  | input => by_cases low : r.idx ≤ 63 <;> simp [low]
  | ret => by_cases low : r.idx ≤ 7 <;> simp [low]

theorem Part.echoedContrib_rule (x : Part) (m : Nat) (r : SrcRef) (e : ContribEcho) (row : List (Option ContribEcho))
    (has : x.mirror.contribs[m]? = some row) :
    let taken := x.mirror.takes ContribEcho.version (row.getD (refIndex r) none) e.version
    (¬ (refOf (bankNum r.bank) r.idx).isSome = true ∨ ¬ taken → x.applyMsg (.echoContrib m r e) = x) ∧
    ((refOf (bankNum r.bank) r.idx).isSome = true → taken → x.applyMsg (.echoContrib m r e) = { x with
      mirror := { x.mirror with contribs := x.mirror.contribs.set m (row.set (refIndex r) (some e)) }
      cmp := if x.mirror.state = .valid then x.cmp.notify (.contribChanged m r e .echo) else x.cmp }) := by
  have accepts := x.mirror.accepts_takes ContribEcho.version (row.getD (refIndex r) none) e.version
  have inside : m < x.mirror.contribs.length := (List.getElem?_eq_some_iff.mp has).1
  have at_ : x.mirror.contribs.getD m [] = row := by rw [List.getD_eq_getElem?_getD, has]; rfl
  show (_ → x.echoedContrib m r e = x) ∧ (_ → _ → x.echoedContrib m r e = _)
  unfold Part.echoedContrib Mirror.contribRow
  by_cases known : (refOf (bankNum r.bank) r.idx).isSome = true
  · rw [if_pos known, has]
    dsimp only
    refine ⟨fun stale => if_neg fun a => stale.elim (fun h => h known) fun h => h (accepts.mp a),
      fun _ fresh => (if_pos (accepts.mpr fresh)).trans ?_⟩
    rw [Part.echoNotice_eq, updAt_eq_set m _ [] _ inside, at_, updAt_const]
  · rw [if_neg known]
    exact ⟨fun _ => rfl, fun h => absurd h known⟩

theorem Part.echoedTalk_rule (x : Part) (src : Source) (e : TalkEcho) :
    let old := x.mirror.talk src
    (¬ x.mirror.takes TalkEcho.version old e.version → x.applyMsg (.echoTalk src e) = x) ∧
    (x.mirror.takes TalkEcho.version old e.version → x.applyMsg (.echoTalk src e) = { x with
      mirror := x.mirror.setTalk src e
      cmp := if x.mirror.state = .valid then x.cmp.notify (.talkState (talkNotice src (old.bind TalkEcho.session) e .echo)) else x.cmp }) := by
  have accepts := x.mirror.accepts_takes TalkEcho.version (x.mirror.talk src) e.version
  have state : (x.mirror.setTalk src e).state = x.mirror.state := by cases src <;> rfl
  show (_ → x.echoedTalk src e = x) ∧ (_ → x.echoedTalk src e = _)
  unfold Part.echoedTalk
  refine ⟨fun stale => if_neg fun a => stale (accepts.mp a), fun fresh => (if_pos (accepts.mpr fresh)).trans ?_⟩
  rw [Part.echoNotice_eq]
  dsimp only
  rw [state]

theorem Part.echoedCfg_rule (x : Part) (c : TalkCfg) :
    (¬ x.mirror.takes TalkCfg.version x.mirror.cfg c.version → x.applyMsg (.echoTalkCfg c) = x) ∧
    (x.mirror.takes TalkCfg.version x.mirror.cfg c.version → x.applyMsg (.echoTalkCfg c) = { x with
      mirror := { x.mirror with cfg := some c }
      cmp := if x.mirror.state = .valid then x.cmp.notify (.talkCfgState c .echo) else x.cmp }) := by
  have accepts := x.mirror.accepts_takes TalkCfg.version x.mirror.cfg c.version
  show (_ → x.echoedCfg c = x) ∧ (_ → x.echoedCfg c = _)
  unfold Part.echoedCfg
  refine ⟨fun stale => if_neg fun a => stale (accepts.mp a), fun fresh => (if_pos (accepts.mpr fresh)).trans ?_⟩
  rw [Part.echoNotice_eq]

theorem Part.echoedLock_rule (x : Part) (l : Locks) :
    (¬ x.mirror.takes Locks.version x.mirror.locks l.version → x.applyMsg (.echoLock l) = x) ∧
    (x.mirror.takes Locks.version x.mirror.locks l.version → x.applyMsg (.echoLock l) = { x with
      mirror := { x.mirror with locks := some l }
      cmp := if x.mirror.state = .valid then x.cmp.notify (.lockChanged l) else x.cmp }) := by
  have accepts := x.mirror.accepts_takes Locks.version x.mirror.locks l.version
  show (_ → x.echoedLock l = x) ∧ (_ → x.echoedLock l = _)
  unfold Part.echoedLock
  refine ⟨fun stale => if_neg fun a => stale (accepts.mp a), fun fresh => (if_pos (accepts.mpr fresh)).trans ?_⟩
  rw [Part.echoNotice_eq]

/-! ### The marks of a dump (R83) -/

theorem Part.dumpBegin_rule (x : Part) :
    (x.mirror.state ≠ .filling → x.applyMsg .dumpBegin = { x with
      mirror := { Mirror.powerOn with state := .filling }, cmp := x.cmp.notify (.mirrorState .filling x.mirror.state) }) ∧
    (x.mirror.state = .filling → x.applyMsg .dumpBegin = { x with mirror := { Mirror.powerOn with state := .filling } }) := by
  show (_ → x.mirrorTo .filling = _) ∧ (_ → x.mirrorTo .filling = _)
  unfold Part.mirrorTo
  exact ⟨fun other => if_neg fun e => other e.symm, fun already => if_pos already.symm⟩

theorem Part.dumpEnd_rule (x : Part) :
    (x.mirror.state ≠ .filling → x.applyMsg .dumpEnd = x) ∧
    (x.mirror.state = .filling →
      (x.applyMsg .dumpEnd).mirror.state = .valid ∧ (x.applyMsg .dumpEnd).cmp = x.cmp.notify (.mirrorState .valid .filling) ∧
      (x.applyMsg .dumpEnd).mirror.channels = x.mirror.channels ∧
      ∀ (m : Nat) (row : List (Option ContribEcho)) (e : MixEcho), x.mirror.contribs[m]? = some row →
        x.mirror.mixes.getD m none = some e →
        (x.applyMsg .dumpEnd).mirror.contribs[m]? = some (row.map fun c => some (c.getD ⟨e.version, none⟩))) := by
  show (_ → x.dumpEnded = x) ∧ (_ → x.dumpEnded.mirror.state = _ ∧ x.dumpEnded.cmp = _ ∧ x.dumpEnded.mirror.channels = _ ∧
    ∀ (m : Nat) (row : List (Option ContribEcho)) (e : MixEcho), _ → _ → x.dumpEnded.mirror.contribs[m]? = _)
  unfold Part.dumpEnded
  refine ⟨fun other => if_neg other, fun filling => ?_⟩
  rw [if_pos filling]
  refine ⟨rfl, rfl, rfl, fun m row e has mix => ?_⟩
  have version : x.absentVersion m = e.version := by
    unfold Part.absentVersion
    rw [mix]
  show (mapFrom _ 0 x.mirror.contribs)[m]? = _
  rw [mapFrom_get, has, Nat.zero_add, Option.map_some, version]
  refine congrArg some (List.map_congr_left fun c _ => ?_)
  cases c <;> rfl

end Sys2Proof.Machine
end

section
/-!
PROOFS. Echoes at the STAGE end (R66, R75, R76, R82): where an echo goes, what a running dump has passed, and how freed places are filled from
the marks.
-/

namespace Sys2Proof.Machine

/-! ### An echo produced (R75) -/

/-- An echo is whole: it takes an older one's place without merging with it. -/
theorem mergeMsg_echo (old : LaneMsg) (x : Part) (t : Target) (msg : LaneMsg) (built : x.buildEcho t = some msg) : mergeMsg old msg = msg := by
  refine mergeMsg_whole old msg (.inr ?_)
  unfold Part.buildEcho at built
  repeat' split at built
  all_goals
    cases built
  all_goals simp [LaneMsg.kind]

theorem Part.echo_passed (t : Target) (msg : LaneMsg) (x : Part) (built : x.buildEcho t = some msg) (target : msg.target = t)
    (passed : x.dumpPassed t = true) :
    ((∃ k ∈ x.ple.marks, k.target = t) → x.echo t = x) ∧
    ((∀ k ∈ x.ple.marks, k.target ≠ t) →
      (∀ before r after, x.ple.queue = before ++ r :: after → r.seq = none → r.msg.target = t →
        (∀ b ∈ before, b.seq = none → b.msg.target ≠ t) →
        x.echo t = { x with ple := { x.ple with queue := before ++ ⟨msg, none⟩ :: after } }) ∧
      ((∀ r ∈ x.ple.queue, r.seq = none → r.msg.target ≠ t) →
        (x.ple.queue.length < 32 → x.echo t = { x with ple := { x.ple with queue := x.ple.queue ++ [⟨msg, none⟩] } }) ∧
        (32 ≤ x.ple.queue.length → x.echo t = { x with ple := { x.ple with marks := x.ple.marks ++ [.echo t] } }))) := by
  have house := buildEcho_house x t msg built
  have uncut (q : List LaneRec) : clearEdits msg q = q := clearEdits_echo msg q house
  have marked : x.ple.marks.any (fun m => m.target == t) = true ↔ ∃ k ∈ x.ple.marks, k.target = t := by simp
  have entry : x.echo t = if x.ple.marks.any (fun m => m.target == t) = true then x else
      match admitTo msg x.ple.queue with
      | some q => { x with ple := { x.ple with queue := q } }
      | none => { x with ple := { x.ple with marks := x.ple.marks ++ [.echo t] } } := by
    unfold Part.echo
    rw [passed, built]
    rfl
  rw [entry]
  refine ⟨fun has => if_pos (marked.mpr has), fun free => ⟨fun before r after queue unsent same oldest => ?_, fun fresh => ?_⟩⟩
  all_goals rw [if_neg fun h => by
    obtain ⟨k, member, at_⟩ := marked.mp h
    exact free k member at_]
  · rw [admitTo_replaces msg x.ple.queue before after r ((uncut _).trans queue) unsent (same.trans target.symm) fun b hb u => by
      rw [target]
      exact oldest b hb u, mergeMsg_echo r.msg x t msg built]
  · rw [admitTo_new msg x.ple.queue (uncut _) fun r hr u => by
      rw [target]
      exact fresh r hr u]
    refine ⟨fun room => ?_, fun full => ?_⟩
    · rw [if_pos room]
    · rw [if_neg (by omega)]

theorem Part.echo_unpassed (t : Target) (x : Part) (still : x.dumpPassed t = false) : x.echo t = x := by
  unfold Part.echo
  rw [still]
  rfl

/-- The echo of a contribution: LIVE with its code, ABSENT when RETIRING or without an entry (R66). -/
theorem Mix.contribEcho_eq (m : Mix) (v : Nat) (r : SrcRef) (version : m.version = v) :
    m.contribEcho r = ⟨v, (m.find r).bind fun c => if c.live = true then some c.code else none⟩ := by
  unfold Mix.contribEcho
  cases m.find r <;> rw [version] <;> rfl

/-! ### What a running dump has passed (R82) -/

/-- The pointer of a dump has passed a target. -/
def Part.passedAt (x : Part) (pos : DumpPos) (t : Target) : Prop :=
  Part.dumpPassed { x with ple := { x.ple with dump := pos } } t = true

/-- The rank of a target in the dump order. -/
def Target.dumpRank : Target → Option Nat
  | .channel n => some (1 + n)
  | .mix m => some (65 + m)
  | .contrib _ _ _ => some 81
  | .talkCfg => some 82
  | .talk n => some (83 + n)
  | .locks => some 86
  | _ => none

/-- A running dump has passed the targets of lower rank; among the contributions it goes by their places. -/
theorem Part.passedAt_rank (x : Part) (pos : DumpPos) (t : Target) (k : Nat) (ranked : t.dumpRank = some k) (running : pos ≠ .idle)
    (apart : ∀ c j m b i, pos = .contrib c j → t ≠ .contrib m b i) : x.passedAt pos t ↔ k < pos.rank := by
  have same : Part.dumpPassed { x with ple := { x.ple with dump := pos } } t = decide (k < pos.rank) := by
    cases pos with
    | idle => exact absurd rfl running
    | contrib c j =>
      cases t with
      | contrib m b i => exact absurd rfl (apart c j m b i rfl)
      | _ => cases ranked <;> rfl
    | _ => cases t <;> cases ranked <;> rfl
  unfold Part.passedAt
  rw [same, decide_eq_true_iff]

/-- Of a contribution, at a place of the contributions: those of earlier mixes, and those before the place in its own. -/
theorem Part.passedAt_contrib (x : Part) (k j m b i : Nat) (r : SrcRef) (ref : refOf b i = some r) :
    x.passedAt (.contrib k j) (.contrib m b i) ↔ m < k ∨ (m = k ∧ ∃ e, (x.mix m).indexOf r = some e ∧ e < j) := by
  unfold Part.passedAt Part.dumpPassed
  dsimp only
  rcases Nat.lt_trichotomy m k with before | at_ | after
  · rw [if_pos before]
    exact ⟨fun _ => .inl before, fun _ => rfl⟩
  · subst at_
    rw [if_neg (Nat.lt_irrefl _), if_neg (Nat.lt_irrefl _), ref]
    show (match (x.mix m).indexOf r with
      | some e => decide (e < j)
      | none => false) = true ↔ _
    cases (x.mix m).indexOf r with
    | none => exact ⟨nofun, fun h => h.elim (fun lt => absurd lt (Nat.lt_irrefl _)) fun ⟨_, e, same, _⟩ => nomatch same⟩
    | some e =>
      refine decide_eq_true_iff.trans ⟨fun lt => .inr ⟨rfl, e, rfl, lt⟩, fun h => ?_⟩
      rcases h with lt | ⟨-, f, same, lt⟩
      · exact absurd lt (Nat.lt_irrefl _)
      · cases same
        exact lt
  · rw [if_neg (by omega), if_pos after]
    exact ⟨nofun, fun h => by omega⟩

theorem Part.passed_rules (x : Part) (n m b i : Nat) (src : Source) (channel : n < 64) (mix : m < 16) :
    (∀ t, x.passedAt .idle t) ∧ ¬ x.passedAt .begin (.channel n) ∧ ¬ x.passedAt .begin .locks ∧
    (∀ k, k < 64 → ((x.passedAt (.channel k) (.channel n) ↔ n < k) ∧ ¬ x.passedAt (.channel k) (.mix m))) ∧
    (∀ k, k < 16 → (x.passedAt (.mix k) (.channel n) ∧ (x.passedAt (.mix k) (.mix m) ↔ m < k) ∧ ¬ x.passedAt (.mix k) (.contrib m b i) ∧
      ¬ x.passedAt (.mix k) .talkCfg)) ∧
    (∀ k j r, refOf b i = some r →
      (x.passedAt (.contrib k j) (.mix m) ∧ ¬ x.passedAt (.contrib k j) .talkCfg ∧
        (x.passedAt (.contrib k j) (.contrib m b i) ↔ m < k ∨ (m = k ∧ ∃ e, (x.mix m).indexOf r = some e ∧ e < j)))) ∧
    x.passedAt .talkCfg (.contrib m b i) ∧ ¬ x.passedAt .talkCfg .talkCfg ∧ x.passedAt (.talk src) .talkCfg ∧
    ¬ x.passedAt (.talk src) (.talk (sourceNum src)) ∧ ¬ x.passedAt (.talk src) .locks ∧
    x.passedAt .locks (.talk (sourceNum src)) ∧ ¬ x.passedAt .locks .locks ∧ x.passedAt .finish .locks := by
  have talkRank : (DumpPos.talk src).rank = 83 + sourceNum src := by cases src <;> rfl
  have few : sourceNum src < 3 := by cases src <;> decide
  have plain (pos : DumpPos) (t : Target) (k : Nat) (ranked : t.dumpRank = some k) (running : pos ≠ .idle)
      (place : ∀ c j, pos ≠ .contrib c j) := x.passedAt_rank pos t k ranked running fun c j _ _ _ at_ => absurd at_ (place c j)
  have body (c j : Nat) (t : Target) (k : Nat) (ranked : t.dumpRank = some k) (other : ∀ m b i, t ≠ .contrib m b i) :=
    x.passedAt_rank (.contrib c j) t k ranked nofun fun _ _ m b i _ => other m b i
  refine ⟨fun t => rfl, ?_, ?_, fun k low => ⟨?_, ?_⟩, fun k low => ⟨?_, ?_, ?_, ?_⟩, fun k j r ref => ⟨?_, ?_, ?_⟩, ?_, ?_, ?_, ?_, ?_, ?_, ?_, ?_⟩
  · rw [plain .begin (.channel n) _ rfl nofun nofun]; exact Nat.not_lt_zero _
  · rw [plain .begin .locks _ rfl nofun nofun]; exact Nat.not_lt_zero _
  · rw [plain (.channel k) (.channel n) _ rfl nofun nofun]; show 1 + n < 1 + k ↔ _; omega
  · rw [plain (.channel k) (.mix m) _ rfl nofun nofun]; show ¬ 65 + m < 1 + k; omega
  · rw [plain (.mix k) (.channel n) _ rfl nofun nofun]; show 1 + n < 65 + k; omega
  · rw [plain (.mix k) (.mix m) _ rfl nofun nofun]; show 65 + m < 65 + k ↔ _; omega
  · rw [plain (.mix k) (.contrib m b i) _ rfl nofun nofun]; show ¬ 81 < 65 + k; omega
  · rw [plain (.mix k) .talkCfg _ rfl nofun nofun]; show ¬ 82 < 65 + k; omega
  · rw [body k j (.mix m) _ rfl nofun]; show 65 + m < 81; omega
  · rw [body k j .talkCfg _ rfl nofun]; show ¬ 82 < 81; omega
  · exact x.passedAt_contrib k j m b i r ref
  · rw [plain .talkCfg (.contrib m b i) _ rfl nofun nofun]; show 81 < 82; omega
  · rw [plain .talkCfg .talkCfg _ rfl nofun nofun]; exact Nat.lt_irrefl _
  · rw [plain (.talk src) .talkCfg _ rfl nofun nofun, talkRank]; omega
  · rw [plain (.talk src) (.talk (sourceNum src)) _ rfl nofun nofun, talkRank]; omega
  · rw [plain (.talk src) .locks _ rfl nofun nofun, talkRank]; omega
  · rw [plain .locks (.talk (sourceNum src)) _ rfl nofun nofun]; show 83 + sourceNum src < 86; omega
  · rw [plain .locks .locks _ rfl nofun nofun]; exact Nat.lt_irrefl _
  · rw [plain .finish .locks _ rfl nofun nofun]; show 86 < 87; omega

/-! ### Freed places filled from the marks (R76) -/

/-- The marks of a list of targets drained: as many as the queue has places, the rest stay. -/
theorem Part.drainMarks_echoes (targets : List Target) (msgs : List LaneMsg) (x : Part) (built : targets.map x.buildEcho = msgs.map some)
    (named : msgs.map LaneMsg.target = targets) (once : targets.Nodup)
    (fresh : ∀ r ∈ x.ple.queue, r.seq = none → r.msg.target ∉ targets) :
    Part.drainMarks (targets.map Mark.echo) x = { x with ple := { x.ple with
      queue := x.ple.queue ++ (msgs.take (32 - x.ple.queue.length)).map fun m => ⟨m, none⟩
      marks := (targets.drop (32 - x.ple.queue.length)).map Mark.echo } } := by
  induction targets generalizing msgs x with
  | nil =>
    have empty : msgs = [] := List.map_eq_nil_iff.mp named
    subst empty
    show ({ x with ple := { x.ple with marks := [] } } : Part) = _
    rw [List.take_nil, List.drop_nil, List.map_nil, List.map_nil, List.append_nil]
  | cons t ts ih =>
    obtain ⟨msg, rest, rfl⟩ : ∃ msg rest, msgs = msg :: rest := by
      cases msgs with
      | nil => cases named
      | cons msg rest => exact ⟨msg, rest, rfl⟩
    obtain ⟨first, others⟩ := List.cons.inj built
    obtain ⟨target, targets'⟩ := List.cons.inj named
    obtain ⟨apart, once'⟩ := List.nodup_cons.mp once
    rw [List.map_cons]
    unfold Part.drainMarks
    by_cases room : x.ple.queue.length < 32
    · have left : 32 - x.ple.queue.length = (32 - (x.ple.queue.length + 1)) + 1 := by omega
      have joined : x.ple.offer msg = { x.ple with queue := x.ple.queue ++ [⟨msg, none⟩] } :=
        Ple.offer_new msg x.ple (buildEcho_house x t msg first) (fun r member unsent same =>
          fresh r member unsent (by rw [same, target]; exact List.mem_cons_self)) room
      have told : x.markMsg (.echo t) = some msg := first
      rw [if_pos room, told]
      dsimp only
      rw [joined]
      refine (ih rest { x with ple := { x.ple with queue := x.ple.queue ++ [⟨msg, none⟩] } } others targets' once' fun r member unsent => ?_).trans ?_
      · rcases List.mem_append.mp member with before | last
        · exact fun h => fresh r before unsent (List.mem_cons_of_mem _ h)
        · rw [List.mem_singleton.mp last]
          show msg.target ∉ ts
          rw [target]
          exact apart
      · dsimp only
        rw [List.length_append, List.length_singleton, left, List.take_succ_cons, List.drop_succ_cons, List.map_cons, List.append_assoc]
        rfl
    · have full : 32 - x.ple.queue.length = 0 := by omega
      rw [if_neg room, full, List.take_zero, List.drop_zero, List.map_nil, List.append_nil]
      rfl

theorem Part.dumpFill_full (n : Nat) (x : Part) (full : 32 ≤ x.ple.queue.length) : Part.dumpFill n x = x := by
  cases n with
  | zero => rfl
  | succ n => exact if_neg (by omega)

theorem Part.dumpFill_over (n : Nat) (x : Part) (ended : x.ple.dump = .idle) : Part.dumpFill n x = x := by
  cases n with
  | zero => rfl
  | succ n =>
    unfold Part.dumpFill
    have next : x.dumpNext = none := by
      unfold Part.dumpNext
      rw [ended]
    rw [next]
    split <;> rfl

/-- The places freed filled from the marks alone: while a mark waits, or with no dump running, no dump record goes. -/
theorem Part.refill_marks (targets : List Target) (msgs : List LaneMsg) (x : Part) (stage : x.dsc.role = .stage)
    (marks : x.ple.marks = targets.map Mark.echo) (built : targets.map x.buildEcho = msgs.map some)
    (named : msgs.map LaneMsg.target = targets) (once : targets.Nodup)
    (fresh : ∀ r ∈ x.ple.queue, r.seq = none → r.msg.target ∉ targets) :
    let free := 32 - x.ple.queue.length
    (free ≤ targets.length → x.refill = { x with ple := { x.ple with
      queue := x.ple.queue ++ (msgs.take free).map fun m => ⟨m, none⟩
      marks := (targets.drop free).map Mark.echo } }) ∧
    (targets.length < free → x.ple.dump = .idle → x.refill = { x with ple := { x.ple with
      queue := x.ple.queue ++ msgs.map fun m => ⟨m, none⟩, marks := [] } }) := by
  have drained := Part.drainMarks_echoes targets msgs x built named once fresh
  have size : msgs.length = targets.length := by rw [← named, List.length_map]
  intro free
  have filled : x.refill = if (targets.drop free).isEmpty then
      Part.dumpFill 32 (Part.drainMarks (targets.map Mark.echo) x) else Part.drainMarks (targets.map Mark.echo) x := by
    unfold Part.refill
    rw [stage, marks]
    dsimp only
    rw [drained]
    dsimp only
    rw [List.isEmpty_map]
  rw [filled, drained]
  refine ⟨fun few => ?_, fun more ended => ?_⟩
  · by_cases done : (targets.drop free).isEmpty = true
    · rw [if_pos done]
      refine Part.dumpFill_full _ _ ?_
      show 32 ≤ (x.ple.queue ++ _).length
      rw [List.length_append, List.length_map, List.length_take]
      omega
    · rw [if_neg done]
  · have all : msgs.take free = msgs := List.take_of_length_le (by omega)
    have none_ : targets.drop free = [] := List.drop_eq_nil_of_le (by omega)
    rw [none_, if_pos List.isEmpty_nil]
    refine (Part.dumpFill_over 32 _ (by exact ended)).trans ?_
    show ({ x with ple := { x.ple with queue := x.ple.queue ++ (msgs.take free).map _, marks := _ } } : Part) = _
    rw [all]
    rfl

end Sys2Proof.Machine
end

section
/-!
PROOFS. The records of a dump, one after another (R82): each step gives the record at the pointer and moves it on, through the channels, the
mixes, the LIVE contributions in order, and the settings after them; and with it the echoes' obligation.
-/

namespace Sys2Proof.Machine

/-! ### The LIVE contributions in their order -/

/-- A place of a contribution: its mix, its index and its source reference. -/
abbrev LivePlace : Type := Nat × Nat × SrcRef

/-- A place stands at or after a place of the dump order. -/
def LivePlace.atOrAfter (m k : Nat) (p : LivePlace) : Bool := decide (m < p.1) || (p.1 == m && decide (k ≤ p.2.1))

/-- A place stands before another. -/
def LivePlace.before (p q : LivePlace) : Prop := p.1 < q.1 ∨ (p.1 = q.1 ∧ p.2.1 < q.2.1)

/-- The LIVE contributions of a mix, with their places. -/
def Part.livePlaces (x : Part) (n : Nat) : List LivePlace := (liveFrom 0 (x.mix n).contribs).map fun e => (n, e.1, e.2.ref)

/-- Every LIVE contribution, by mix and list order. -/
def Part.allLive (x : Part) : List LivePlace := (List.range 16).flatMap x.livePlaces

theorem liveFrom_filter (k : Nat) (cs : List Contrib) : liveFrom k cs = (liveFrom 0 cs).filter fun e => decide (k ≤ e.1) := by
  unfold liveFrom
  rw [List.filter_filter]
  refine List.filter_congr fun e _ => ?_
  simp

/-- The indices of a list's entries rise. -/
theorem mapFrom_rises {α : Type} (s : Nat) (cs : List α) : (mapFrom (fun i c => (i, c)) s cs).Pairwise (fun a b => a.1 < b.1) ∧
    ∀ e ∈ mapFrom (fun i c => (i, c)) s cs, s ≤ e.1 := by
  induction cs generalizing s with
  | nil => exact ⟨List.Pairwise.nil, nofun⟩
  | cons c cs ih =>
    obtain ⟨rises, above⟩ := ih (s + 1)
    refine ⟨List.Pairwise.cons (fun e h => above e h) rises, fun e h => ?_⟩
    rcases List.mem_cons.mp h with rfl | h
    · exact Nat.le_refl _
    · exact Nat.le_of_succ_le (above e h)

theorem Part.allLive_sorted (x : Part) : x.allLive.Pairwise LivePlace.before := by
  unfold Part.allLive
  rw [List.pairwise_flatMap]
  refine ⟨fun n _ => ?_, List.Pairwise.imp (fun {a b} lt p hp q hq => ?_) (List.pairwise_lt_range)⟩
  · unfold Part.livePlaces liveFrom
    rw [List.pairwise_map]
    exact ((mapFrom_rises 0 (x.mix n).contribs).1.filter _).imp fun lt => .inr ⟨rfl, lt⟩
  · obtain ⟨e, -, rfl⟩ := List.mem_map.mp hp
    obtain ⟨f, -, rfl⟩ := List.mem_map.mp hq
    exact .inl lt

/-- The places the dump looks at from a place on. -/
theorem Part.nextLive_eq (x : Part) (m k : Nat) : x.nextLive m k = (x.allLive.filter (LivePlace.atOrAfter m k)).head? := by
  unfold Part.nextLive Part.allLive
  rw [List.filter_flatMap]
  refine congrArg List.head? (congrArg (fun f => (List.range 16).flatMap f) (funext fun n => ?_))
  unfold Part.livePlaces
  rw [List.filter_map]
  by_cases below : n < m
  · rw [if_pos below]
    refine (List.map_eq_nil_iff.mpr (List.filter_eq_nil_iff.mpr fun e _ => ?_)).symm
    show ¬ (decide (m < n) || (n == m && _)) = true
    simp
    omega
  · rw [if_neg below]
    refine congrArg (List.map _) ?_
    by_cases here : n = m
    · rw [if_pos here, liveFrom_filter]
      refine List.filter_congr fun e _ => ?_
      show decide (k ≤ e.1) = (decide (m < n) || (n == m && decide (k ≤ e.1)))
      simp [here]
    · rw [if_neg here]
      refine (List.filter_eq_self.mpr fun e _ => ?_).symm
      show (decide (m < n) || (n == m && _)) = true
      simp
      omega

/-- From the place behind the first, the others. -/
theorem filter_behind (l rest : List LivePlace) (m k : Nat) (e : LivePlace) (sorted : l.Pairwise LivePlace.before)
    (first : l.filter (LivePlace.atOrAfter m k) = e :: rest) : l.filter (LivePlace.atOrAfter e.1 (e.2.1 + 1)) = rest := by
  obtain ⟨a, b, rfl, out, within, tail⟩ := List.filter_eq_cons_iff.mp first
  have sorted' := List.pairwise_append.mp sorted
  have later (p : LivePlace) (h : p ∈ b) : e.before p := (List.pairwise_cons.mp sorted'.2.1).1 p h
  have earlier (p : LivePlace) (h : p ∈ a) : p.before e := sorted'.2.2 p h e List.mem_cons_self
  have in_iff (n j : Nat) (p : LivePlace) : p.atOrAfter n j = true ↔ n < p.1 ∨ (p.1 = n ∧ j ≤ p.2.1) := by
    unfold LivePlace.atOrAfter
    simp
  have whole : b.filter (LivePlace.atOrAfter m k) = b := List.filter_eq_self.mpr fun p h => by
    have up := (in_iff m k e).mp within
    have after := later p h
    unfold LivePlace.before at after
    rw [in_iff]
    omega
  have none_ : a.filter (LivePlace.atOrAfter e.1 (e.2.1 + 1)) = [] := List.filter_eq_nil_iff.mpr fun p h => by
    have before := earlier p h
    unfold LivePlace.before at before
    rw [in_iff]
    omega
  have all : b.filter (LivePlace.atOrAfter e.1 (e.2.1 + 1)) = b := List.filter_eq_self.mpr fun p h => by
    have after := later p h
    unfold LivePlace.before at after
    rw [in_iff]
    omega
  have not_self : ¬ e.atOrAfter e.1 (e.2.1 + 1) = true := by
    rw [in_iff]
    omega
  rw [List.filter_append, none_, List.filter_cons_of_neg not_self, all, List.nil_append, ← tail, whole]

/-! ### The walk of the pointer -/

/-- One step of a dump over values that stand: the record at the pointer joins the others, and the pointer moves on. -/
def Part.dumpTake (x : Part) (a : List LaneMsg × DumpPos) : List LaneMsg × DumpPos :=
  match Part.dumpNext { x with ple := { x.ple with dump := a.2 } } with
  | some (msg, pos) => (a.1 ++ [msg], pos)
  | none => a

/-- The record of a LIVE contribution's place. -/
def Part.liveMsg (x : Part) (p : LivePlace) : LaneMsg := .echoContrib p.1 p.2.2 ((x.mix p.1).contribEcho p.2.2)

theorem Part.dumpTake_channels (x : Part) (acc : List LaneMsg) (k : Nat) (le : k ≤ 64) : x.dumpTake^[k] (acc, .channel 0) =
    (acc ++ (List.range k).map (fun n => LaneMsg.echoChannel n (x.channel n).echo), if k < 64 then .channel k else .mix 0) := by
  induction k with
  | zero => rw [Function.iterate_zero, id, List.range_zero, List.map_nil, List.append_nil]; rfl
  | succ k ih =>
    rw [Function.iterate_succ_apply', ih (by omega), if_pos (by omega), List.range_succ, List.map_append, ← List.append_assoc]
    show (_, if k < 63 then DumpPos.channel (k + 1) else .mix 0) = _
    simp only [show k < 63 ↔ k + 1 < 64 by omega]
    rfl

theorem Part.dumpTake_mixes (x : Part) (acc : List LaneMsg) (k : Nat) (le : k ≤ 16) : x.dumpTake^[k] (acc, .mix 0) =
    (acc ++ (List.range k).map (fun m => LaneMsg.echoMix m (x.mix m).echo), if k < 16 then .mix k else .contrib 0 0) := by
  induction k with
  | zero => rw [Function.iterate_zero, id, List.range_zero, List.map_nil, List.append_nil]; rfl
  | succ k ih =>
    rw [Function.iterate_succ_apply', ih (by omega), if_pos (by omega), List.range_succ, List.map_append, ← List.append_assoc]
    show (_, if k < 15 then DumpPos.mix (k + 1) else .contrib 0 0) = _
    simp only [show k < 15 ↔ k + 1 < 16 by omega]
    rfl

/-- One step among the contributions. -/
theorem Part.dumpTake_contrib (x : Part) (acc : List LaneMsg) (m k : Nat) : x.dumpTake (acc, .contrib m k) =
    match (generalizing := false) x.nextLive m k with
    | some (n, j, r) => (acc ++ [x.liveMsg (n, j, r)], .contrib n (j + 1))
    | none => (acc ++ [.echoTalkCfg x.tka.cfg], .talk .foh) := by
  unfold Part.dumpTake Part.dumpNext
  dsimp only
  have same : Part.nextLive { x with ple := { x.ple with dump := .contrib m k } } m k = x.nextLive m k := rfl
  rw [same]
  cases x.nextLive m k <;> rfl

theorem Part.dumpTake_live (x : Part) (places : List LivePlace) (acc : List LaneMsg) (m k : Nat)
    (left : x.allLive.filter (LivePlace.atOrAfter m k) = places) :
    ∃ n j, x.dumpTake^[places.length] (acc, .contrib m k) = (acc ++ places.map x.liveMsg, .contrib n j) ∧ x.nextLive n j = none := by
  induction places generalizing acc m k with
  | nil =>
    refine ⟨m, k, ?_, ?_⟩
    · rw [List.map_nil, List.append_nil]
      rfl
    · rw [x.nextLive_eq, left]
      rfl
  | cons p places ih =>
    have next : x.nextLive m k = some p := by
      rw [x.nextLive_eq, left]
      rfl
    obtain ⟨n, j, walked, ended⟩ := ih (acc ++ [x.liveMsg p]) p.1 (p.2.1 + 1) (filter_behind _ _ _ _ _ x.allLive_sorted left)
    refine ⟨n, j, ?_, ended⟩
    rw [List.length_cons, Function.iterate_succ_apply, x.dumpTake_contrib, next]
    refine walked.trans ?_
    rw [List.map_cons, List.append_assoc]
    rfl

/-- The settings after the contributions, and the end. -/
theorem Part.dumpTake_tail (x : Part) (acc : List LaneMsg) (m k : Nat) (ended : x.nextLive m k = none) :
    x.dumpTake^[6] (acc, .contrib m k) = (acc ++ [.echoTalkCfg x.tka.cfg, .echoTalk .foh x.tka.foh.echo, .echoTalk .mon x.tka.mon.echo,
      .echoTalk .stg x.tka.stg.echo, .echoLock x.chs.locks, .dumpEnd], .idle) := by
  have first : x.dumpTake (acc, .contrib m k) = (acc ++ [.echoTalkCfg x.tka.cfg], .talk .foh) := by
    rw [x.dumpTake_contrib, ended]
  rw [show (6 : Nat) = 5 + 1 from rfl, Function.iterate_succ_apply, first]
  show (((((acc ++ [_]) ++ [_]) ++ [_]) ++ [_]) ++ [_] ++ [_], DumpPos.idle) = _
  simp only [List.append_assoc, List.cons_append, List.nil_append]

/-- The LIVE contributions as the records carry them. -/
theorem Part.allLive_msgs (x : Part) : x.allLive.map x.liveMsg = (List.range 16).flatMap fun m =>
    ((x.mix m).contribs.filter fun c => c.live).map fun c => .echoContrib m c.ref ((x.mix m).contribEcho c.ref) := by
  have entries (s : Nat) (cs : List Contrib) : ((mapFrom (fun i c => (i, c)) s cs).filter fun e => e.2.live).map Prod.snd =
      cs.filter fun c => c.live := by
    induction cs generalizing s with
    | nil => rfl
    | cons c cs ih =>
      show (((s, c) :: mapFrom _ (s + 1) cs).filter _).map _ = _
      cases live : c.live
      · rw [List.filter_cons_of_neg (by simp [live]), List.filter_cons_of_neg (by simp [live]), ih]
      · rw [List.filter_cons_of_pos (by simp [live]), List.filter_cons_of_pos (by simp [live]), List.map_cons, ih]
  unfold Part.allLive
  rw [List.map_flatMap]
  refine congrArg (fun f => (List.range 16).flatMap f) (funext fun n => ?_)
  have all : liveFrom 0 (x.mix n).contribs = (mapFrom (fun i c => (i, c)) 0 (x.mix n).contribs).filter fun e => e.2.live := by
    unfold liveFrom
    refine List.filter_congr fun e _ => ?_
    simp
  unfold Part.livePlaces
  rw [all, ← entries 0, List.map_map, List.map_map]
  rfl

/-- The whole dump. -/
theorem Part.dumpTake_whole (x : Part) : x.dumpTake^[87 + x.allLive.length] ([], .begin) =
    ([LaneMsg.dumpBegin] ++ (List.range 64).map (fun n => LaneMsg.echoChannel n (x.channel n).echo) ++
      (List.range 16).map (fun m => LaneMsg.echoMix m (x.mix m).echo) ++ x.allLive.map x.liveMsg ++
      [.echoTalkCfg x.tka.cfg, .echoTalk .foh x.tka.foh.echo, .echoTalk .mon x.tka.mon.echo, .echoTalk .stg x.tka.stg.echo,
        .echoLock x.chs.locks, .dumpEnd], .idle) := by
  have begun : x.dumpTake ([], .begin) = ([LaneMsg.dumpBegin], .channel 0) := rfl
  have channels := x.dumpTake_channels [LaneMsg.dumpBegin] 64 (Nat.le_refl _)
  rw [if_neg (Nat.lt_irrefl _)] at channels
  generalize [LaneMsg.dumpBegin] ++ (List.range 64).map _ = first at channels ⊢
  have mixes := x.dumpTake_mixes first 16 (Nat.le_refl _)
  rw [if_neg (Nat.lt_irrefl _)] at mixes
  generalize first ++ (List.range 16).map _ = second at mixes ⊢
  have every : x.allLive.filter (LivePlace.atOrAfter 0 0) = x.allLive := List.filter_eq_self.mpr fun p _ => by
    unfold LivePlace.atOrAfter
    simp
    omega
  obtain ⟨n, j, lives, ended⟩ := x.dumpTake_live x.allLive second 0 0 every
  have steps : 87 + x.allLive.length = 6 + (x.allLive.length + (16 + (64 + 1))) := by omega
  rw [steps, Function.iterate_add_apply, Function.iterate_add_apply, Function.iterate_add_apply, Function.iterate_add_apply,
    Function.iterate_one, begun, channels, mixes, lives]
  exact x.dumpTake_tail _ n j ended

/-! ### The obligation -/

/-- Settles O38: the mirror's acceptance, an echo produced and what a dump has passed, the marks drained, and the whole dump. -/
theorem echoAcceptedByVersion : Obligations.EchoAcceptedByVersion := by
  refine ⟨fun x => ?_, ⟨fun t msg x built target => ⟨x.echo_unpassed t, Part.echo_passed t msg x built target⟩,
    fun m v r => m.contribEcho_eq v r, fun x n m b i src => x.passed_rules n m b i src⟩, fun targets msgs x => Part.refill_marks targets msgs x,
    fun x => ?_⟩
  · intro newer
    refine ⟨x.echoedChannel_rule, x.echoedMix_rule, fun m r e row has => ?_, fun src e => ?_, x.echoedCfg_rule, x.echoedLock_rule,
      x.dumpBegin_rule.1, x.dumpBegin_rule.2, x.dumpEnd_rule⟩
    · obtain ⟨bank, idx⟩ := r
      have rule := x.echoedContrib_rule m ⟨bank, idx⟩ e row has
      rw [refOf_isSome] at rule
      cases bank <;> exact rule
    · intro old taken held was now lost event notice
      have source : old = x.mirror.talk src := by cases src <;> rfl
      clear_value old
      subst source
      have told : notice = talkNotice src ((x.mirror.talk src).bind TalkEcho.session) e .echo := rfl
      clear_value notice
      subst told
      cases src
      case foh => exact x.echoedTalk_rule .foh e
      case mon => exact x.echoedTalk_rule .mon e
      case stg => exact x.echoedTalk_rule .stg e
  · intro take live
    have step : take = x.dumpTake := rfl
    have places : live = x.allLive.map x.liveMsg := x.allLive_msgs.symm
    clear_value take live
    subst step places
    rw [List.foldl_const, List.length_range, List.length_map]
    exact x.dumpTake_whole

end Sys2Proof.Machine
end
